-- ==== Sys2Proof/Word.lean ====
section
/-! DEFINITION. The plainest words of the BX-240 model: bytes, the two-sided pair of the duplicated
blocks, the four service levels, stamps, and the saturating and rounding arithmetic of R2. -/

namespace Sys2Proof

/-- One byte of a frame, a tag block or the journal memory. -/
abbrev Byte := BitVec 8

/-- The number of a hose or of a tank: 1 or 2 (Conventions, 2.3). -/
inductive Side where
  | one
  | two
  deriving DecidableEq, Repr

/-- The other hose. -/
def Side.other : Side → Side
  | .one => .two
  | .two => .one

/-- The two copies of a duplicated block (1.3). -/
structure Pair (α : Type) where
  one : α
  two : α
  deriving DecidableEq, Repr

/-- The copy of the given side. -/
def Pair.get {α : Type} (p : Pair α) : Side → α
  | .one => p.one
  | .two => p.two

/-- The pair with the copy of one side replaced. -/
def Pair.set {α : Type} (p : Pair α) (i : Side) (x : α) : Pair α :=
  match i with
  | .one => { p with one := x }
  | .two => { p with two := x }

@[simp] theorem Pair.get_set_self {α : Type} (p : Pair α) (i : Side) (x : α) :
    (p.set i x).get i = x := by cases i <;> rfl

@[simp] theorem Pair.get_set_other {α : Type} (p : Pair α) (i : Side) (x : α) :
    (p.set i x).get i.other = p.get i.other := by cases i <;> rfl

@[simp] theorem Pair.get_other_set {α : Type} (p : Pair α) (i : Side) (x : α) :
    (p.set i.other x).get i = p.get i := by cases i <;> rfl

theorem Pair.get_set {α : Type} (p : Pair α) (i j : Side) (x : α) :
    (p.set i x).get j = if j = i then x else p.get j := by cases i <;> cases j <;> rfl

@[simp] theorem Pair.set_set {α : Type} (p : Pair α) (i : Side) (x y : α) :
    (p.set i x).set i y = p.set i y := by cases i <;> rfl

/-- One value for each service level 1..4 (6.1). -/
structure Four (α : Type) where
  l1 : α
  l2 : α
  l3 : α
  l4 : α
  deriving DecidableEq, Repr

/-- The four values changed alike. -/
def Four.map {α β : Type} (f : α → β) (q : Four α) : Four β :=
  ⟨f q.l1, f q.l2, f q.l3, f q.l4⟩

/-- Two fours joined level by level. -/
def Four.zip {α β γ : Type} (f : α → β → γ) (p : Four α) (q : Four β) : Four γ :=
  ⟨f p.l1 q.l1, f p.l2 q.l2, f p.l3 q.l3, f p.l4 q.l4⟩

/-- The four values in level order. -/
def Four.toList {α : Type} (q : Four α) : List α := [q.l1, q.l2, q.l3, q.l4]

/-- A stamp (site time, origin station) (Conventions, 2.5). -/
structure Stamp where
  time : Nat
  station : Nat
  deriving DecidableEq, Repr

/-- Of two stamps, `a` is the newer one: the later time, or at equal times the larger station
number (Conventions, 2.5; R79). -/
def Stamp.newer (a b : Stamp) : Bool :=
  b.time < a.time || (a.time == b.time && b.station < a.station)

/-- `a` is newer than a stamp that may be absent: an absent stamp is older than every stamp (R65). -/
def Stamp.newerThan (a : Stamp) : Option Stamp → Bool
  | none => true
  | some b => a.newer b

/-- A sum that stops at a limit ("saturating"). -/
def satAdd (limit a b : Nat) : Nat := min limit (a + b)

/-- The largest value of a monitor stream count (Conventions, 2.6). -/
def countMax : Nat := 65535

/-- A monitor stream count raised by one, saturating at 65,535 (Conventions, 2.6). -/
def countUp (n : Nat) : Nat := satAdd countMax n 1

/-- A quotient rounded towards positive infinity ("Ceil", R2). -/
def ceilDiv (a b : Nat) : Nat := (a + b - 1) / b

/-- A value brought into low..high at the nearer end ("Clamp", R2). -/
def clampInt (low high x : Int) : Int := if x < low then low else if high < x then high else x

/-- a / b rounded half away from zero, for a positive b (R2). -/
def roundHalfAway (a : Int) (b : Nat) : Int :=
  if 0 ≤ a then (2 * a + b) / (2 * b) else -((2 * (-a) + b) / (2 * b))

end Sys2Proof
end

