-- ==== Sys2Proof/Syntax.lean ====
section
/-! DEFINITION. The commands of the BX-240: one constructor for each row of spec/opcode_table.json,
with the operands that the event brings from outside. Everything else an event acts on is in State. -/

namespace Sys2Proof

/-- A channel of the meter's quadrature pair (R30). -/
inductive Channel where
  | a
  | b
  deriving DecidableEq, Repr

/-- The levels on the input lines when HOLD ends (R49, R183, R28): for each hose the meter channels,
the nozzle hook switch (true: hung) and the STOP key, and the station's CLEAR, supervisor key and
emergency stop inputs. -/
structure LineLevels where
  channelA : Pair Bool
  channelB : Pair Bool
  hung : Pair Bool
  stopPressed : Pair Bool
  clearPressed : Bool
  supervisorOn : Bool
  emergencyActive : Bool
  deriving DecidableEq, Repr

/-- The reads of the start scan that the journal memory failed (R151): the header, ring positions,
and the open slot of each hose. -/
structure ScanFailures where
  header : Bool
  ring : List Nat
  openSlot : Pair Bool
  deriving DecidableEq, Repr

/-- Bytes that arrive on the site line in one command, and whether a receive gap of idle line stands before the
first of them (R123; notes/assumptions/11). -/
structure LineBytes where
  afterGap : Bool
  bytes : List Byte
  deriving DecidableEq, Repr

/-- The commands. A read of the journal memory brings `outside`: the cells that differ from what the
part last wrote there, because the setup equipment wrote them (10.3) or the device lost them. -/
inductive Instr where
  | powerStart
  | supplyDip
  | resetLine
  | holdEnd (lines : LineLevels)
  | configAreaRead (outside : List Host.Cell) (failed : Bool)
  | planAreaLoad (outside : List Host.Cell) (failed : BitVec 8)
  | journalScan (outside : List Host.Cell) (failed : ScanFailures)
  | listenEnd
  | lift (h : Side)
  | hang (h : Side)
  | liftWaitExpiry (h : Side)
  | noFlowExpiry (h : Side)
  | stallExpiry (h : Side)
  | tagLossExpiry (h : Side)
  | settleExpiry (h : Side)
  | channelEdge (h : Side) (channel : Channel) (level : Bool)
  | readerBlock (h : Side) (number : BitVec 8) (serial : Nat) (content : List Byte)
  | readerWritten (h : Side) (number : BitVec 8) (serial : Nat)
  | readerPresent (h : Side) (number : BitVec 8) (serial : Nat)
  | readerNoTag (h : Side) (number : BitVec 8)
  | readerFault (h : Side) (number : BitVec 8)
  | readerWindowExpiry (h : Side)
  | pollTimerExpiry (h : Side)
  | quietTimerExpiry (h : Side)
  | stopKey (h : Side) (pressed : Bool)
  | clearKey (pressed : Bool)
  | emergencyStopActive
  | emergencyStopInactive
  | supervisorKeyChange (on : Bool)
  | updateRequest
  | statusFrameEnd
  | issueFrame (frame : LineBytes)
  | serviceFrame (frame : LineBytes)
  | vehicleNoticeFrame (frame : LineBytes)
  | classNoticeFrame (frame : LineBytes)
  | beaconFrame (frame : LineBytes)
  | badFrame (frame : LineBytes)
  | receiveGap
  | carrier
  | guardTimePassed
  | slotCounted
  | readBackCollision
  | cleanReadBack
  | congestionExpiry
  | beaconTimerExpiry
  | peerStale (station : Nat)
  | appendComplete
  | openSlotWriteComplete
  | planWriteComplete
  | headerWriteComplete
  | sendReadComplete (outside : List Host.Cell)
  | memoryOpFailed
  | memoryOpTimeout
  | scanTimerExpiry
  | converterResponse (number : BitVec 8) (channel : BitVec 4) (code : BitVec 12)
  | converterWindowExpiry
  | failedStockTest
  | submitVehicleNotice (frame : List Byte)
  | submitClassNotice (frame : List Byte)
  | submitService (frame : List Byte)
  | setTime (frame : List Byte)
  | noticeOutputEnd
  | countsTimer
  | supplyRisesAboveThreshold
  | resetLineInactive
  | readOnlyPassEnd (outside : List Host.Cell) (failed : List Nat)
  | ringSlotWritten
  | malformedSubmission (frame : List Byte)
  deriving DecidableEq, Repr

end Sys2Proof
end

