-- ==== Sys2Proof/Decode.lean ====
section
/-! DEFINITION. The table gives no row of the BX-240 any bits: its commands are events and frames, and
the byte layouts of what they bring are read in Sys2Proof/Machine/Formats.lean. -/

namespace Sys2Proof

/-- The command that a word spells by the table's bits: none, since no row of
spec/opcode_table.json has fixed bits or fields. -/
def decodeTableWord (_nbits _w : Nat) : Option Instr := none

end Sys2Proof
end

