-- ==== Sys2Proof/Machine/Bytes.lean ====
section
/-! DEFINITION. Bit fields, bytes, check values and frames (chapter 12, 12.1 and 12.2; R123, R184,
R189), and the journal memory's cells (12.5). -/

namespace Sys2Proof.Machine

/-! ### Bit fields and byte strings -/

/-- The summed width of a row of bit fields. -/
def widthSum : List Nat → Nat
  | [] => 0
  | w :: ws => w + widthSum ws

/-- Fields (width, value) packed from the most significant bit in the order listed (chapter 12). -/
def packBits : List (Nat × Nat) → Nat
  | [] => 0
  | (w, v) :: rest => (v % 2 ^ w) * 2 ^ widthSum (rest.map Prod.fst) + packBits rest

/-- The values of fields of the given widths, read from the most significant bit (chapter 12). -/
def unpackBits : List Nat → Nat → List Nat
  | [], _ => []
  | w :: ws, n => (n / 2 ^ widthSum ws) % 2 ^ w :: unpackBits ws n

/-- A number as `k` bytes, most significant first (chapter 12). -/
def natToBytes : Nat → Nat → List Byte
  | 0, _ => []
  | k + 1, n => BitVec.ofNat 8 (n / 256 ^ k) :: natToBytes k n

/-- The number that bytes hold, most significant first (chapter 12). -/
def bytesToNat (bs : List Byte) : Nat := bs.foldl (fun acc b => acc * 256 + b.toNat) 0

/-- Fields written as bytes, packed from the most significant bit. -/
def encodeFields (fields : List (Nat × Nat)) : List Byte :=
  natToBytes (widthSum (fields.map Prod.fst) / 8) (packBits fields)

/-- A signed value in `w` bits of two's complement (chapter 12). -/
def signedCode (w : Nat) (x : Int) : Nat := (x % (2 ^ w : Nat)).toNat

/-- The signed value that a `w`-bit code stands for (chapter 12). -/
def signedValue (w n : Nat) : Int := if n < 2 ^ (w - 1) then n else (n : Int) - (2 ^ w : Nat)

/-- One byte of a list, 0 where the list is too short. -/
def byteAt (bs : List Byte) (i : Nat) : Nat := (bs.getD i 0).toNat

/-- The `n` bytes from offset `i`. -/
def slice (bs : List Byte) (i n : Nat) : List Byte := (bs.drop i).take n

/-- A byte string brought to length `n`: zeros appended or the rest cut (unused bytes are 0). -/
def padTo (n : Nat) (bs : List Byte) : List Byte := (bs ++ List.replicate n 0).take n

/-- The fields of the given widths that the first bytes hold, as many bytes as the widths fill. -/
def decodeFields (widths : List Nat) (bs : List Byte) : List Nat :=
  unpackBits widths (bytesToNat (padTo (widthSum widths / 8) bs))

/-! ### Check values (R189) -/

/-- One data bit shifted into the check register (R189). -/
def crcBit (r : BitVec 16) (d : Bool) : BitVec 16 :=
  if r.msb != d then (r <<< 1) ^^^ 0x1021#16 else r <<< 1

/-- One byte, from its most significant bit (R189). -/
def crcByte (r : BitVec 16) (b : Byte) : BitVec 16 :=
  [7, 6, 5, 4, 3, 2, 1, 0].foldl (fun r i => crcBit r (b.getLsbD i)) r

/-- The CRC-16 of R189: all ones at the start, no final inversion. -/
def crc16 (bs : List Byte) : BitVec 16 := bs.foldl crcByte 0xFFFF#16

/-- A check value stored high byte first (R189). -/
def checkBytes (bs : List Byte) : List Byte := natToBytes 2 (crc16 bs).toNat

/-- A structure with its check value after it (R189). -/
def withCheck (bs : List Byte) : List Byte := bs ++ checkBytes bs

/-- The check value at the end of a structure covers every byte ahead of it (R189). -/
def checkOk (bs : List Byte) : Bool :=
  decide (2 ≤ bs.length) && bs.drop (bs.length - 2) == checkBytes (bs.take (bs.length - 2))

/-! ### Frames (R123, R184, 12.2) -/

/-- Start mark of a frame (12.2). -/
def startMark : Byte := 0x5A

/-- A frame: start mark, length, kind, origin, body and CRC over all but the start mark (12.2, R189). -/
def frameOf (kind origin : Nat) (body : List Byte) : List Byte :=
  startMark :: withCheck (BitVec.ofNat 8 body.length :: BitVec.ofNat 8 kind :: BitVec.ofNat 8 origin :: body)

/-- What a frame holds between its length and its CRC. -/
structure Frame where
  kind : Nat
  origin : Nat
  body : List Byte
  deriving DecidableEq, Repr

/-- A frame that is neither truncated nor malformed and whose CRC is correct (R123). -/
def parseFrame : List Byte → Option Frame
  | m :: len :: kind :: origin :: rest =>
    if m = startMark ∧ len.toNat ≤ 128 ∧ rest.length = len.toNat + 2 ∧
        checkOk (len :: kind :: origin :: rest) = true then
      some ⟨kind.toNat, origin.toNat, rest.take len.toNat⟩
    else none
  | _ => none

/-- What the bytes that follow a receive gap are to the receiver (R123). -/
inductive Delimited where
  /-- No byte has arrived. -/
  | nothing
  /-- The first is no start mark: all are skipped up to the next gap. -/
  | skipped
  /-- A frame is begun and its last CRC byte has not arrived. -/
  | begun
  /-- The length is above 128: the frame ends there, and the rest is skipped. -/
  | malformed
  /-- A frame that ended with its last CRC byte; any byte behind it is skipped. -/
  | complete (frame : List Byte)
  deriving DecidableEq, Repr

/-- The receiver's delimiting of a frame (R123). -/
def delimit : List Byte → Delimited
  | [] => .nothing
  | [m] => if m = startMark then .begun else .skipped
  | m :: len :: rest =>
    if m ≠ startMark then .skipped
    else if 128 < len.toNat then .malformed
    else if rest.length < len.toNat + 4 then .begun
    else .complete (m :: len :: rest.take (len.toNat + 4))

/-- Kinds of frame (12.2). -/
inductive Kind where
  | issue
  | service
  | vehicleNotice
  | classNotice
  | beacon
  deriving DecidableEq, Repr

/-- The kind byte (12.2). -/
def Kind.code : Kind → Nat
  | .issue => 1
  | .service => 2
  | .vehicleNotice => 3
  | .classNotice => 4
  | .beacon => 5

/-- Body length of a site line frame of each kind (R123, 12.2). -/
def Kind.bodyLength : Kind → Nat
  | .issue => 121
  | .service => 19
  | .vehicleNotice => 18
  | .classNotice => 78
  | .beacon => 14

/-- A frame that passes the checks of R123: its origin, epoch and, for a record, its sequence. The
epoch of a BEACON stands in its first two body bytes; it carries no sequence of its own. -/
structure SiteFrame where
  kind : Kind
  origin : Nat
  epoch : Nat
  seq : Nat
  body : List Byte
  deriving DecidableEq, Repr

/-- The epoch of a site line frame's body (12.2). -/
def bodyEpoch (body : List Byte) : Nat := bytesToNat (slice body 0 2)

/-- The origin sequence of a record frame's body (12.2). -/
def bodySeq (body : List Byte) : Nat := bytesToNat (slice body 2 3)

/-- The checks of R123 on a frame that is to be of kind `k`: framing, CRC, kind, length, origin 1..254,
epoch 1..65,535, and for a record frame an origin sequence 1..16,777,215. -/
def siteFrame (k : Kind) (frame : List Byte) : Option SiteFrame :=
  match parseFrame frame with
  | none => none
  | some f =>
    let epoch := bodyEpoch f.body
    let seq := bodySeq f.body
    if f.kind = k.code ∧ f.body.length = k.bodyLength ∧ 1 ≤ f.origin ∧ f.origin ≤ 254 ∧ 1 ≤ epoch ∧
        (k = .beacon ∨ 1 ≤ seq) then
      some ⟨k, f.origin, epoch, if k = .beacon then 0 else seq, f.body⟩
    else none

/-- A frame passes the checks of R123 as a frame of some kind. -/
def passesChecks (frame : List Byte) : Bool :=
  [Kind.issue, .service, .vehicleNotice, .classNotice, .beacon].any fun k => (siteFrame k frame).isSome

/-- Kinds of submission (12.2). -/
inductive SubmissionKind where
  | service
  | vehicleNotice
  | classNotice
  | setTime
  deriving DecidableEq, Repr

/-- The kind byte of a submission (12.2). -/
def SubmissionKind.code : SubmissionKind → Nat
  | .service => 2
  | .vehicleNotice => 3
  | .classNotice => 4
  | .setTime => 6

/-- Body length of a submission: the record's content without its stamp time (12.2). -/
def SubmissionKind.bodyLength : SubmissionKind → Nat
  | .service => 10
  | .vehicleNotice => 9
  | .classNotice => 69
  | .setTime => 4

/-- Offset of the mask byte in the body of a notice submission (12.2). -/
def SubmissionKind.maskAt : SubmissionKind → Option Nat
  | .vehicleNotice => some 2
  | .classNotice => some 1
  | _ => none

/-- The mask bits that name a field or an item (12.2): four for a vehicle, eight for a class. -/
def SubmissionKind.maskBits : SubmissionKind → Byte
  | .vehicleNotice => 0xF0
  | _ => 0xFF

/-- Test 1 of R184 on a frame taken on the notice port that is to be of kind `k`: its body where it is
whole, its CRC, kind and length are right and the mask of a notice is not empty. -/
def submissionBody (k : SubmissionKind) (frame : List Byte) : Option (List Byte) :=
  match parseFrame frame with
  | none => none
  | some f =>
    if f.kind = k.code ∧ f.body.length = k.bodyLength ∧
        (match k.maskAt with
          | none => true
          | some i => (f.body.getD i 0) &&& k.maskBits != 0) = true then
      some f.body
    else none

/-- The frame that is taken from the bytes between two receive gaps: cut at its last CRC byte, at the gap where it
is truncated, at its length where that is malformed; none where the bytes are skipped (R123, R184). -/
def frameTaken (bytes : List Byte) : Option (List Byte) :=
  match delimit bytes with
  | .nothing => none
  | .skipped => none
  | .begun => some bytes
  | .malformed => some (bytes.take 2)
  | .complete frame => some frame

/-- A frame passes test 1 of R184 as a submission of some kind. -/
def submissionWhole (frame : List Byte) : Bool :=
  [SubmissionKind.service, .vehicleNotice, .classNotice, .setTime].any fun k =>
    (submissionBody k frame).isSome

end Sys2Proof.Machine
end

