-- ==== Sys2Proof/Config.lean ====
section
/-! DEFINITION. The fixed figures of the part, and its free values: the values that the spec leaves
open. A free value is an opaque constant; nothing in Lean can evaluate it, so a theorem about the
model holds for every value of it. -/

namespace Sys2Proof.Config

/-- The part's random draws (R124, R126, R129, R154). `random n` is the n-th draw since the start of
the run; State counts the draws. Free value: see notes/assumptions/3. -/
opaque random : Nat → Nat

/-- A byte of a structure whose write a start has cut short: the spec says only that the structure
fails its check (R149, R159). Free value: see notes/assumptions/4. -/
opaque tornByte : Nat → Nat

/-- How the part reads the two-bit codes of 12.3 to which the spec gives no meaning (code 3 of the
hour source, argument 0; of the hold, argument 1) in a carry snapshot, and code 3 of the class hold
(argument 2) in a plan record. Free value: see notes/assumptions/5. -/
opaque undefinedCode : Nat → Nat

/-- The estimate of R109 where the burn rate held is 0, which R67's range excludes but a plan record
can carry. Free value: see notes/assumptions/6. -/
opaque estimateAtZeroBurn : Nat → Nat

/-- Fleet entries (R65). -/
def fleetSize : Nat := 256
/-- Peer entries (R132). -/
def peerSize : Nat := 32
/-- Items of an absorbed list in a fleet entry (R66). -/
def listSize : Nat := 8
/-- Items of an absorbed list on a tag (R62). -/
def tagListSize : Nat := 4
/-- Vehicle numbers are 1..65,000 (R65). -/
def vehicleMax : Nat := 65000
/-- The shift use saturates here, mL (R66). -/
def useMax : Nat := 65000000
/-- Litres since service and since the reading saturate here, mL (R66). -/
def litresMax : Nat := 4000000000000
/-- Hours at service and readings, tenths (R66). -/
def hoursMax : Nat := 9999999
/-- The largest shift number (R66). -/
def shiftMax : Nat := 524287
/-- The largest origin sequence (R144). -/
def sequenceMax : Nat := 16777215
/-- The largest epoch (R144). -/
def epochMax : Nat := 65535
/-- The largest ring serial (R146). -/
def serialMax : Nat := 4294967295
/-- The totalizer counts modulo this, mL (R26). -/
def totalizerModulus : Nat := 100000000000
/-- The largest pulse count (R29). -/
def pulseMax : Nat := 4294967295
/-- The default allowance that means unlimited (R67). -/
def unlimitedAllowance : Nat := 65535
/-- The substitute temperature, tenths of a degree (R35). -/
def substituteTemperature : Int := 150
/-- A sample is fresh for this long, ms (R166). -/
def sampleLife : Nat := 30000
/-- The settle window, ms (R18). -/
def settleWindow : Nat := 3000
/-- The poll period, ms (R58). -/
def pollPeriod : Nat := 250
/-- The tag unit's quiet time after HOLD, ms (R51). -/
def quietTime : Nat := 250
/-- The LISTEN stage, ms (R179). -/
def listenTime : Nat := 30000
/-- A peer unheard for this long is STALE, ms (R133). -/
def peerLife : Nat := 30000
/-- The beacon period, ms (R124). -/
def beaconPeriod : Nat := 10000
/-- The congestion wait, ms (R124). -/
def congestionTime : Nat := 10000
/-- The scan period, ms (R161). -/
def scanPeriod : Nat := 1000
/-- The period of the COUNTS item, ms (R187). -/
def countsPeriod : Nat := 10000
/-- Waiting operations of the request queue (R150). -/
def queueSize : Nat := 6
/-- Items of the monitor queue (R187). -/
def monitorSize : Nat := 16
/-- Records of the send queue (R124). -/
def sendQueueSize : Nat := 4
/-- Ring positions that a configuration can give (R145, R177). -/
def ringMax : Nat := 32768
/-- Offsets of the journal memory's areas (12.5). -/
def planBase : Nat := 256
/-- Offset of the header (12.5). -/
def headerBase : Nat := 768
/-- Offset of the open slot of hose 1 (12.5). -/
def openBase : Nat := 1024
/-- Offset of ring slot 0 (12.5). -/
def ringBase : Nat := 1280
/-- Bytes of the journal memory's address space: the areas and the largest ring (12.5). -/
def memorySize : Nat := ringBase + 128 * ringMax

end Sys2Proof.Config
end

