-- ==== Sys2Proof/Machine/State.lean ====
section
/-! DEFINITION. The state of the BX-240 as plain data: every block of 1.3 with every item that the
spec gives it, the journal memory, and the queue of commands that wait. Every timer holds the
elapsed-base time (ms) at which it is due, or none while it is stopped. -/

namespace Sys2Proof.Machine

/-! ### Hoses (chapter 1) -/

/-- The twelve hose states, in the order of the table of R4. -/
inductive HoseState where
  | start
  | unarmed
  | idle
  | identifying
  | authorised
  | flowing
  | slowing
  | closing
  | writeback
  | recording
  | refused
  | fault
  deriving DecidableEq, Repr

/-- Valve stage (R5). -/
inductive Stage where
  | full
  | low
  | closed
  deriving DecidableEq, Repr

/-- Nozzle hook position (R3). -/
inductive Hook where
  | hung
  | lifted
  deriving DecidableEq, Repr

/-- End reasons, in the order of the table of R17. -/
inductive EndReason where
  | targetReached
  | nozzleHung
  | tagLost
  | noFlow
  | flowStall
  | holdReceived
  | allowanceReduced
  | tankCutOff
  | meterFault
  | emergencyStop
  | stopKey
  deriving DecidableEq, Repr

/-- Refusal reasons: those of R10 in order, TABLE FULL after TANK LOW, and TAG UNREADABLE (R9). -/
inductive RefusalReason where
  | stopLineActive
  | tankLow
  | tableFull
  | gradeMismatch
  | access
  | held
  | journalFull
  | serviceOverdue
  | allowanceSpent
  | tagUnreadable
  deriving DecidableEq, Repr

/-- Fault causes of a hose (R3). -/
inductive FaultCause where
  | valveLeak
  | valveOverrun
  | meterFault
  deriving DecidableEq, Repr

/-- The reason shown of a hose: a refusal reason, an end reason or a fault cause (R3). -/
inductive Reason where
  | refusal (r : RefusalReason)
  | ended (r : EndReason)
  | faulted (c : FaultCause)
  deriving DecidableEq, Repr

/-- Watch state of a reservation (R91). -/
inductive Watch where
  | intact
  | disturbed
  deriving DecidableEq, Repr

/-- The set of disturbance causes (R98). -/
structure Causes where
  useRaised : Bool
  allowanceLowered : Bool
  holdSet : Bool
  deriving DecidableEq, Repr

/-- The flags of an ISSUE record, in the order of the table of R143. -/
structure Flags where
  supervised : Bool
  unknownVehicle : Bool
  uncompensated : Bool
  hoursEstimated : Bool
  hoursBackward : Bool
  hoursClamped : Bool
  stockUnknown : Bool
  disturbed : Bool
  tagNotUpdated : Bool
  tagUpdateUnknown : Bool
  recovered : Bool
  deriving DecidableEq, Repr

/-- No flag gathered. -/
def Flags.none : Flags := ⟨false, false, false, false, false, false, false, false, false, false, false⟩

/-- No disturbance cause (R94). -/
def Causes.none : Causes := ⟨false, false, false⟩

/-- States of a service level and of a vehicle (R111), in the code order of 12.2. -/
inductive ServiceState where
  | unknown
  | current
  | approaching
  | due
  | overdue
  deriving DecidableEq, Repr

/-- The result of an evaluation (R114). -/
structure ServiceResult where
  state : ServiceState
  level : Option Nat
  unknown : Four Bool
  hours : Option Nat
  estimated : Bool
  backward : Bool
  clamped : Bool
  deriving DecidableEq, Repr

/-! ### Carries, entries and classes (chapter 4) -/

/-- A service mark: service time and service identity (R66). -/
structure Mark where
  time : Nat
  origin : Nat
  epoch : Nat
  seq : Nat
  deriving DecidableEq, Repr

/-- What a carry holds for one service level: M, H and F (R66). -/
structure Level where
  mark : Option Mark
  hours : Nat
  litres : Nat
  deriving DecidableEq, Repr

/-- Source of an hour reading (R66). -/
inductive HourSource where
  | read
  | estimated
  deriving DecidableEq, Repr

/-- An hour reading with its reading time and source (R66). -/
structure Reading where
  value : Nat
  time : Nat
  source : HourSource
  deriving DecidableEq, Repr

/-- The hold of a carry: NONE, or SET or CLEARED with its stamp (R66). -/
inductive Hold where
  | none
  | set (st : Stamp)
  | cleared (st : Stamp)
  deriving DecidableEq, Repr

/-- An item of an absorbed list (R66). -/
structure Item where
  origin : Nat
  seq : Nat
  start : Nat
  stop : Nat
  shift : Nat
  net : Nat
  final : Bool
  deriving DecidableEq, Repr

/-- The carry of a vehicle (R66). Volumes in mL, hours in tenths. -/
structure Carry where
  shift : Nat
  use : Nat
  levels : Four Level
  reading : Option Reading
  sinceReading : Nat
  hold : Hold
  list : List Item
  deriving DecidableEq, Repr

/-- A level of the blank carry (R66). -/
def Level.blank : Level := ⟨none, 0, 0⟩

/-- The blank carry (R66). -/
def Carry.blank : Carry :=
  ⟨0, 0, ⟨.blank, .blank, .blank, .blank⟩, none, 0, .none, []⟩

/-- The content of a tag's identity block (R55). -/
structure Identity where
  vehicle : Nat
  cls : Nat
  grades : BitVec 4
  attrs : BitVec 8
  deriving DecidableEq, Repr

/-- How an entry's identity fields were last obtained (R65). -/
inductive EntrySource where
  | tag
  | heard
  | notice
  deriving DecidableEq, Repr

/-- An override that may be absent, with its field stamp, which may be absent too (R65). -/
structure Override (α : Type) where
  val : Option α
  stamp : Option Stamp
  deriving DecidableEq, Repr

/-- A LIVE fleet entry (R65). -/
structure FleetEntry where
  vehicle : Nat
  source : EntrySource
  tagClass : Option Nat
  grades : BitVec 4
  tagAttrs : Option (BitVec 8)
  allowanceOv : Override Nat
  classOv : Override Nat
  attrsOv : Override (BitVec 8)
  carry : Carry
  touched : Nat
  deriving DecidableEq, Repr

/-- The fleet table: its LIVE entries (the others are FREE, R65) and the three counts of R85. -/
structure Fleet where
  entries : List FleetEntry
  late : Nat
  notApplied : Nat
  unauthorised : Nat
  deriving DecidableEq, Repr

/-- The class hold (R67). -/
inductive ClassHold where
  | none
  | set
  | cleared
  deriving DecidableEq, Repr

/-- A level plan: interval, margin and grace in hours and in litres (R106). -/
structure Plan where
  ih : Nat
  ah : Nat
  gh : Nat
  il : Nat
  al : Nat
  gl : Nat
  deriving DecidableEq, Repr

/-- An item of a class record with its own stamp (R67). -/
structure Stamped (α : Type) where
  val : α
  stamp : Option Stamp
  deriving DecidableEq, Repr

/-- A class record (R67). -/
structure ClassRecord where
  allowance : Stamped Nat
  hold : Stamped ClassHold
  returnQty : Stamped Nat
  burn : Stamped Nat
  plans : Four (Stamped Plan)
  deriving DecidableEq, Repr

/-- The empty class (R67). -/
def ClassRecord.empty : ClassRecord :=
  let p : Stamped Plan := ⟨⟨0, 0, 0, 0, 0, 0⟩, Option.none⟩
  ⟨⟨0, Option.none⟩, ⟨.none, Option.none⟩, ⟨0, Option.none⟩, ⟨100, Option.none⟩, ⟨p, p, p, p⟩⟩

/-- The class table: eight records, and the plan writes it holds back (R150), held longest first. -/
structure Classes where
  records : List ClassRecord
  heldPlans : List (Nat × ClassRecord)
  deriving DecidableEq, Repr

/-- The stand-in carry of a vehicle the table cannot hold, with its identity block (R78). -/
structure StandIn where
  identity : Identity
  carry : Carry
  deriving DecidableEq, Repr

/-! ### Records (chapter 8) -/

/-- The three forms of an ISSUE record (R142). -/
inductive Form where
  | asRecorded
  | recoveredFinal
  | recoveredLower
  deriving DecidableEq, Repr

/-- An ISSUE record, or the image of one in an open slot (R142, R149). `stop` is the end time; in an
OPEN image it is the step time. The origin is not held: it is always the station that holds it. -/
structure IssueRecord where
  epoch : Nat
  seq : Nat
  shift : Nat
  cls : Nat
  grade : Nat
  hose : Side
  form : Form
  endReason : Option EndReason
  vehicle : Nat
  start : Nat
  stop : Nat
  target : Nat
  gross : Nat
  net : Nat
  totalizer : Nat
  temperature : Int
  service : ServiceState
  level : Option Nat
  unknown : Four Bool
  causes : Causes
  flags : Flags
  snapshot : Option Carry
  deriving DecidableEq, Repr

/-- A SERVICE record (R141, 12.2). -/
structure ServiceRecord where
  vehicle : Nat
  level : Nat
  time : Nat
  hours : Nat
  stamp : Nat
  deriving DecidableEq, Repr

/-- A VEHICLE NOTICE, its mask and values as coded in 12.2 (R81, R141). -/
structure VehicleNotice where
  vehicle : Nat
  stamp : Nat
  mask : BitVec 8
  allowance : Nat
  hold : Nat
  cls : Nat
  attrs : BitVec 8
  useTag : Nat
  deriving DecidableEq, Repr

/-- A CLASS NOTICE, its mask and values as coded in 12.2 (R82, R141). -/
structure ClassNotice where
  cls : Nat
  stamp : Nat
  mask : BitVec 8
  allowance : Nat
  hold : Nat
  returnQty : Nat
  burn : Nat
  plans : Four Plan
  deriving DecidableEq, Repr

/-- A record that a station originates, with its epoch and origin sequence (R141). -/
inductive Record where
  | issue (r : IssueRecord)
  | service (epoch seq : Nat) (r : ServiceRecord)
  | vehicle (epoch seq : Nat) (r : VehicleNotice)
  | cls (epoch seq : Nat) (r : ClassNotice)
  deriving DecidableEq, Repr

/-! ### The delivery record and the hose (R3) -/

/-- The delivery record (R3). `finalImage` holds the final values once the settle window has ended:
the FINAL image of R149, from which the record is formed (R142). -/
structure Delivery where
  station : Nat
  epoch : Nat
  seq : Nat
  vehicle : Nat
  cls : Nat
  grade : Nat
  start : Nat
  shift : Nat
  target : Nat
  steps : Nat
  endReason : Option EndReason
  endTime : Option Nat
  watch : Watch
  causes : Causes
  service : ServiceResult
  flags : Flags
  pendingFault : Option FaultCause
  finalImage : Option IssueRecord
  deriving DecidableEq, Repr

/-- A hose controller (R3), with the tag absent mark (R16), the service state shown (R114), the
vehicle it holds for identification (R68) and its stand-in carry (R78). -/
structure Hose where
  state : HoseState
  hook : Hook
  stage : Stage
  pump : Bool
  delivery : Option Delivery
  reason : Option Reason
  faultCause : Option FaultCause
  lead : Nat
  totalizer : Nat
  liftWait : Option Nat
  noFlow : Option Nat
  stall : Option Nat
  tagLoss : Option Nat
  settle : Option Nat
  tagAbsent : Bool
  serviceShown : Option ServiceResult
  pinned : Option Nat
  standIn : Option StandIn
  deriving DecidableEq, Repr

/-! ### Meter units (chapter 2) -/

/-- A meter unit (R29), with the net and gross of its last update since the clear (R34). -/
structure Meter where
  levelA : Bool
  levelB : Bool
  lastEdge : Option Channel
  pulses : Nat
  faultCount : Nat
  faultReported : Bool
  gross : Nat
  weighted : Int
  uncompensated : Bool
  faultTotal : Nat
  lastNet : Nat
  lastGross : Nat
  deriving DecidableEq, Repr

/-! ### Tag exchange units (chapter 3) -/

/-- Exchange state (R51). -/
inductive ExchangeState where
  | ready
  | inFlight
  | abandoned
  deriving DecidableEq, Repr

/-- The block that a waiting read asks for (R51). -/
inductive ReadKind where
  | identity
  | hours
  | carry
  deriving DecidableEq, Repr

/-- A request served by an exchange (R53). -/
inductive Request where
  | read (k : ReadKind)
  | progress (content : List Byte)
  | writeBack (content : List Byte)
  | poll
  deriving DecidableEq, Repr

/-- The current exchange (R51): its request, the exchange number of the command in flight, the
attempts made so far, and whether no further attempt is to be made (R61, R63). -/
structure Exchange where
  request : Request
  number : BitVec 8
  attempts : Nat
  noMore : Bool
  deriving DecidableEq, Repr

/-- A tag exchange unit (R51), with the response window of the command in flight (R50). -/
structure TagUnit where
  state : ExchangeState
  current : Option Exchange
  window : Option Nat
  nextNumber : BitVec 8
  bound : Option Nat
  identity : Option Identity
  hours : Option Nat
  carry : Option Carry
  waitingRead : Option ReadKind
  waitingProgress : Option (List Byte)
  waitingWriteBack : Option (List Byte)
  polling : Bool
  pollTimer : Option Nat
  pollDue : Bool
  lastAnswered : Bool
  quiet : Option Nat
  deriving DecidableEq, Repr

/-! ### The allowance unit (chapter 5) -/

/-- An allowance in litres, or unlimited (R89). -/
inductive Allowance where
  | litres (n : Nat)
  | unlimited
  deriving DecidableEq, Repr

/-- An entry of the reservation table (R91). `rank` orders the two entries: the one granted earlier
has the lower rank (R99). -/
structure Reservation where
  vehicle : Nat
  watched : Bool
  station : Nat
  epoch : Nat
  seq : Nat
  shift : Nat
  target : Nat
  absorbed : Nat
  capped : Bool
  allowance : Allowance
  hold : Bool
  watch : Watch
  causes : Causes
  rank : Nat
  deriving DecidableEq, Repr

/-! ### The site line unit (chapter 7) -/

/-- Sender state (R124). -/
inductive SenderState where
  | idle
  | defer
  | backoff
  | send
  | congested
  deriving DecidableEq, Repr

/-- What the current frame is (R124). -/
inductive CurrentFrame where
  | beacon
  | record
  deriving DecidableEq, Repr

/-- A record of the send queue: its ring slot, kind and frame body (R124, R152). -/
structure SendRecord where
  slot : Nat
  kind : Nat
  body : List Byte
  deriving DecidableEq, Repr

/-- A LIVE or STALE entry of the peer table (R132). Bit i of `marks` is the mark of sequence H - i. -/
structure Peer where
  station : Nat
  epoch : Nat
  live : Bool
  high : Option Nat
  marks : BitVec 32
  gapRef : Option Nat
  gap : Nat
  lastHeard : Option Nat
  unsent : Option Nat
  deriving DecidableEq, Repr

/-- The site line unit (R123, R124, R132, R137, R139). `sending` is the frame on the line in SEND;
`receiveBuffer` holds the bytes of a frame begun, and while `skipping` stands the receiver skips every byte up to
the next receive gap (R123); `running` says that site time has been placed since the start and advances (R137). -/
structure SiteLine where
  rate : Nat
  sender : SenderState
  current : Option CurrentFrame
  k : Option Nat
  window : Nat
  attempts : Nat
  congestion : Option Nat
  queue : List SendRecord
  beaconTimer : Option Nat
  beaconDue : Bool
  firstAfterStart : Bool
  held : Bool
  sending : List Byte
  peers : List Peer
  receiveBuffer : List Byte
  skipping : Bool
  siteTime : Nat
  confirmed : Bool
  running : Bool
  badCrc : Nat
  clash : Nat
  deriving DecidableEq, Repr

/-! ### The journal unit (chapter 8) -/

/-- The header record (R145, 12.5). -/
structure Header where
  epoch : Nat
  slotCount : Nat
  baseSerial : Nat
  savedMark : Nat
  deriving DecidableEq, Repr

/-- The image of an open slot (R149). -/
inductive OpenImage where
  | clear
  | opened (r : IssueRecord)
  | final (r : IssueRecord)
  deriving DecidableEq, Repr

/-- Who passed an append (R148). -/
inductive AppendSource where
  | hose
  | notice
  | scan
  deriving DecidableEq, Repr

/-- A memory operation of the request queue (R150). A header write takes its image when it is served. -/
inductive MemOp where
  | progress (h : Side) (img : IssueRecord)
  | final (h : Side) (img : IssueRecord)
  | append (src : AppendSource) (pos serial : Nat) (rec : Record)
  | clearSlot (h : Side)
  | plan (cls : Nat) (rec : ClassRecord)
  | sendRead (pos : Nat)
  | header (img : Option Header)
  deriving DecidableEq, Repr

/-- The journal unit (R145). The three ring positions stand as the tail and the sizes of SENT and
UNSENT: the send mark is `sent` slots after the tail, the head `unsent` slots after the send mark. -/
structure Journal where
  header : Header
  tail : Nat
  sent : Nat
  unsent : Nat
  nextSerial : Nat
  nextToLoad : Nat
  loadHold : Option Nat
  sentSinceSave : Nat
  nextSeq : Nat
  claims : Nat
  openImages : Pair OpenImage
  queue : List MemOp
  inService : Option MemOp
  ringWritten : Bool
  opTimer : Option Nat
  pendingRecoveries : List IssueRecord
  deriving DecidableEq, Repr

/-! ### The converter scan unit and the tank units (chapter 9) -/

/-- What a scan list entry samples (R160). -/
inductive Purpose where
  | meterTemp (h : Side)
  | tankLevel (t : Side)
  deriving DecidableEq, Repr

/-- A scan list entry (R160). -/
structure ScanEntry where
  channel : BitVec 4
  purpose : Purpose
  deriving DecidableEq, Repr

/-- Scan state (R160). -/
inductive ScanState where
  | waiting
  | running
  | failed
  deriving DecidableEq, Repr

/-- A sample (R160). -/
structure Sample where
  purpose : Purpose
  code : Option (BitVec 12)
  value : Option Int
  outOfRange : Bool
  lastGood : Option Nat
  deriving DecidableEq, Repr

/-- The converter scan unit (R160), with the number and the window of the request in flight (R162). -/
structure ScanUnit where
  list : List ScanEntry
  state : ScanState
  timer : Option Nat
  current : Option Nat
  nextNumber : BitVec 8
  sentNumber : BitVec 8
  window : Option Nat
  timedOut : Bool
  timeouts : Nat
  samples : List Sample
  deriving DecidableEq, Repr

/-- A tank unit (R168): the stock last computed. Its stock state is `State.stockKnown`. -/
structure Tank where
  stock : Option Nat
  deriving DecidableEq, Repr

/-! ### Settings (chapter 10) -/

/-- A hose's group of the configuration record (R174). -/
structure HoseConfig where
  present : Bool
  grade : Nat
  tank : Side
  compare : BitVec 8
  care : BitVec 8
  km : Nat
  alpha : Nat
  maxDelivery : Nat
  band : Nat
  lead : Nat
  overrun : Nat
  faultLimit : Nat
  liftWait : Nat
  noFlow : Nat
  stall : Nat
  deriving DecidableEq, Repr

/-- A tank's group of the configuration record (R174). -/
structure TankConfig where
  span : Nat
  refuse : Nat
  cutOff : Nat
  points : List (Nat × Nat)
  deriving DecidableEq, Repr

/-- Supply threshold settings (R172). -/
inductive Threshold where
  | v285
  | v300
  deriving DecidableEq, Repr

/-- The configuration record (R174), defaults already put in. -/
structure ConfigRecord where
  station : Nat
  lineRate : Nat
  noticeEnable : Bool
  authority : List Nat
  threshold : Threshold
  classDefault : Bool
  unknownClass : Nat
  tagLoss : Nat
  minIssue : Nat
  keepTime : Nat
  shiftLength : Nat
  shiftOrigin : Nat
  nj : Nat
  journalStep : Nat
  responseWindow : Nat
  scan : List ScanEntry
  hoses : Pair HoseConfig
  tanks : Pair TankConfig
  deriving DecidableEq, Repr

/-- Start causes (R171). -/
inductive Cause where
  | powerStart
  | supplyDip
  | resetLine
  deriving DecidableEq, Repr

/-- Start stages, in the order of the table of R173. -/
inductive StartStage where
  | hold
  | config
  | journalScan
  | listen
  | run
  | configFault
  deriving DecidableEq, Repr

/-- Fault reasons of CONFIG FAULT (R175), in the code order of 12.7. -/
inductive ConfigFaultReason where
  | readFailed
  | check
  | range
  | order
  deriving DecidableEq, Repr

/-- What a start scan has found and its end puts in place: the newest record time and the totalizers of the
hoses (R26, R137, R156, R178). -/
structure ScanEnd where
  time : Nat
  totals : Pair Nat
  deriving DecidableEq, Repr

/-- The start controller (R171 to R173): stage, cause, fault reason, threshold in use, LISTEN timer,
whether the 20 ms of HOLD are being counted, the two inputs, whether CONFIG has found a good record in
this start, the failed reads of the configuration area (R175), and what a scan that waits for its header
write has found (R154, R156, R178; notes/assumptions/14). -/
structure StartCtl where
  stage : StartStage
  cause : Cause
  fault : Option ConfigFaultReason
  threshold : Threshold
  listenTimer : Option Nat
  holdCounting : Bool
  supplyGood : Bool
  resetActive : Bool
  recordGood : Bool
  failedReads : Nat
  scanEnd : Option ScanEnd
  deriving DecidableEq, Repr

/-! ### The ports (chapter 11) -/

/-- The panel port (R182, R183): the latch, the status frame being sent, and the five input levels. -/
structure Panel where
  latch : Bool
  frame : Option (List Byte)
  stopPressed : Pair Bool
  clearPressed : Bool
  supervisorOn : Bool
  emergency : Bool
  deriving DecidableEq, Repr

/-- What is on the notice port's output line (R187). -/
inductive NoticeOutput where
  | reply (frame : List Byte)
  | item (frame : List Byte)
  deriving DecidableEq, Repr

/-- The notice port (R184, R187, R188). Monitor items stand as the body of their frame (12.2). -/
structure NoticePort where
  inHand : Bool
  inputBuffer : List Byte
  reply : Option (List Byte)
  output : Option NoticeOutput
  monitor : List (List Byte)
  loss : Nat
  countsTimer : Option Nat
  deriving DecidableEq, Repr

/-! ### The refusals and faults of a command -/

/-- Why a command stops with a fault. `noSuchAddress` is raised by a read of the journal memory whose
operand names a cell outside the memory's address space (12.5). Safe: no such cell exists. -/
inductive Fault where
  | noSuchAddress
  deriving DecidableEq, Repr

/-- Why a command is refused. `notModelled` is raised by `exec` alone, for a row without a meaning;
this model has no such row. Safe: the model stops. -/
inductive Refusal where
  | notModelled (mnemonic : String)
  deriving DecidableEq, Repr

/-- The whole state. `elapsed` is the elapsed-time base in ms (2.2); `mem` the journal memory (R145)
in the canonical form of `Memory.wf`; `draws` the model's own count of free draws taken; `pending` the
commands that wait, the front first. -/
structure State where
  start : StartCtl
  elapsed : Nat
  cfg : ConfigRecord
  hoses : Pair Hose
  meters : Pair Meter
  tags : Pair TagUnit
  fleet : Fleet
  classes : Classes
  reservations : Pair (Option Reservation)
  line : SiteLine
  journal : Journal
  mem : List Host.Cell
  scan : ScanUnit
  tanks : Pair Tank
  panel : Panel
  notice : NoticePort
  draws : Nat
  pending : List Instr
  deriving DecidableEq, Repr

/-- What a command answers: a next state, a fault or a refusal. -/
abbrev Answer := Host.Outcome State Fault Refusal

/-! ### Reset values

The values of the POWER START columns of the closing tables; `notes/assumptions/2` names the ones that
no table gives. -/

/-- R28, POWER START. -/
def Hose.reset : Hose where
  state := .start
  hook := .hung
  stage := .closed
  pump := false
  delivery := none
  reason := none
  faultCause := none
  lead := 0
  totalizer := 0
  liftWait := none
  noFlow := none
  stall := none
  tagLoss := none
  settle := none
  tagAbsent := false
  serviceShown := none
  pinned := none
  standIn := none

/-- R49. -/
def Meter.reset : Meter where
  levelA := false
  levelB := false
  lastEdge := none
  pulses := 0
  faultCount := 0
  faultReported := false
  gross := 0
  weighted := 0
  uncompensated := false
  faultTotal := 0
  lastNet := 0
  lastGross := 0

/-- R64. The quiet timer starts at the end of HOLD. -/
def TagUnit.reset : TagUnit where
  state := .ready
  current := none
  window := none
  nextNumber := 0
  bound := none
  identity := none
  hours := none
  carry := none
  waitingRead := none
  waitingProgress := none
  waitingWriteBack := none
  polling := false
  pollTimer := none
  pollDue := false
  lastAnswered := true
  quiet := none

/-- R86, POWER START. -/
def Fleet.reset : Fleet := ⟨[], 0, 0, 0⟩

/-- R86: the class table before CONFIG has loaded the plan area. -/
def Classes.reset : Classes := ⟨List.replicate 8 ClassRecord.empty, []⟩

/-- R140, POWER START. Reception waits for its first receive gap (notes/assumptions/11). -/
def SiteLine.reset : SiteLine where
  rate := 9600
  sender := .idle
  current := none
  k := none
  window := 4
  attempts := 0
  congestion := none
  queue := []
  beaconTimer := none
  beaconDue := false
  firstAfterStart := true
  held := true
  sending := []
  peers := []
  receiveBuffer := []
  skipping := true
  siteTime := 0
  confirmed := false
  running := false
  badCrc := 0
  clash := 0

/-- The journal unit before the start scan: queue empty, no operation in service (R159). -/
def Journal.reset : Journal where
  header := ⟨1, 0, 1, 1⟩
  tail := 0
  sent := 0
  unsent := 0
  nextSerial := 1
  nextToLoad := 0
  loadHold := none
  sentSinceSave := 0
  nextSeq := 1
  claims := 0
  openImages := ⟨.clear, .clear⟩
  queue := []
  inService := none
  ringWritten := false
  opTimer := none
  pendingRecoveries := []

/-- R170. -/
def ScanUnit.reset : ScanUnit where
  list := []
  state := .waiting
  timer := none
  current := none
  nextNumber := 0
  sentNumber := 0
  window := none
  timedOut := false
  timeouts := 0
  samples := []

/-- A hose group before any record has been loaded. -/
def HoseConfig.blank : HoseConfig :=
  ⟨false, 0, .one, 0, 0, 0, 0, 0, 0, 0, 0, 0, 0, 0, 0⟩

/-- A tank group before any record has been loaded. -/
def TankConfig.blank : TankConfig := ⟨0, 0, 0, []⟩

/-- The settings before any record has been loaded (R181). -/
def ConfigRecord.blank : ConfigRecord where
  station := 0
  lineRate := 9600
  noticeEnable := false
  authority := []
  threshold := .v300
  classDefault := false
  unknownClass := 0
  tagLoss := 0
  minIssue := 0
  keepTime := 0
  shiftLength := 0
  shiftOrigin := 0
  nj := 0
  journalStep := 0
  responseWindow := 0
  scan := []
  hoses := ⟨.blank, .blank⟩
  tanks := ⟨.blank, .blank⟩

/-- R181, POWER START: the supply has risen past the power-on level and not yet past the threshold (R171,
R173), and the reset line is inactive. -/
def StartCtl.reset : StartCtl where
  stage := .hold
  cause := .powerStart
  fault := none
  threshold := .v300
  listenTimer := none
  holdCounting := false
  supplyGood := false
  resetActive := false
  recordGood := false
  failedReads := 0
  scanEnd := none

/-- R188. The input levels are taken when HOLD ends. -/
def Panel.reset : Panel := ⟨false, none, ⟨false, false⟩, false, false, false⟩

/-- R188. -/
def NoticePort.reset : NoticePort := ⟨false, [], none, none, [], 0, none⟩

/-- The machine right after a POWER START has begun: stage HOLD, every block at the POWER START column
of its chapter's closing table (R28, R49, R64, R86, R105, R121, R140, R159, R170, R181, R188). -/
def State.reset : State where
  start := .reset
  elapsed := 0
  cfg := .blank
  hoses := ⟨.reset, .reset⟩
  meters := ⟨.reset, .reset⟩
  tags := ⟨.reset, .reset⟩
  fleet := .reset
  classes := .reset
  reservations := ⟨none, none⟩
  line := .reset
  journal := .reset
  mem := []
  scan := .reset
  tanks := ⟨⟨none⟩, ⟨none⟩⟩
  panel := .reset
  notice := .reset
  draws := 0
  pending := []

end Sys2Proof.Machine
end

