-- ==== Sys2Proof/Machine/Formats.lean ====
section
/-! DEFINITION. The byte layouts of chapter 12: carries, tag blocks, records, journal structures, the
configuration record and the plan records (R190, R191, 12.2 to 12.6). -/

namespace Sys2Proof.Machine

/-! ### Codes -/

/-- A reading of a two-bit code to which the spec gives the meanings 0..2 (notes/assumptions/5). -/
def resolveCode (field code : Nat) : Nat := if code < 3 then code else Config.undefinedCode field % 3

/-- Hour source code (12.3). -/
def HourSource.code : HourSource → Nat
  | .read => 1
  | .estimated => 2

/-- Hold code (12.3). -/
def Hold.code : Hold → Nat
  | .none => 0
  | .set _ => 1
  | .cleared _ => 2

/-- The stamp of a hold; a hold of NONE has no stamp (R75). -/
def Hold.stamp : Hold → Option Stamp
  | .none => Option.none
  | .set st => some st
  | .cleared st => some st

/-- Class hold code (12.2). -/
def ClassHold.code : ClassHold → Nat
  | .none => 0
  | .set => 1
  | .cleared => 2

/-- The class hold that a code stands for (12.2). -/
def ClassHold.ofCode : Nat → ClassHold
  | 1 => .set
  | 2 => .cleared
  | _ => .none

/-- Service state code (12.2). -/
def ServiceState.code : ServiceState → Nat
  | .unknown => 0
  | .current => 1
  | .approaching => 2
  | .due => 3
  | .overdue => 4

/-- The service state that a code stands for (12.2). -/
def ServiceState.ofCode : Nat → ServiceState
  | 1 => .current
  | 2 => .approaching
  | 3 => .due
  | 4 => .overdue
  | _ => .unknown

/-- Form code (12.2). -/
def Form.code : Form → Nat
  | .asRecorded => 0
  | .recoveredFinal => 1
  | .recoveredLower => 2

/-- The form that a code stands for (12.2). -/
def Form.ofCode : Nat → Form
  | 1 => .recoveredFinal
  | 2 => .recoveredLower
  | _ => .asRecorded

/-- The end reasons in the order of the table of R17. -/
def EndReason.all : List EndReason :=
  [.targetReached, .nozzleHung, .tagLost, .noFlow, .flowStall, .holdReceived, .allowanceReduced, .tankCutOff,
    .meterFault, .emergencyStop, .stopKey]

/-- End reason code 1..11 (12.2). -/
def EndReason.code (r : EndReason) : Nat := EndReason.all.idxOf r + 1

/-- The end reason that a code stands for; 0 is absent (12.2). -/
def EndReason.ofCode : Nat → Option EndReason
  | 0 => none
  | n + 1 => EndReason.all[n]?

/-- A hose's code: 0 for hose 1 (12.2). -/
def Side.code : Side → Nat
  | .one => 0
  | .two => 1

/-- The side that a one-bit code stands for: a hose's code (12.2), and the tank field of a hose's group, to which
12.6 gives no code (notes/assumptions/57). -/
def Side.ofCode : Nat → Side
  | 0 => .one
  | _ => .two

/-- One bit. -/
def bitCode (b : Bool) : Nat := if b then 1 else 0

/-- The bit that a code stands for. -/
def bitOf (n : Nat) : Bool := n != 0

/-! ### The carry encoding (12.3, R190) -/

/-- mL written in whole litres, rounded down and saturating at a width (R190). -/
def litresCode (limit ml : Nat) : Nat := min (ml / 1000) limit

/-- The fields of a mark; epoch 0 for an absent mark (12.3). -/
def markFields : Option Mark → List (Nat × Nat)
  | none => [(32, 0), (8, 0), (16, 0), (24, 0)]
  | some m => [(32, m.time), (8, m.origin), (16, m.epoch), (24, m.seq)]

/-- The mark that four fields hold (12.3). -/
def markOf (time origin epoch seq : Nat) : Option Mark :=
  if epoch = 0 then none else some ⟨time, origin, epoch, seq⟩

/-- The fields of the 84-byte carry encoding in order (12.3, R190). -/
def carryFields (c : Carry) : List (Nat × Nat) :=
  let source := match c.reading with
    | none => 0
    | some r => r.source.code
  let value := match c.reading with
    | none => 0
    | some r => r.value
  let time := match c.reading with
    | none => 0
    | some r => r.time
  let stamp := (c.hold.stamp).getD ⟨0, 0⟩
  [(19, c.shift), (2, source), (2, c.hold.code), (1, 0), (16, litresCode 65535 c.use),
    (24, litresCode 16777215 c.levels.l1.litres), (24, litresCode 16777215 c.levels.l2.litres),
    (24, litresCode 16777215 c.levels.l3.litres), (24, litresCode 16777215 c.levels.l4.litres),
    (24, litresCode 16777215 c.sinceReading),
    (24, c.levels.l1.hours), (24, c.levels.l2.hours), (24, c.levels.l3.hours), (24, c.levels.l4.hours),
    (24, value), (32, time), (32, stamp.time), (8, stamp.station)] ++
  markFields c.levels.l1.mark ++ markFields c.levels.l2.mark ++ markFields c.levels.l3.mark ++
  markFields c.levels.l4.mark

/-- The widths of the carry encoding (12.3). -/
def carryWidths : List Nat :=
  [19, 2, 2, 1, 16, 24, 24, 24, 24, 24, 24, 24, 24, 24, 24, 32, 32, 8,
    32, 8, 16, 24, 32, 8, 16, 24, 32, 8, 16, 24, 32, 8, 16, 24]

/-- A carry written in 84 bytes; its absorbed list is not part of them (12.3). -/
def encodeCarry (c : Carry) : List Byte := encodeFields (carryFields c)

/-- The hour reading that its three fields hold (12.3). -/
def readingOf (source value time : Nat) : Option Reading :=
  match source with
  | 1 => some ⟨value, time, .read⟩
  | 2 => some ⟨value, time, .estimated⟩
  | _ => none

/-- The hold that its three fields hold (12.3). -/
def holdOf (code time station : Nat) : Hold :=
  match code with
  | 1 => .set ⟨time, station⟩
  | 2 => .cleared ⟨time, station⟩
  | _ => .none

/-- The carry that fields of the carry encoding hold, its list empty: litres times 1,000 (R190). -/
def carryOfFields : List Nat → Carry
  | shift :: src :: hold :: _ :: [use, f1, f2, f3, f4, lr, h1, h2, h3, h4, value, time, ht, hs,
      t1, o1, e1, s1, t2, o2, e2, s2, t3, o3, e3, s3, t4, o4, e4, s4] =>
    { shift := shift
      use := use * 1000
      levels := ⟨⟨markOf t1 o1 e1 s1, h1, f1 * 1000⟩, ⟨markOf t2 o2 e2 s2, h2, f2 * 1000⟩,
        ⟨markOf t3 o3 e3 s3, h3, f3 * 1000⟩, ⟨markOf t4 o4 e4 s4, h4, f4 * 1000⟩⟩
      reading := readingOf (resolveCode 0 src) value time
      sinceReading := lr * 1000
      hold := holdOf (resolveCode 1 hold) ht hs
      list := [] }
  | _ => Carry.blank

/-- The carry that 84 bytes hold (12.3, R190). -/
def decodeCarry (bs : List Byte) : Carry := carryOfFields (decodeFields carryWidths bs)

/-- The hour source and hold codes of a carry encoding are ones that 12.3 gives a meaning. -/
def carryCodesKnown (bs : List Byte) : Bool :=
  match decodeFields carryWidths bs with
  | _ :: src :: hold :: _ => decide (src < 3) && decide (hold < 3)
  | _ => false

/-! ### Tag blocks (12.4) -/

/-- The identity block's content where it is valid (R55). -/
def validIdentity (bs : List Byte) : Option Identity :=
  let vehicle := bytesToNat (slice bs 1 2)
  let grades := BitVec.ofNat 4 (byteAt bs 4)
  if bs.length = 8 ∧ checkOk bs = true ∧ byteAt bs 0 = 1 ∧ 1 ≤ vehicle ∧ vehicle ≤ Config.vehicleMax ∧
      byteAt bs 3 ≤ 7 ∧ grades ≠ 0 then
    some ⟨vehicle, byteAt bs 3, grades, bs.getD 5 0⟩
  else none

/-- The hours block's reading where the content is valid for the vehicle (R56): any but the no-reading
value, one above the range of R66 among them (notes/assumptions/35). -/
def validHours (vehicle : Nat) (bs : List Byte) : Option Nat :=
  let reading := bytesToNat (slice bs 3 3)
  if bs.length = 8 ∧ checkOk bs = true ∧ byteAt bs 0 = 1 ∧ bytesToNat (slice bs 1 2) = vehicle ∧
      reading ≠ 0xFFFFFF then
    some reading
  else none

/-- The key of an item is newer than another's: start time, then station, then sequence (R66). -/
def Item.newer (a b : Item) : Bool :=
  decide (b.start < a.start) ||
    (a.start == b.start && (decide (b.origin < a.origin) || (a.origin == b.origin && decide (b.seq < a.seq))))

/-- Items ordered newest first by key (R66). -/
def itemsOrdered : List Item → Bool
  | [] => true
  | [_] => true
  | a :: b :: rest => a.newer b && itemsOrdered (b :: rest)

/-- No delivery identity twice (R66). -/
def itemsDistinct : List Item → Bool
  | [] => true
  | a :: rest => (rest.all fun b => !(a.origin == b.origin && a.seq == b.seq)) && itemsDistinct rest

/-- The 18 bytes of a list item (12.4). -/
def encodeItem (i : Item) : List Byte :=
  encodeFields [(8, i.origin), (24, i.seq), (32, i.start), (32, i.stop), (19, i.shift), (1, bitCode i.final),
    (26, min i.net 67108863), (2, 0)]

/-- The item that 18 bytes hold (12.4). -/
def decodeItem (bs : List Byte) : Item :=
  match decodeFields [8, 24, 32, 32, 19, 1, 26, 2] bs with
  | [o, q, st, en, sh, fl, net, _] => ⟨o, q, st, en, sh, net, bitOf fl⟩
  | _ => ⟨0, 0, 0, 0, 0, 0, false⟩

/-- The first `n` items of a carry block (12.4). -/
def blockItems (bs : List Byte) (n : Nat) : List Item :=
  (List.range n).map fun i => decodeItem (slice bs (88 + 18 * i) 18)

/-- The parts of an identity that a station gives lie in their ranges: origin station and origin sequence
(3 of 00_scope.md). -/
def identityInRange (origin seq : Nat) : Bool :=
  decide (1 ≤ origin) && decide (origin ≤ 254) && decide (1 ≤ seq) && decide (seq ≤ Config.sequenceMax)

/-- A service mark's identity is a record identity (R66). -/
def Mark.inRange (m : Mark) : Bool :=
  identityInRange m.origin m.seq && decide (1 ≤ m.epoch) && decide (m.epoch ≤ Config.epochMax)

/-- A level's hours, litres and mark lie in the ranges of R66. -/
def Level.inRange (l : Level) : Bool :=
  decide (l.hours ≤ Config.hoursMax) && decide (l.litres ≤ Config.litresMax) &&
  (match l.mark with
    | none => true
    | some m => m.inRange)

/-- Every field of a carry lies in the range of R66 (notes/assumptions/22). -/
def carryInRange (c : Carry) : Bool :=
  decide (c.shift ≤ Config.shiftMax) && decide (c.use ≤ Config.useMax) &&
  c.levels.toList.all Level.inRange &&
  (match c.reading with
    | none => true
    | some r => decide (r.value ≤ Config.hoursMax)) &&
  decide (c.sinceReading ≤ Config.litresMax) &&
  (c.list.all fun i => identityInRange i.origin i.seq && decide (i.net ≤ Config.useMax) &&
    decide (i.shift ≤ Config.shiftMax))

/-- A carry block's content where it is usable for the vehicle (R57); otherwise it is torn or invalid. -/
def usableCarry (vehicle : Nat) (bs : List Byte) : Option Carry :=
  let count := byteAt bs 87
  let c : Carry := { decodeCarry (slice bs 3 84) with list := blockItems bs count }
  if bs.length = 162 ∧ checkOk bs = true ∧ byteAt bs 0 = 1 ∧ bytesToNat (slice bs 1 2) = vehicle ∧
      count ≤ Config.tagListSize ∧ carryCodesKnown (slice bs 3 84) = true ∧ itemsDistinct c.list = true ∧
      itemsOrdered c.list = true ∧ carryInRange c = true then
    some c
  else none

/-- The carry block that the part writes for a vehicle: the carry as it stands, its list cut to the 4
newest items (R62, 12.4). -/
def carryBlock (vehicle : Nat) (c : Carry) : List Byte :=
  let items := c.list.take Config.tagListSize
  withCheck (natToBytes 1 1 ++ natToBytes 2 vehicle ++ encodeCarry c ++ natToBytes 1 items.length ++
    padTo 72 (items.flatMap encodeItem))

/-! ### Record contents (12.2) -/

/-- The 16 bits of the flags, in the order of the table of R143 from the most significant (12.2). -/
def flagBits (f : Flags) : List (Nat × Nat) :=
  [(1, bitCode f.supervised), (1, bitCode f.unknownVehicle), (1, bitCode f.uncompensated),
    (1, bitCode f.hoursEstimated), (1, bitCode f.hoursBackward), (1, bitCode f.hoursClamped),
    (1, bitCode f.stockUnknown), (1, bitCode f.disturbed), (1, bitCode f.tagNotUpdated),
    (1, bitCode f.tagUpdateUnknown), (1, bitCode f.recovered), (5, 0)]

/-- A four of bits, level 1 first (12.2). -/
def fourBits (q : Four Bool) : List (Nat × Nat) :=
  [(1, bitCode q.l1), (1, bitCode q.l2), (1, bitCode q.l3), (1, bitCode q.l4)]

/-- The three disturbance causes (12.2). -/
def causeBits (c : Causes) : List (Nat × Nat) :=
  [(1, bitCode c.useRaised), (1, bitCode c.allowanceLowered), (1, bitCode c.holdSet)]

/-- A duration: end less start, saturating at 65,535 s (R190). -/
def durationCode (start stop : Nat) : Nat := min (stop - start) 65535

/-- A volume in 26 bits, saturating at 67,108,863 mL (R190). -/
def volumeCode (ml : Nat) : Nat := min ml 67108863

/-- The fields of bytes 0 to 31 of an ISSUE content (12.2). -/
def issueFields (r : IssueRecord) : List (Nat × Nat) :=
  [(19, r.shift), (3, r.cls), (2, r.grade), (1, Side.code r.hose), (2, r.form.code),
    (4, match r.endReason with
      | none => 0
      | some e => e.code), (1, 0),
    (16, r.vehicle), (32, r.start), (16, durationCode r.start r.stop),
    (26, volumeCode r.target), (26, volumeCode r.gross), (26, volumeCode r.net), (2, 0),
    (37, r.totalizer), (11, signedCode 11 r.temperature),
    (3, r.service.code), (3, r.level.getD 0), (2, 0)] ++
  fourBits r.unknown ++ causeBits r.causes ++ [(1, 0)] ++ flagBits r.flags

/-- The widths of bytes 0 to 31 of an ISSUE content (12.2). -/
def issueWidths : List Nat :=
  [19, 3, 2, 1, 2, 4, 1, 16, 32, 16, 26, 26, 26, 2, 37, 11, 3, 3, 2, 1, 1, 1, 1, 1, 1, 1, 1,
    1, 1, 1, 1, 1, 1, 1, 1, 1, 1, 1, 5]

/-- The carry snapshot's bytes: all zero where it is absent (12.2). -/
def encodeSnapshot : Option Carry → List Byte
  | none => List.replicate 84 0
  | some c => encodeCarry c

/-- The carry snapshot that 84 bytes hold, its list empty (12.2). -/
def decodeSnapshot (bs : List Byte) : Option Carry :=
  if bs.all (· == 0) then none else some (decodeCarry bs)

/-- The 116 bytes of an ISSUE content (12.2). -/
def encodeIssue (r : IssueRecord) : List Byte := encodeFields (issueFields r) ++ encodeSnapshot r.snapshot

/-- The ISSUE record that an epoch, a sequence and a content hold. The end time is the start time plus
the duration (R190). A level code of 0 is absent. -/
def decodeIssue (epoch seq : Nat) (bs : List Byte) : IssueRecord :=
  match decodeFields issueWidths (slice bs 0 32) with
  | sh :: cl :: gr :: ho :: fo :: er :: _ :: ve :: [st, du, ta, go, ne, _, tot, te, sv, le, _, u1, u2, u3, u4, c1, c2, c3, _,
      a1, a2, a3, a4, a5, a6, a7, a8, a9, a10, a11, _] =>
    { epoch := epoch, seq := seq, shift := sh, cls := cl, grade := gr, hose := Side.ofCode ho
      form := Form.ofCode fo, endReason := EndReason.ofCode er, vehicle := ve, start := st, stop := st + du
      target := ta, gross := go, net := ne, totalizer := tot, temperature := signedValue 11 te
      service := ServiceState.ofCode sv, level := if le = 0 then none else some le
      unknown := ⟨bitOf u1, bitOf u2, bitOf u3, bitOf u4⟩, causes := ⟨bitOf c1, bitOf c2, bitOf c3⟩
      flags := ⟨bitOf a1, bitOf a2, bitOf a3, bitOf a4, bitOf a5, bitOf a6, bitOf a7, bitOf a8, bitOf a9,
        bitOf a10, bitOf a11⟩
      snapshot := decodeSnapshot (slice bs 32 84) }
  | _ => ⟨epoch, seq, 0, 0, 0, .one, .asRecorded, none, 0, 0, 0, 0, 0, 0, 0, 0, .unknown, none,
      ⟨false, false, false, false⟩, .none, .none, none⟩

/-- The 14 bytes of a SERVICE content (12.2). -/
def encodeService (r : ServiceRecord) : List Byte :=
  encodeFields [(16, r.vehicle), (8, r.level), (32, r.time), (24, r.hours), (32, r.stamp)]

/-- The SERVICE record that a content holds (12.2). -/
def decodeService (bs : List Byte) : ServiceRecord :=
  match decodeFields [16, 8, 32, 24, 32] bs with
  | [v, l, t, h, st] => ⟨v, l, t, h, st⟩
  | _ => ⟨0, 0, 0, 0, 0⟩

/-- The 13 bytes of a VEHICLE NOTICE content (12.2). -/
def encodeVehicleNotice (n : VehicleNotice) : List Byte :=
  encodeFields [(16, n.vehicle), (32, n.stamp), (8, n.mask.toNat), (16, n.allowance), (8, n.hold), (8, n.cls),
    (8, n.attrs.toNat), (8, n.useTag)]

/-- The VEHICLE NOTICE that a content holds (12.2). -/
def decodeVehicleNotice (bs : List Byte) : VehicleNotice :=
  match decodeFields [16, 32, 8, 16, 8, 8, 8, 8] bs with
  | [v, st, m, al, ho, cl, at_, ut] => ⟨v, st, BitVec.ofNat 8 m, al, ho, cl, BitVec.ofNat 8 at_, ut⟩
  | _ => ⟨0, 0, 0, 0, 0, 0, 0, 0⟩

/-- The fields of a level plan in a CLASS NOTICE (12.2). -/
def noticePlanFields (p : Plan) : List (Nat × Nat) :=
  [(16, p.ih), (16, p.ah), (16, p.gh), (24, p.il), (24, p.al), (24, p.gl)]

/-- The 73 bytes of a CLASS NOTICE content (12.2). -/
def encodeClassNotice (n : ClassNotice) : List Byte :=
  encodeFields ([(8, n.cls), (32, n.stamp), (8, n.mask.toNat), (16, n.allowance), (8, n.hold), (16, n.returnQty),
    (16, n.burn)] ++ noticePlanFields n.plans.l1 ++ noticePlanFields n.plans.l2 ++
    noticePlanFields n.plans.l3 ++ noticePlanFields n.plans.l4)

/-- The CLASS NOTICE that a content holds (12.2). -/
def decodeClassNotice (bs : List Byte) : ClassNotice :=
  match decodeFields [8, 32, 8, 16, 8, 16, 16, 16, 16, 16, 24, 24, 24, 16, 16, 16, 24, 24, 24,
      16, 16, 16, 24, 24, 24, 16, 16, 16, 24, 24, 24] bs with
  | [c, st, m, al, ho, rq, bu, a1, a2, a3, a4, a5, a6, b1, b2, b3, b4, b5, b6, c1, c2, c3, c4, c5, c6,
      d1, d2, d3, d4, d5, d6] =>
    ⟨c, st, BitVec.ofNat 8 m, al, ho, rq, bu, ⟨⟨a1, a2, a3, a4, a5, a6⟩, ⟨b1, b2, b3, b4, b5, b6⟩,
      ⟨c1, c2, c3, c4, c5, c6⟩, ⟨d1, d2, d3, d4, d5, d6⟩⟩⟩
  | _ => ⟨0, 0, 0, 0, 0, 0, 0, ⟨⟨0, 0, 0, 0, 0, 0⟩, ⟨0, 0, 0, 0, 0, 0⟩, ⟨0, 0, 0, 0, 0, 0⟩, ⟨0, 0, 0, 0, 0, 0⟩⟩⟩

/-! ### Records as frames' bodies and in the ring (12.2, 12.5) -/

/-- Kind code of a record (12.2). -/
def Record.kind : Record → Nat
  | .issue _ => 1
  | .service _ _ _ => 2
  | .vehicle _ _ _ => 3
  | .cls _ _ _ => 4

/-- Epoch of a record's identity (R141). -/
def Record.epoch : Record → Nat
  | .issue r => r.epoch
  | .service e _ _ => e
  | .vehicle e _ _ => e
  | .cls e _ _ => e

/-- Origin sequence of a record's identity (R141). -/
def Record.seq : Record → Nat
  | .issue r => r.seq
  | .service _ q _ => q
  | .vehicle _ q _ => q
  | .cls _ q _ => q

/-- The content of a record (12.2). -/
def Record.content : Record → List Byte
  | .issue r => encodeIssue r
  | .service _ _ r => encodeService r
  | .vehicle _ _ r => encodeVehicleNotice r
  | .cls _ _ r => encodeClassNotice r

/-- A record as a frame's body: epoch, origin sequence, content (12.2). -/
def Record.body (r : Record) : List Byte := natToBytes 2 r.epoch ++ natToBytes 3 r.seq ++ r.content

/-- A record in the 122 bytes of the ring form (12.5). -/
def Record.ringForm (r : Record) : List Byte := padTo 122 (BitVec.ofNat 8 r.kind :: r.body)

/-- The 128 bytes of a ring slot: serial, record, check value (12.5). -/
def encodeSlot (serial : Nat) (r : Record) : List Byte := withCheck (natToBytes 4 serial ++ r.ringForm)

/-- What a ring slot with a correct check value holds. -/
structure RingSlot where
  serial : Nat
  kind : Nat
  epoch : Nat
  seq : Nat
  content : List Byte
  deriving DecidableEq, Repr

/-- A ring slot read, where its check value is correct (R146). -/
def decodeSlot (bs : List Byte) : Option RingSlot :=
  if bs.length = 128 ∧ checkOk bs = true then
    some ⟨bytesToNat (slice bs 0 4), byteAt bs 4, bytesToNat (slice bs 5 2), bytesToNat (slice bs 7 3),
      slice bs 10 116⟩
  else none

/-- Content length of a record kind; the frame body is 5 bytes longer (12.2). A kind that 12.2 does not give
has an empty content (notes/assumptions/37). -/
def contentLength : Nat → Nat
  | 1 => 116
  | 2 => 14
  | 3 => 13
  | 4 => 73
  | _ => 0

/-- The frame body of the record in a ring slot (12.2). -/
def RingSlot.body (s : RingSlot) : List Byte :=
  natToBytes 2 s.epoch ++ natToBytes 3 s.seq ++ s.content.take (contentLength s.kind)

/-- Record time of the record in a ring slot: the end time of an ISSUE, else the stamp time (R141); 0 where
its kind is none that 12.2 gives (notes/assumptions/37). -/
def RingSlot.time (s : RingSlot) : Nat :=
  match s.kind with
  | 1 => (decodeIssue s.epoch s.seq s.content).stop
  | 2 => (decodeService s.content).stamp
  | 3 => (decodeVehicleNotice s.content).stamp
  | 4 => (decodeClassNotice s.content).stamp
  | _ => 0

/-- State byte of an open slot (12.5). -/
def OpenImage.code : OpenImage → Nat
  | .clear => 0
  | .opened _ => 1
  | .final _ => 2

/-- The 128 bytes of an open slot (12.5). -/
def encodeOpen (i : OpenImage) : List Byte :=
  let record := match i with
    | .clear => []
    | .opened r => (Record.issue r).ringForm
    | .final r => (Record.issue r).ringForm
  withCheck (padTo 126 (BitVec.ofNat 8 i.code :: record))

/-- An open slot read: CLEAR where it fails its check (R149, R157), and where its state byte is none of the
three of 12.5; its kind byte is not read (notes/assumptions/36). -/
def decodeOpen (bs : List Byte) : OpenImage :=
  if bs.length = 128 ∧ checkOk bs = true then
    let r := decodeIssue (bytesToNat (slice bs 2 2)) (bytesToNat (slice bs 4 3)) (slice bs 7 116)
    match byteAt bs 0 with
    | 1 => .opened r
    | 2 => .final r
    | _ => .clear
  else .clear

/-- The 14 bytes of the header (12.5). -/
def encodeHeader (h : Header) : List Byte :=
  withCheck (encodeFields [(16, h.epoch), (16, h.slotCount), (32, h.baseSerial), (32, h.savedMark)])

/-- The header where its check value is correct (R154). -/
def decodeHeader (bs : List Byte) : Option Header :=
  if bs.length = 14 ∧ checkOk bs = true then
    match decodeFields [16, 16, 32, 32] (slice bs 0 12) with
    | [e, n, b, m] => some ⟨e, n, b, m⟩
    | _ => none
  else none

/-! ### Plan records (12.6, R191) -/

/-- The later of two stamps that may be absent. -/
def latestStamp : Option Stamp → Option Stamp → Option Stamp
  | none, b => b
  | a, none => a
  | some a, some b => some (if b.newer a then b else a)

/-- The newest of the item stamps of a class record (R191). -/
def ClassRecord.newestStamp (c : ClassRecord) : Option Stamp :=
  latestStamp c.allowance.stamp (latestStamp c.hold.stamp (latestStamp c.returnQty.stamp (latestStamp c.burn.stamp
    (latestStamp c.plans.l1.stamp (latestStamp c.plans.l2.stamp (latestStamp c.plans.l3.stamp
      c.plans.l4.stamp))))))

/-- The fields of a level plan in a plan record (12.6). -/
def planFields (p : Plan) : List (Nat × Nat) :=
  [(15, p.ih), (15, p.ah), (15, p.gh), (20, p.il), (20, p.al), (20, p.gl)]

/-- The 64 bytes of a class's plan record (12.6, R191). -/
def encodePlan (c : ClassRecord) : List Byte :=
  let stamp := c.newestStamp
  withCheck (encodeFields ([(16, c.allowance.val), (2, c.hold.val.code), (11, c.returnQty.val), (9, c.burn.val),
    (1, bitCode stamp.isSome), (1, 0), (32, (stamp.getD ⟨0, 0⟩).time)] ++ planFields c.plans.l1.val ++
    planFields c.plans.l2.val ++ planFields c.plans.l3.val ++ planFields c.plans.l4.val ++ [(4, 0)]))

/-- The class record that a plan record loads: every item takes the stamp (record stamp time, 254), and
a record whose check value is wrong gives the empty class (R67, R176, R191). -/
def decodePlan (bs : List Byte) : ClassRecord :=
  if bs.length = 64 ∧ checkOk bs = true then
    match decodeFields [16, 2, 11, 9, 1, 1, 32, 15, 15, 15, 20, 20, 20, 15, 15, 15, 20, 20, 20,
        15, 15, 15, 20, 20, 20, 15, 15, 15, 20, 20, 20, 4] (slice bs 0 62) with
    | [al, ho, rq, bu, pr, _, ti, a1, a2, a3, a4, a5, a6, b1, b2, b3, b4, b5, b6, c1, c2, c3, c4, c5, c6,
        d1, d2, d3, d4, d5, d6, _] =>
      let st : Option Stamp := if pr = 1 then some ⟨ti, 254⟩ else none
      { allowance := ⟨al, st⟩, hold := ⟨ClassHold.ofCode (resolveCode 2 ho), st⟩, returnQty := ⟨rq, st⟩
        burn := ⟨bu, st⟩
        plans := ⟨⟨⟨a1, a2, a3, a4, a5, a6⟩, st⟩, ⟨⟨b1, b2, b3, b4, b5, b6⟩, st⟩,
          ⟨⟨c1, c2, c3, c4, c5, c6⟩, st⟩, ⟨⟨d1, d2, d3, d4, d5, d6⟩, st⟩⟩ }
    | _ => ClassRecord.empty
  else ClassRecord.empty

/-! ### The configuration record (12.6, R174, R175) -/

/-- A value recorded as DEFAULT (0) is replaced by its default (R174, 12.6). -/
def orDefault (d n : Nat) : Nat := if n = 0 then d else n

/-- The line rate that a code stands for, where it is one of the four (12.6). -/
def rateOf : Nat → Option Nat
  | 0 => some 9600
  | 1 => some 19200
  | 2 => some 38400
  | 3 => some 57600
  | _ => none

/-- The purpose that a code stands for (12.6); any other code names a hose or tank above 2. -/
def purposeOf : Nat → Option Purpose
  | 0 => some (.meterTemp .one)
  | 1 => some (.meterTemp .two)
  | 2 => some (.tankLevel .one)
  | 3 => some (.tankLevel .two)
  | _ => none

/-- Purpose code (12.6). -/
def Purpose.code : Purpose → Nat
  | .meterTemp .one => 0
  | .meterTemp .two => 1
  | .tankLevel .one => 2
  | .tankLevel .two => 3

/-- Offset of a hose's group (12.6). -/
def hoseBase : Side → Nat
  | .one => 26
  | .two => 47

/-- Offset of a tank's group (12.6). -/
def tankBase : Side → Nat
  | .one => 68
  | .two => 117

/-- A hose's group. Its first byte holds presence, grade and tank from the most significant bit
(notes/assumptions/9). 12.6 gives the tank field no code: that 0 names tank 1 and 1 names tank 2 is the model's
choice (DESIGN CHOICE, notes/assumptions/57), which also names the codes of presence and grade. -/
def decodeHoseConfig (bs : List Byte) (i : Side) : HoseConfig :=
  let o := hoseBase i
  let b := byteAt bs o
  { present := bitOf (b / 128 % 2), grade := b / 32 % 4, tank := Side.ofCode (b / 16 % 2)
    compare := bs.getD (o + 1) 0, care := bs.getD (o + 2) 0
    km := bytesToNat (slice bs (o + 3) 3), alpha := bytesToNat (slice bs (o + 6) 2)
    maxDelivery := bytesToNat (slice bs (o + 8) 2), band := byteAt bs (o + 10)
    lead := bytesToNat (slice bs (o + 11) 2), overrun := bytesToNat (slice bs (o + 13) 2)
    faultLimit := byteAt bs (o + 15), liftWait := orDefault 60 (bytesToNat (slice bs (o + 16) 2))
    noFlow := orDefault 30 (byteAt bs (o + 18)), stall := orDefault 45 (bytesToNat (slice bs (o + 19) 2)) }

/-- A tank's group (12.6). -/
def decodeTankConfig (bs : List Byte) (i : Side) : TankConfig :=
  let o := tankBase i
  { span := bytesToNat (slice bs o 2), refuse := bytesToNat (slice bs (o + 2) 3)
    cutOff := bytesToNat (slice bs (o + 5) 3)
    points := (List.range (byteAt bs (o + 8))).map fun k =>
      (bytesToNat (slice bs (o + 9 + 5 * k) 2), bytesToNat (slice bs (o + 11 + 5 * k) 3)) }

/-- The scan list codes of the record: (channel, purpose code) of each entry (12.6). -/
def scanCodes (bs : List Byte) : List (Nat × Nat) :=
  (List.range (byteAt bs 21)).map fun k => (byteAt bs (22 + k) / 16, byteAt bs (22 + k) % 16)

/-- The authority list as recorded (12.6). -/
def authorityCodes (bs : List Byte) : List Nat := (List.range (byteAt bs 4)).map fun k => byteAt bs (5 + k)

/-- The configuration record that the 256 bytes of the configuration area hold (12.6). -/
def decodeConfig (bs : List Byte) : ConfigRecord where
  station := byteAt bs 0
  lineRate := (rateOf (byteAt bs 1)).getD 9600
  noticeEnable := bitOf (byteAt bs 2 % 2)
  authority := authorityCodes bs
  threshold := if byteAt bs 2 / 2 % 2 = 0 then .v285 else .v300
  classDefault := bitOf (byteAt bs 2 / 4 % 2)
  unknownClass := byteAt bs 3
  tagLoss := orDefault 2 (byteAt bs 9)
  minIssue := orDefault 5 (byteAt bs 10)
  keepTime := orDefault 24 (byteAt bs 11)
  shiftLength := byteAt bs 12
  shiftOrigin := bytesToNat (slice bs 13 4)
  nj := bytesToNat (slice bs 17 2)
  journalStep := orDefault 50 (byteAt bs 19)
  responseWindow := orDefault 5 (byteAt bs 20)
  scan := (scanCodes bs).filterMap fun e => (purposeOf e.2).map fun p => ⟨BitVec.ofNat 4 e.1, p⟩
  hoses := ⟨decodeHoseConfig bs .one, decodeHoseConfig bs .two⟩
  tanks := ⟨decodeTankConfig bs .one, decodeTankConfig bs .two⟩

/-- low..high, both ends included (R1). -/
def inRange (low high n : Nat) : Bool := decide (low ≤ n) && decide (n ≤ high)

/-- A tank's fields lie in their ranges (R174, R167). -/
def tankInRange (t : TankConfig) : Bool :=
  inRange 500 6000 t.span && inRange 0 200000 t.refuse && inRange 0 200000 t.cutOff &&
  inRange 2 8 t.points.length && t.points.all fun p => inRange 0 6000 p.1 && inRange 0 200000 p.2

/-- A fitted hose's fields lie in their ranges (R174). -/
def hoseInRange (h : HoseConfig) : Bool :=
  inRange 0 3 h.grade && inRange 10000 2000000 h.km && inRange 0 1500 h.alpha && inRange 50 20000 h.maxDelivery &&
  inRange 1 200 h.band && inRange 0 2000 h.lead && inRange 200 10000 h.overrun && inRange 0 255 h.faultLimit &&
  inRange 10 300 h.liftWait && inRange 5 120 h.noFlow && inRange 10 300 h.stall

/-- No two elements of a list are equal. -/
def allDistinct : List Nat → Bool
  | [] => true
  | a :: rest => !(rest.contains a) && allDistinct rest

/-- Condition 2 of R175. -/
def stationInRange (bs : List Byte) (c : ConfigRecord) : Bool :=
  inRange 1 254 c.station && (rateOf (byteAt bs 1)).isSome && inRange 0 4 (byteAt bs 4) &&
  (c.authority.all (inRange 1 254)) && allDistinct c.authority && inRange 1 10 c.tagLoss &&
  inRange 4 24 c.shiftLength && inRange 1024 32768 c.nj && inRange 5 200 c.journalStep &&
  inRange 0 7 c.unknownClass && inRange 1 50 c.minIssue && inRange 1 168 c.keepTime &&
  inRange 0 4 (byteAt bs 21) && inRange 1 20 c.responseWindow && tankInRange c.tanks.one && tankInRange c.tanks.two

/-- Levels strictly increasing and volumes not decreasing (R167). -/
def strappingOrdered : List (Nat × Nat) → Bool
  | [] => true
  | [_] => true
  | p :: q :: rest => decide (p.1 < q.1) && decide (p.2 ≤ q.2) && strappingOrdered (q :: rest)

/-- The checks of R175 on a record that has been read; the first that fails gives the reason. -/
def configFault (bs : List Byte) : Option ConfigFaultReason :=
  let c := decodeConfig bs
  if !(decide (bs.length = 256) && checkOk bs) then some .check
  else if !stationInRange bs c then some .range
  else if !((!c.hoses.one.present || hoseInRange c.hoses.one) && (!c.hoses.two.present || hoseInRange c.hoses.two)) then
    some .range
  else if !(allDistinct ((scanCodes bs).map Prod.snd) && (scanCodes bs).all fun e => (purposeOf e.2).isSome) then
    some .order
  else if !(strappingOrdered c.tanks.one.points && strappingOrdered c.tanks.two.points) then some .order
  else if !(decide (c.tanks.one.cutOff ≤ c.tanks.one.refuse) && decide (c.tanks.two.cutOff ≤ c.tanks.two.refuse)) then
    some .order
  else none

end Sys2Proof.Machine
end

