-- ==== Sys2Proof/Machine/Ops.lean ====
section
/-! DEFINITION. The named operations over the state: the journal memory, the duplicated blocks, the
settings in force, samples and time. -/

namespace Sys2Proof.Machine

/-! ### The journal memory (R145, 12.5)

A memory lists the cells that do not hold 0, by rising address; an unlisted cell reads 0
(notes/assumptions/1). -/

/-- What a cell that nothing has written reads as (notes/assumptions/1). -/
def unlisted : Byte := 0

/-- The byte at an address. -/
def memRead : List Host.Cell → Nat → Byte
  | [], _ => unlisted
  | (x, c) :: rest, a => if x = a then c else memRead rest a

/-- One byte written, keeping the canonical form. -/
def memWrite : List Host.Cell → Nat → Byte → List Host.Cell
  | [], a, b => if b = unlisted then [] else [(a, b)]
  | (x, c) :: rest, a, b =>
    if a < x then (if b = unlisted then (x, c) :: rest else (a, b) :: (x, c) :: rest)
    else if a = x then (if b = unlisted then rest else (a, b) :: rest)
    else (x, c) :: memWrite rest a b

/-- Addresses above a bound rise strictly and no entry equals what an unlisted cell reads as. -/
def Memory.wfFrom : Option Nat → List Host.Cell → Bool
  | _, [] => true
  | bound, (x, c) :: rest =>
    (match bound with
      | none => true
      | some b => decide (b < x)) && decide (c ≠ unlisted) && Memory.wfFrom (some x) rest

/-- The canonical form of a memory. -/
def Memory.wf (m : List Host.Cell) : Bool := Memory.wfFrom none m

/-- Bytes written from an address on. -/
def memWriteBytes : List Host.Cell → Nat → List Byte → List Host.Cell
  | m, _, [] => m
  | m, a, b :: bs => memWriteBytes (memWrite m a b) (a + 1) bs

/-- `n` bytes read from an address on. -/
def memReadBytes (m : List Host.Cell) (a : Nat) : Nat → List Byte
  | 0 => []
  | n + 1 => memRead m a :: memReadBytes m (a + 1) n

/-- Cells set one after another: what others have put into the external memory. -/
def memSetCells (m : List Host.Cell) (cells : List Host.Cell) : List Host.Cell :=
  cells.foldl (fun m c => memWrite m c.1 c.2) m

/-- The offset of a hose's open slot (12.5). -/
def openAddress (h : Side) : Nat := Config.openBase + 128 * Side.code h

/-- The offset of a ring slot (12.5). -/
def slotAddress (pos : Nat) : Nat := Config.ringBase + 128 * pos

/-- The offset of a class's plan record (12.5). -/
def planAddress (cls : Nat) : Nat := Config.planBase + 64 * cls

/-! ### The duplicated blocks -/

namespace State

/-- The hose controller of one hose. -/
def hose (s : State) (h : Side) : Hose := s.hoses.get h
/-- The meter unit of one hose. -/
def meter (s : State) (h : Side) : Meter := s.meters.get h
/-- The tag exchange unit of one hose. -/
def tag (s : State) (h : Side) : TagUnit := s.tags.get h
/-- The reservation entry of one hose. -/
def reservation (s : State) (h : Side) : Option Reservation := s.reservations.get h
/-- The settings of one hose. -/
def hoseCfg (s : State) (h : Side) : HoseConfig := s.cfg.hoses.get h
/-- The settings of one tank. -/
def tankCfg (s : State) (t : Side) : TankConfig := s.cfg.tanks.get t

/-- One hose controller replaced. -/
def setHose (s : State) (h : Side) (x : Hose) : State := { s with hoses := s.hoses.set h x }
/-- One meter unit replaced. -/
def setMeter (s : State) (h : Side) (x : Meter) : State := { s with meters := s.meters.set h x }
/-- One tag exchange unit replaced. -/
def setTag (s : State) (h : Side) (x : TagUnit) : State := { s with tags := s.tags.set h x }
/-- One reservation entry replaced. -/
def setReservation (s : State) (h : Side) (x : Option Reservation) : State :=
  { s with reservations := s.reservations.set h x }
/-- One tank unit replaced. -/
def setTank (s : State) (t : Side) (x : Tank) : State := { s with tanks := s.tanks.set t x }
/-- The journal unit replaced. -/
def setJournal (s : State) (x : Journal) : State := { s with journal := x }
/-- The journal memory replaced. -/
def setMem (s : State) (x : List Host.Cell) : State := { s with mem := x }
/-- The site line unit replaced. -/
def setLine (s : State) (x : SiteLine) : State := { s with line := x }
/-- The fleet table replaced. -/
def setFleet (s : State) (x : Fleet) : State := { s with fleet := x }
/-- The class table replaced. -/
def setClasses (s : State) (x : Classes) : State := { s with classes := x }
/-- The converter scan unit replaced. -/
def setScan (s : State) (x : ScanUnit) : State := { s with scan := x }
/-- The notice port replaced. -/
def setNotice (s : State) (x : NoticePort) : State := { s with notice := x }
/-- The panel port replaced. -/
def setPanel (s : State) (x : Panel) : State := { s with panel := x }
/-- The start controller replaced. -/
def setStart (s : State) (x : StartCtl) : State := { s with start := x }

/-- A draw of the part's random source, reduced below `n`, and the state after it
(notes/assumptions/3). -/
def draw (s : State) (n : Nat) : Nat × State := (Config.random s.draws % n, { s with draws := s.draws + 1 })

/-- A hose that a good configuration record says is not fitted takes no hook, key or meter event (R4). -/
def unfitted (s : State) (h : Side) : Bool := s.start.recordGood && !(s.hoseCfg h).present

/-- Normal work: stage RUN (R180). -/
def inRun (s : State) : Bool := s.start.stage == .run

/-- From the start of LISTEN on a good record: reception judges records, the journal unit serves its
queue (R179). -/
def listening (s : State) : Bool := s.start.stage == .listen || s.start.stage == .run

/-- The current shift (R87). -/
def currentShift (s : State) : Nat :=
  if s.line.siteTime < s.cfg.shiftOrigin then 0
  else (s.line.siteTime - s.cfg.shiftOrigin) / (s.cfg.shiftLength * 3600)

/-- The sample of a purpose, where the scan list holds it (R160). -/
def sample (s : State) (p : Purpose) : Option Sample := s.scan.samples.find? fun x => x.purpose == p

/-- A sample is fresh (R166). -/
def fresh (s : State) (x : Sample) : Bool :=
  match x.lastGood with
  | none => false
  | some g => decide (s.elapsed - g < Config.sampleLife)

/-- The stock state of a tank as a reader finds it: KNOWN while its level sample is fresh (R168). -/
def stockKnown (s : State) (t : Side) : Bool :=
  match s.sample (.tankLevel t) with
  | none => false
  | some x => s.fresh x

end State

/-- AUTHORISED, FLOWING or SLOWING: the states in which fuel may pass (R5). -/
def HoseState.open : HoseState → Bool
  | .authorised | .flowing | .slowing => true
  | _ => false

/-- A live delivery (Terms; R91): AUTHORISED, FLOWING, SLOWING or CLOSING. -/
def HoseState.live : HoseState → Bool
  | .authorised | .flowing | .slowing | .closing => true
  | _ => false

/-- Hose state code, 0..11 in the order of the table of R4 (12.2). -/
def HoseState.code : HoseState → Nat
  | .start => 0
  | .unarmed => 1
  | .idle => 2
  | .identifying => 3
  | .authorised => 4
  | .flowing => 5
  | .slowing => 6
  | .closing => 7
  | .writeback => 8
  | .recording => 9
  | .refused => 10
  | .fault => 11

/-- Where a hose goes at the end of a cycle: IDLE if HUNG, UNARMED if LIFTED (R7, R18, R22, R24). -/
def Hook.rest : Hook → HoseState
  | .hung => .idle
  | .lifted => .unarmed

/-- The two valve outputs and the pump run output (R5). -/
structure Outputs where
  mainOpen : Bool
  bypassOpen : Bool
  pumpRun : Bool
  deriving DecidableEq, Repr

/-- What a hose drives: its stage and pump, all forced off while the emergency stop line is active
(R5). -/
def State.outputs (s : State) (h : Side) : Outputs :=
  if s.panel.emergency then ⟨false, false, false⟩
  else match (s.hose h).stage with
    | .full => ⟨true, true, (s.hose h).pump⟩
    | .low => ⟨false, true, (s.hose h).pump⟩
    | .closed => ⟨false, false, (s.hose h).pump⟩

end Sys2Proof.Machine
end

