-- ==== Sys2Proof/Machine/Carries.lean ====
section
/-! DEFINITION. The absorb, the carry merge, SERVICE adoption and the hours block on one carry
(R72, R73, R75, R108, R117 to R119). -/

namespace Sys2Proof.Machine

/-- Of two service marks, `a` is the newer: service time, then identity on station, epoch, sequence
(R66). -/
def Mark.newer (a b : Mark) : Bool :=
  decide (b.time < a.time) || (a.time == b.time &&
    (decide (b.origin < a.origin) || (a.origin == b.origin &&
      (decide (b.epoch < a.epoch) || (a.epoch == b.epoch && decide (b.seq < a.seq))))))

/-- A present mark is newer than an absent one (R66). -/
def markNewer : Option Mark → Option Mark → Bool
  | none, _ => false
  | some _, none => true
  | some a, some b => a.newer b

/-- A level that takes an applied amount: F rises where M is absent or the end time is later (R73). -/
def Level.apply (stop a : Nat) (l : Level) : Level :=
  match l.mark with
  | none => { l with litres := satAdd Config.litresMax l.litres a }
  | some m => if m.time < stop then { l with litres := satAdd Config.litresMax l.litres a } else l

/-- An amount applied for a delivery with the given shift and end time (R73). -/
def Carry.apply (c : Carry) (shift stop a : Nat) : Carry :=
  { c with
    shift := if c.shift < shift then shift else c.shift
    use := if shift = c.shift then satAdd Config.useMax c.use a
      else if c.shift < shift then min Config.useMax a else c.use
    levels := c.levels.map (Level.apply stop a)
    sinceReading := satAdd Config.litresMax c.sinceReading a }

/-- The item is of the delivery (origin, seq). -/
def Item.is (origin seq : Nat) (i : Item) : Bool := i.origin == origin && i.seq == seq

/-- An item put at its place by key (R72 case 3). -/
def insertItem (d : Item) : List Item → List Item
  | [] => [d]
  | i :: rest => if d.newer i then d :: i :: rest else i :: insertItem d rest

/-- A listed item after another report of its delivery (R72 case 1). -/
def Item.report (i d : Item) : Item :=
  { i with
    net := max i.net d.net
    stop := if i.net < d.net ∨ (d.final = true ∧ i.final = false) then d.stop else i.stop
    final := i.final || d.final }

/-- The absorb (R72): the carry after it, and whether it was turned away as too old. -/
def Carry.absorb (c : Carry) (d : Item) : Carry × Bool :=
  match c.list.find? (Item.is d.origin d.seq) with
  | some i =>
    let c1 : Carry := { c with list := c.list.map fun j => if Item.is d.origin d.seq j then j.report d else j }
    (if i.net < d.net then c1.apply d.shift d.stop (d.net - i.net) else c1, false)
  | none =>
    if Config.listSize ≤ c.list.length then
      match c.list.getLast? with
      | some o =>
        if o.newer d then (c, true)
        else (({ c with list := insertItem d c.list.dropLast } : Carry).apply d.shift d.stop d.net, false)
      | none => (c, true)
    else (({ c with list := insertItem d c.list } : Carry).apply d.shift d.stop d.net, false)

/-- Items absorbed in the list's order, with the count of those turned away (R75 step 1). -/
def Carry.absorbAll : Carry → List Item → Carry × Nat
  | c, [] => (c, 0)
  | c, d :: rest =>
    let (c1, late) := c.absorb d
    let (c2, n) := c1.absorbAll rest
    (c2, n + bitCode late)

/-- One level of the merge (R75 step 3). -/
def Level.merge (l x : Level) : Level :=
  if markNewer x.mark l.mark then x
  else if x.mark = l.mark then { l with litres := max l.litres x.litres }
  else l

/-- A level brought into line with the one above it (R75 step 4). -/
def Level.enforce (lo hi : Level) : Level :=
  let a : Level := if markNewer hi.mark lo.mark then { lo with mark := hi.mark, hours := hi.hours } else lo
  let b : Level := if a.mark.isSome && hi.mark.isSome then { a with hours := max a.hours hi.hours } else a
  { b with litres := min b.litres hi.litres }

/-- The enforcement of the levels from 3 down to 1 (R75 step 4). -/
def enforceLevels (q : Four Level) : Four Level :=
  let l3 := q.l3.enforce q.l4
  let l2 := q.l2.enforce l3
  let l1 := q.l1.enforce l2
  ⟨l1, l2, l3, q.l4⟩

/-- A carry put through step 4 of R75. -/
def Carry.enforced (c : Carry) : Carry := { c with levels := enforceLevels c.levels }

/-- Steps 2 to 6 of the carry merge (R75). -/
def Carry.mergeValues (c x : Carry) : Carry :=
  let takesReading : Bool := match x.reading, c.reading with
    | none, _ => false
    | some _, none => true
    | some a, some b => decide (b.time < a.time)
  let takesHold : Bool := match x.hold.stamp with
    | none => false
    | some st => st.newerThan c.hold.stamp
  { c with
    shift := if c.shift < x.shift then x.shift else c.shift
    use := if c.shift < x.shift then x.use else if x.shift = c.shift then max c.use x.use else c.use
    levels := enforceLevels (c.levels.zip Level.merge x.levels)
    reading := if takesReading then x.reading else c.reading
    sinceReading := if takesReading then x.sinceReading else c.sinceReading
    hold := if takesHold then x.hold else c.hold }

/-- The carry merge (R75), with the count of list items turned away. -/
def Carry.merge (c x : Carry) : Carry × Nat :=
  let (c1, late) := c.absorbAll x.list
  (c1.mergeValues x, late)

/-- The sum of the nets of the items that ended later than a service time (R117). -/
def listSumAfter (t : Nat) (items : List Item) : Nat :=
  min Config.litresMax (items.foldl (fun n i => if t < i.stop then n + i.net else n) 0)

/-- One level under a SERVICE record's mark (R117). -/
def Level.adopt (m : Mark) (hours sum : Nat) (l : Level) : Level :=
  if markNewer (some m) l.mark then ⟨some m, hours, sum⟩ else l

/-- A SERVICE record adopted into a carry: R117 for levels 1 up to the record's, R118, R119. One taken again
after a merge has lowered the reading raises it again (notes/assumptions/55). -/
def Carry.adopt (c : Carry) (m : Mark) (level hours : Nat) : Carry :=
  let sum := listSumAfter m.time c.list
  let at_ (j : Nat) (l : Level) : Level := if j ≤ level then l.adopt m hours sum else l
  let raises : Bool := match c.reading with
    | none => true
    | some r => decide (r.value < hours)
  { c with
    levels := enforceLevels ⟨at_ 1 c.levels.l1, at_ 2 c.levels.l2, at_ 3 c.levels.l3, at_ 4 c.levels.l4⟩
    reading := if raises then some ⟨hours, m.time, .read⟩ else c.reading
    sinceReading := if raises then 0 else c.sinceReading }

/-- The flags that R108 and R109 give a delivery. -/
structure HoursFlags where
  estimated : Bool
  backward : Bool
  clamped : Bool
  deriving DecidableEq, Repr

/-- The bound of R108: the reading, one tenth for each 360 s elapsed, rounded up, and ten tenths. -/
def hoursBound (r : Reading) (now : Nat) : Nat := r.value + ceilDiv (now - r.time) 360 + 10

/-- The hours block applied to a carry (R108), with the flags of R108 and R109. Neither a valid reading nor
the bound is cut to the range of R66 (notes/assumptions/35). -/
def Carry.applyHours (c : Carry) (hours : Option Nat) (now : Nat) : Carry × HoursFlags :=
  match hours with
  | none => (c, ⟨true, false, false⟩)
  | some n =>
    match c.reading with
    | none => ({ c with reading := some ⟨n, now, .read⟩, sinceReading := 0 }, ⟨false, false, false⟩)
    | some r =>
      if n < r.value then (c, ⟨false, true, false⟩)
      else if n ≤ hoursBound r now then
        ({ c with reading := some ⟨n, now, .read⟩, sinceReading := 0 }, ⟨false, false, false⟩)
      else
        ({ c with reading := some ⟨hoursBound r now, now, .estimated⟩, sinceReading := 0 }, ⟨false, false, true⟩)

/-- The shift use in force of a carry against a shift (R88). -/
def Carry.useAgainst (c : Carry) (k : Nat) : Nat := if c.shift = k then c.use else 0

end Sys2Proof.Machine
end

