-- ==== Sys2Proof/Machine/Monitor.lean ====
section
/-! DEFINITION. The notice port's output: replies and the monitor stream (R184, R187, 12.2, 12.7). -/

namespace Sys2Proof.Machine

/-- Reason shown code (12.7): end reasons 1..11, refusal reasons 16..25, fault causes 32..34. -/
def Reason.code : Reason → Nat
  | .ended r => r.code
  | .refusal .stopLineActive => 16
  | .refusal .tankLow => 17
  | .refusal .tableFull => 18
  | .refusal .gradeMismatch => 19
  | .refusal .access => 20
  | .refusal .held => 21
  | .refusal .journalFull => 22
  | .refusal .serviceOverdue => 23
  | .refusal .allowanceSpent => 24
  | .refusal .tagUnreadable => 25
  | .faulted .valveLeak => 32
  | .faulted .valveOverrun => 33
  | .faulted .meterFault => 34

/-- An optional reason's code; an absent reason is 0 (12.7). -/
def reasonCode : Option Reason → Nat
  | none => 0
  | some r => r.code

/-- Service state and level in one byte, as byte 28 of the ISSUE content (12.2); an absent service state shown
is the byte 0 (notes/assumptions/51). -/
def serviceByte : Option ServiceResult → Nat
  | none => 0
  | some r => r.state.code * 32 + (r.level.getD 0) * 4

/-- The line takes the waiting reply, or else the next monitor item, while nothing is on it (R187). -/
def NoticePort.feed (n : NoticePort) : NoticePort :=
  match n.output, n.reply, n.monitor with
  | none, some r, _ => { n with output := some (.reply r), reply := none }
  | none, none, m :: rest => { n with output := some (.item (frameOf 8 0 m)), monitor := rest }
  | _, _, _ => n

/-- An item enters the monitor queue, or is dropped and counted while the queue holds 16 (R187). -/
def NoticePort.enqueue (n : NoticePort) (item : List Byte) : NoticePort :=
  if n.monitor.length < Config.monitorSize then ({ n with monitor := n.monitor ++ [item] } : NoticePort).feed
  else { n with loss := countUp n.loss }

/-- A monitor item is made: only from the start of LISTEN and where the notice port is enabled (R187). -/
def State.monitor (s : State) (item : List Byte) : State :=
  if s.cfg.noticeEnable && s.listening then s.setNotice (s.notice.enqueue item) else s

/-- Reasons of a refused submission (R184), in code order (12.2). -/
inductive SubmissionRefusal where
  | malformed
  | notAuthorised
  | outOfRange
  | journalFull
  deriving DecidableEq, Repr

/-- Reason code of a reply (12.2). -/
def SubmissionRefusal.code : SubmissionRefusal → Nat
  | .malformed => 1
  | .notAuthorised => 2
  | .outOfRange => 3
  | .journalFull => 4

/-- The frame of a reply: ACCEPTED, or REFUSED with one reason (12.2). -/
def replyFrame : Option SubmissionRefusal → List Byte
  | none => frameOf 7 0 [0, 0]
  | some r => frameOf 7 0 [1, BitVec.ofNat 8 r.code]

/-- A reply waits for the output line, and goes as soon as it is free (R184, R187). -/
def State.reply (s : State) (r : Option SubmissionRefusal) : State :=
  s.setNotice ({ s.notice with reply := some (replyFrame r) } : NoticePort).feed

/-- The vehicle of a hose where it is known: of its delivery, else of the identity block last read;
0 where neither stands (12.2). -/
def State.knownVehicle (s : State) (h : Side) : Nat :=
  match (s.hose h).delivery, (s.tag h).identity with
  | some d, _ => d.vehicle
  | none, some i => i.vehicle
  | none, none => 0

/-- The HOSE item of a hose as it stands (R187, 12.2). -/
def State.hoseItem (s : State) (h : Side) : State :=
  s.monitor ([4, BitVec.ofNat 8 (Side.code h)] ++ natToBytes 2 (s.knownVehicle h) ++
    [BitVec.ofNat 8 (reasonCode (s.hose h).reason), BitVec.ofNat 8 (serviceByte (s.hose h).serviceShown)])

/-- The HEARD item of an accepted record (R135, R187). -/
def State.heardItem (s : State) (f : SiteFrame) : State :=
  s.monitor ([1, BitVec.ofNat 8 f.origin, BitVec.ofNat 8 f.kind.code] ++ f.body)

/-- The OWN item of a completed append (R148, R158, R187). -/
def State.ownItem (s : State) (r : Record) : State := s.monitor ([2, BitVec.ofNat 8 r.kind] ++ r.body)

/-- The BEACON item (R136, R187). -/
def State.beaconItem (s : State) (f : SiteFrame) : State := s.monitor ([3, BitVec.ofNat 8 f.origin] ++ f.body)

/-- Scan state code (12.7). -/
def ScanState.code : ScanState → Nat
  | .waiting => 0
  | .running => 1
  | .failed => 2

/-- One sample of the COUNTS item (12.2). -/
def State.sampleBytes (s : State) (x : Sample) : List Byte :=
  [BitVec.ofNat 8 x.purpose.code] ++ natToBytes 2 (signedCode 16 (x.value.getD 0)) ++
    [BitVec.ofNat 8 (bitCode x.value.isSome + 2 * bitCode x.outOfRange + 4 * bitCode (s.fresh x))]

/-- The COUNTS item (R187, 12.2). -/
def State.countsBody (s : State) : List Byte :=
  [5] ++ natToBytes 2 s.line.badCrc ++ natToBytes 2 s.line.clash ++ natToBytes 2 s.fleet.late ++
    natToBytes 2 s.fleet.notApplied ++ natToBytes 2 s.fleet.unauthorised ++
    natToBytes 2 s.meters.one.faultTotal ++ natToBytes 2 s.meters.two.faultTotal ++ natToBytes 2 s.notice.loss ++
    [BitVec.ofNat 8 s.scan.state.code, BitVec.ofNat 8 s.scan.samples.length] ++ s.scan.samples.flatMap s.sampleBytes

/-- One peer entry of a PEERS item (12.2). -/
def Peer.bytes (p : Peer) : List Byte :=
  natToBytes 1 p.station ++ natToBytes 1 (if p.live then 1 else 2) ++ natToBytes 2 p.epoch ++
    natToBytes 3 (p.high.getD 0) ++ natToBytes 2 p.gap ++ natToBytes 2 (p.unsent.getD 0xFFFF)

/-- The PEERS items: up to 8 entries each (R187); 32 entries make at most 4. -/
def peerBodies : Nat → List Peer → List (List Byte)
  | 0, _ => []
  | _, [] => []
  | n + 1, p :: ps =>
    let group := (p :: ps).take 8
    ([6, BitVec.ofNat 8 group.length] ++ group.flatMap Peer.bytes) :: peerBodies n ((p :: ps).drop 8)

/-- The COUNTS item and then its PEERS items enter the monitor queue (R187; the order: notes/assumptions/24). -/
def State.countsItems (s : State) : State :=
  (peerBodies 4 s.line.peers).foldl (fun s b => s.monitor b) (s.monitor s.countsBody)

end Sys2Proof.Machine
end

