-- ==== Sys2Proof/Machine/JournalUnit.lean ====
section
/-! DEFINITION. The journal unit in its running state: ring positions, claims, sequences, slot
assignment, the request queue, send reads and the send mark (R144 to R153, R158). -/

namespace Sys2Proof.Machine

/-! ### Ring positions (R146) -/

/-- The send mark: SENT slots lie from the tail up to it (R146). -/
def Journal.sendMark (j : Journal) (nj : Nat) : Nat := (j.tail + j.sent) % nj

/-- The head: UNSENT slots lie from the send mark up to it (R146). -/
def Journal.head (j : Journal) (nj : Nat) : Nat := (j.tail + j.sent + j.unsent) % nj

/-- The FREE count (R146). -/
def Journal.free (j : Journal) (nj : Nat) : Nat := nj - j.sent - j.unsent

/-- The reclaimable slots: FREE plus SENT (R146). -/
def Journal.reclaimable (j : Journal) (nj : Nat) : Nat := j.free nj + j.sent

/-- The ring serials left, from next serial up to the greatest (R146). -/
def Journal.serialsLeft (j : Journal) : Nat := Config.serialMax + 1 - j.nextSerial

/-- How many slots a position lies after another in the ring. -/
def ringDistance (nj a b : Nat) : Nat := (b + nj - a % nj) % nj

/-- A position holds an UNSENT slot (R146). -/
def Journal.unsentAt (j : Journal) (nj pos : Nat) : Bool :=
  decide (ringDistance nj (j.sendMark nj) pos < j.unsent)

/-- The ring serial of the slot at the send mark: serials rise by 1 to the slot before the head (R146). With no
slot UNSENT the send mark is the head, and its serial is the one that the next append takes (notes/assumptions/49). -/
def Journal.markSerial (j : Journal) : Nat := j.nextSerial - j.unsent

/-- The ring serial expected at an UNSENT position (R146, R152). -/
def Journal.expectedSerial (j : Journal) (nj pos : Nat) : Nat :=
  j.markSerial + ringDistance nj (j.sendMark nj) pos

/-! ### Claims (R147) -/

/-- A claim is available: reclaimable slots less claims held is at least 1, and more ring serials are
left than claims held (R146, R147). -/
def Journal.claimAvailable (j : Journal) (nj : Nat) : Bool :=
  decide (j.claims + 1 ≤ j.reclaimable nj) && decide (j.claims < j.serialsLeft)

/-- An operation that occupies a hose's entry on behalf of the start scan: a recovered append or a CLEAR
write (R150). -/
def MemOp.scanEntryOf (h : Side) : MemOp → Bool
  | .append .scan _ _ (.issue r) => r.hose == h
  | .clearSlot k => k == h
  | _ => false

/-- The operations waiting and in service. -/
def Journal.operations (j : Journal) : List MemOp := j.inService.toList ++ j.queue

/-- A claim is available to a hose (R147, R150). -/
def Journal.claimAvailableFor (j : Journal) (nj : Nat) (h : Side) : Bool :=
  j.claimAvailable nj && !(j.operations.any (MemOp.scanEntryOf h))

/-! ### The request queue (R150) -/

/-- A plan write. -/
def MemOp.isPlan : MemOp → Bool
  | .plan _ _ => true
  | _ => false

/-- A header write. -/
def MemOp.isHeader : MemOp → Bool
  | .header _ => true
  | _ => false

/-- A send read. -/
def MemOp.isSendRead : MemOp → Bool
  | .sendRead _ => true
  | _ => false

/-- A progress rewrite of the hose. -/
def MemOp.isProgressOf (h : Side) : MemOp → Bool
  | .progress k _ => k == h
  | _ => false

/-- A FINAL rewrite of the hose. -/
def MemOp.isFinalOf (h : Side) : MemOp → Bool
  | .final k _ => k == h
  | _ => false

/-- The append of the slot at a position. -/
def MemOp.isAppendAt (pos : Nat) : MemOp → Bool
  | .append _ p _ _ => p == pos
  | _ => false

/-- Where no operation is in service, the one at the head of the queue enters it: a header write takes
the header image as it then stands, and after a plan write the class table passes the plan write held
longest (R150). -/
def State.serveNext (s : State) : State :=
  let j := s.journal
  match j.inService, j.queue with
  | none, op :: rest =>
    let op1 := match op with
      | .header _ => .header (some j.header)
      | op => op
    let j1 : Journal := { j with inService := some op1, queue := rest, ringWritten := false
                                 opTimer := some (s.elapsed + 100) }
    match op1, s.classes.heldPlans with
    | .plan _ _, (c, r) :: held =>
      (s.setJournal { j1 with queue := rest ++ [.plan c r] }).setClasses { s.classes with heldPlans := held }
    | _, _ => s.setJournal j1
  | _, _ => s

/-- An operation enters the queue at the back, and is served where nothing is in service (R150). -/
def State.pushOp (s : State) (op : MemOp) : State :=
  (s.setJournal { s.journal with queue := s.journal.queue ++ [op] }).serveNext

/-- A progress rewrite passed by a hose: it replaces a waiting one in place; it is refused where all 6
places are taken (R150). -/
def State.requestProgress (s : State) (h : Side) (img : IssueRecord) : State :=
  let j := s.journal
  if j.queue.any (MemOp.isProgressOf h) then
    s.setJournal { j with queue := j.queue.map fun op => if op.isProgressOf h then .progress h img else op }
  else if Config.queueSize ≤ j.queue.length then s
  else s.pushOp (.progress h img)

/-- A FINAL rewrite passed by a hose: it replaces a waiting progress rewrite in place (R150). -/
def State.requestFinal (s : State) (h : Side) (img : IssueRecord) : State :=
  let j := s.journal
  if j.queue.any (MemOp.isProgressOf h) then
    s.setJournal { j with queue := j.queue.map fun op => if op.isProgressOf h then .final h img else op }
  else s.pushOp (.final h img)

/-- A header write requested: joined to a waiting one (R150). -/
def State.requestHeader (s : State) : State :=
  if s.journal.queue.any MemOp.isHeader then s else s.pushOp (.header none)

/-- A plan write passed by the class table: held back while one waits, at most one for each class, the
image of a held one brought up to date (R83, R150). -/
def State.requestPlan (s : State) (cls : Nat) (r : ClassRecord) : State :=
  if s.journal.queue.any MemOp.isPlan then
    let held := s.classes.heldPlans
    s.setClasses { s.classes with
      heldPlans := if held.any (fun p => p.1 == cls) then held.map fun p => if p.1 == cls then (cls, r) else p
        else held ++ [(cls, r)] }
  else s.pushOp (.plan cls r)

/-- A send read requested where R152's four conditions hold. -/
def State.requestSendRead (s : State) : State :=
  let j := s.journal
  let nj := s.cfg.nj
  if s.line.queue.length < Config.sendQueueSize ∧ j.operations.any MemOp.isSendRead = false ∧
      j.loadHold = none ∧ j.unsentAt nj j.nextToLoad = true ∧
      j.operations.any (MemOp.isAppendAt j.nextToLoad) = false then
    s.pushOp (.sendRead j.nextToLoad)
  else s

/-! ### Appends (R148) -/

/-- The slot assigned to an append: the head where FREE is not empty, else the oldest SENT slot, whose
record is given up (R148). -/
def Journal.assign (j : Journal) (nj : Nat) : Journal :=
  if 0 < j.free nj then { j with unsent := j.unsent + 1, nextSerial := j.nextSerial + 1 }
  else { j with tail := (j.tail + 1) % nj, sent := j.sent - 1, unsent := j.unsent + 1
                nextSerial := j.nextSerial + 1 }

/-- A slot can be assigned: there is a reclaimable slot, and the serial does not pass the greatest
(R146, R148). -/
def Journal.canAssign (j : Journal) (nj : Nat) : Bool :=
  decide (1 ≤ j.reclaimable nj) && decide (j.nextSerial ≤ Config.serialMax)

/-- An append passed to the journal unit is given its slot and enters the queue; a hose's append removes
its waiting FINAL rewrite (R148, R150). -/
def State.passAppend (s : State) (src : AppendSource) (r : Record) : State :=
  let nj := s.cfg.nj
  let j := s.journal
  if j.canAssign nj then
    let queue := match src, r with
      | .hose, .issue i => j.queue.filter fun op => !(op.isFinalOf i.hose)
      | _, _ => j.queue
    (s.setJournal { j.assign nj with queue := queue }).pushOp (.append src (j.head nj) j.nextSerial r)
  else s

/-- The oldest pending recovery is given a slot where there is one (R158). -/
def State.giveRecovery (s : State) : State :=
  match s.journal.pendingRecoveries with
  | [] => s
  | r :: rest =>
    if s.journal.canAssign s.cfg.nj then
      (s.setJournal { s.journal with pendingRecoveries := rest }).passAppend .scan (.issue r)
    else s

/-! ### Sequences (R144) -/

/-- The sequence counter after a value has been taken: past 16,777,215 the epoch advances, 65,535
followed by 1 (R144). -/
def Journal.advanceSeq (j : Journal) : Journal :=
  if j.nextSeq = Config.sequenceMax then
    { j with nextSeq := 1
             header := { j.header with epoch := if j.header.epoch = Config.epochMax then 1 else j.header.epoch + 1 } }
  else { j with nextSeq := j.nextSeq + 1 }

/-- An origin sequence taken: next sequence rises, and an epoch advance requests a header write (R144). -/
def State.takeSequence (s : State) : State :=
  let s1 := s.setJournal s.journal.advanceSeq
  if s.journal.nextSeq = Config.sequenceMax then s1.requestHeader else s1

/-! ### The send mark (R152, R153) -/

/-- The send mark advances by one: the slot becomes SENT, every 16th saves the mark and requests a header
write, and the oldest pending recovery is given a slot (R153, R158). The header write enters the queue ahead
of the recovered append (notes/assumptions/39). -/
def State.advanceMark (s : State) : State :=
  let j := s.journal
  if j.unsent = 0 then s
  else
    let j1 : Journal := { j with sent := j.sent + 1, unsent := j.unsent - 1 }
    if j.sentSinceSave + 1 = 16 then
      let j2 : Journal := { j1 with sentSinceSave := 0, header := { j1.header with savedMark := j1.markSerial } }
      ((s.setJournal j2).requestHeader).giveRecovery
    else (s.setJournal { j1 with sentSinceSave := j.sentSinceSave + 1 }).giveRecovery

/-- When the send mark reaches a held position, the unreadable slot is passed over: the mark advances,
load hold clears, and next to load becomes the new send mark (R152). -/
def State.passOver (s : State) : State :=
  let nj := s.cfg.nj
  if s.journal.loadHold = some (s.journal.sendMark nj) then
    let s1 := s.advanceMark
    s1.setJournal { s1.journal with loadHold := none, nextToLoad := s1.journal.sendMark nj }
  else s

/-- A record reported sent by the site line unit (R129, R153). -/
def State.recordSent (s : State) : State := s.advanceMark.passOver

/-- A ring slot as the memory holds it, where its check value is correct. -/
def State.ringSlot (s : State) (pos : Nat) : Option RingSlot :=
  decodeSlot (memReadBytes s.mem (slotAddress pos) 128)

/-- A send read of a position has completed: the record goes to the back of the send queue, or load hold
is set on the unreadable slot (R152). -/
def State.sendReadDone (s : State) (pos : Nat) (slot : Option RingSlot) : State :=
  let nj := s.cfg.nj
  let j := s.journal
  match slot with
  | some x =>
    if x.serial = j.expectedSerial nj pos then
      (s.setLine { s.line with queue := s.line.queue ++ [⟨pos, x.kind, x.body⟩] }).setJournal
        { j with nextToLoad := (pos + 1) % nj }
    else (s.setJournal { j with loadHold := some pos }).passOver
  | none => (s.setJournal { j with loadHold := some pos }).passOver

/-- The operation in service has ended. -/
def State.endService (s : State) : State :=
  s.setJournal { s.journal with inService := none, ringWritten := false, opTimer := none }

/-- An image of a hose's open slot replaced (R149). -/
def State.setOpenImage (s : State) (h : Side) (i : OpenImage) : State :=
  s.setJournal { s.journal with openImages := s.journal.openImages.set h i }

/-- An open slot written whole into the memory, and its image updated (R149). -/
def State.writeOpen (s : State) (h : Side) (i : OpenImage) : State :=
  (s.setMem (memWriteBytes s.mem (openAddress h) (encodeOpen i))).setOpenImage h i

end Sys2Proof.Machine
end

