-- ==== Sys2Proof/Machine/FleetTable.lean ====
section
/-! DEFINITION. Finding, making and losing fleet entries; effective values; the service evaluation
(R65 to R71, R76, R79, R89, R90, R106 to R112). -/

namespace Sys2Proof.Machine

/-! ### Entries (R65, R68 to R71) -/

/-- The LIVE entry of a vehicle. -/
def State.entry (s : State) (v : Nat) : Option FleetEntry := s.fleet.entries.find? fun e => e.vehicle == v

/-- An entry replaced by one of the same vehicle. -/
def State.setEntry (s : State) (e : FleetEntry) : State :=
  s.setFleet { s.fleet with entries := s.fleet.entries.map fun x => if x.vehicle == e.vehicle then e else x }

/-- The late-not-absorbed count raised (R85). -/
def State.countLate (s : State) (n : Nat) : State :=
  s.setFleet { s.fleet with late := satAdd countMax s.fleet.late n }

/-- The not-applied count raised (R85). -/
def State.countNotApplied (s : State) : State :=
  s.setFleet { s.fleet with notApplied := countUp s.fleet.notApplied }

/-- The unauthorised-notice count raised (R80, R85). -/
def State.countUnauthorised (s : State) : State :=
  s.setFleet { s.fleet with unauthorised := countUp s.fleet.unauthorised }

/-- A hold that is SET. -/
def Hold.isSet : Hold → Bool
  | .set _ => true
  | _ => false

/-- A hose's reservation names the vehicle. -/
def reservedFor (v : Nat) : Option Reservation → Bool
  | none => false
  | some r => r.vehicle == v

/-- A LIVE entry is pinned: by a reservation, a SET hold, an override, or a hose's identification (R68). -/
def State.isPinned (s : State) (e : FleetEntry) : Bool :=
  reservedFor e.vehicle s.reservations.one || reservedFor e.vehicle s.reservations.two ||
  e.carry.hold.isSet || e.allowanceOv.val.isSome || e.classOv.val.isSome || e.attrsOv.val.isSome ||
  s.hoses.one.pinned == some e.vehicle || s.hoses.two.pinned == some e.vehicle

/-- Of two entries, the one to evict first: the older last-touched time, then the lower vehicle number
(R68 to R70). -/
def olderEntry (a b : FleetEntry) : FleetEntry :=
  if b.touched < a.touched ∨ (b.touched = a.touched ∧ b.vehicle < a.vehicle) then b else a

/-- The unpinned entry with the oldest last-touched time (R69, R70). -/
def State.evictable (s : State) : Option FleetEntry :=
  match s.fleet.entries.filter fun e => !s.isPinned e with
  | [] => none
  | e :: rest => some (rest.foldl olderEntry e)

/-- Room for a new entry: a FREE one, else the evictable entry made FREE where `ok` holds of it. -/
def State.makeRoom (s : State) (ok : FleetEntry → Bool) : Option (List FleetEntry) :=
  if s.fleet.entries.length < Config.fleetSize then some s.fleet.entries
  else match s.evictable with
    | none => none
    | some e => if ok e then some (s.fleet.entries.filter fun x => x.vehicle != e.vehicle) else none

/-- An absent override without a stamp. -/
def Override.absent {α : Type} : Override α := ⟨none, none⟩

/-- A new entry added where room can be made. -/
def State.addEntry (s : State) (ok : FleetEntry → Bool) (e : FleetEntry) : Option State :=
  (s.makeRoom ok).map fun es => s.setFleet { s.fleet with entries := es ++ [e] }

/-- An entry made for a heard record or a notice (R70). -/
def FleetEntry.heardNew (v : Nat) (src : EntrySource) (cls : Option Nat) (now : Nat) : FleetEntry where
  vehicle := v
  source := src
  tagClass := cls
  grades := 0
  tagAttrs := none
  allowanceOv := .absent
  classOv := .absent
  attrsOv := .absent
  carry := .blank
  touched := now

/-- The state with the vehicle's entry found, or made by R70: an eviction needs a last-touched time at
least the keep time back. -/
def State.findOrMake (s : State) (v : Nat) (src : EntrySource) (cls : Option Nat) : Option State :=
  match s.entry v with
  | some _ => some s
  | none =>
    s.addEntry (fun e => decide (e.touched + s.cfg.keepTime * 3600 ≤ s.line.siteTime))
      (FleetEntry.heardNew v src cls s.line.siteTime)

/-! ### Effective values (R79, R89, R90) -/

/-- The effective class: the class override, else the tag class (R79). -/
def FleetEntry.effectiveClass (e : FleetEntry) : Option Nat :=
  match e.classOv.val with
  | some c => some c
  | none => e.tagClass

/-- The effective attributes (R79). -/
def FleetEntry.effectiveAttrs (e : FleetEntry) : BitVec 8 :=
  match e.attrsOv.val with
  | some a => a
  | none => e.tagAttrs.getD 0

/-- A class record (R67). -/
def State.classRecord (s : State) (c : Nat) : ClassRecord := s.classes.records.getD c ClassRecord.empty

/-- The class values of an entry: those of its effective class (R79). -/
def State.classOf (s : State) (e : FleetEntry) : Option ClassRecord := e.effectiveClass.map s.classRecord

/-- A class hold that is SET. -/
def ClassHold.isSet : ClassHold → Bool
  | .set => true
  | _ => false

/-- SET where the carry hold or the class hold is SET (R79). -/
def holdInForce (c : Carry) (cls : Option ClassRecord) : Bool :=
  c.hold.isSet || (match cls with
    | none => false
    | some r => r.hold.val.isSet)

/-- The default allowance of a class: litres, or unlimited at 65,535 (R89). -/
def ClassRecord.defaultAllowance (c : ClassRecord) : Allowance :=
  if c.allowance.val = Config.unlimitedAllowance then .unlimited else .litres c.allowance.val

/-- The base allowance: the override, else the class default, else 0 L (R89). -/
def baseAllowance (override : Option Nat) (cls : Option ClassRecord) : Allowance :=
  match override, cls with
  | some n, _ => .litres n
  | none, some c => c.defaultAllowance
  | none, none => .litres 0

/-- The effective allowance: a capped vehicle is held to the return quantity of its class (R90). -/
def effectiveAllowance (capped : Bool) (base : Allowance) (cls : Option ClassRecord) : Allowance :=
  if capped then
    let q := match cls with
      | none => 0
      | some c => c.returnQty.val
    match base with
    | .unlimited => .litres q
    | .litres n => .litres (min n q)
  else base

/-! ### The service evaluation (R106 to R112) -/

/-- The three thresholds of one limit in the units of the carry; none where the interval is 0 (R106). -/
def thresholds (unit interval margin grace : Nat) : Option (Nat × Nat × Nat) :=
  if interval = 0 then none
  else some ((interval - margin) * unit, interval * unit, (interval + grace) * unit)

/-- Whether a measure reaches one of the thresholds; not where the limit or the measure is absent (R111). -/
def reaches (pick : Nat × Nat × Nat → Nat) (limit : Option (Nat × Nat × Nat)) (measure : Option Nat) : Bool :=
  match limit, measure with
  | some t, some m => decide (pick t ≤ m)
  | _, _ => false

/-- A level plan whose two intervals are both 0 is of an unused level (R106). -/
def Plan.unused (p : Plan) : Bool := p.ih == 0 && p.il == 0

/-- The state of one level, none for an unused one (R110, R111). -/
def levelState (p : Plan) (l : Level) (hours : Option Nat) : Option ServiceState :=
  if p.unused then none
  else
    let since := hours.map fun r => r - l.hours
    let th := thresholds 10 p.ih p.ah p.gh
    let tl := thresholds 1000 p.il p.al p.gl
    let meets (pick : Nat × Nat × Nat → Nat) : Bool := reaches pick th since || reaches pick tl (some l.litres)
    if l.mark = none then some .unknown
    else if meets fun t => t.2.2 then some .overdue
    else if meets fun t => t.2.1 then some .due
    else if meets fun t => t.1 then some .approaching
    else some .current

/-- The worse of two results (state, level): the larger state, and at equal states the later level
(R112). -/
def worse (acc : Option (ServiceState × Nat)) (x : Option ServiceState × Nat) : Option (ServiceState × Nat) :=
  match acc, x with
  | acc, (none, _) => acc
  | none, (some st, l) => some (st, l)
  | some (a, la), (some st, l) => if a.code ≤ st.code then some (st, l) else some (a, la)

/-- The effective hours (R109). -/
def effectiveHours (c : Carry) (burn : Nat) : Option Nat :=
  c.reading.map fun r =>
    min Config.hoursMax (r.value +
      (if burn = 0 then Config.estimateAtZeroBurn c.sinceReading else ceilDiv c.sinceReading (burn * 100)))

/-- The evaluation of a carry under a class's plans and burn rate (R109 to R112, R114). -/
def evaluate (c : Carry) (cls : ClassRecord) (f : HoursFlags) : ServiceResult :=
  let hours := effectiveHours c cls.burn.val
  let states := cls.plans.zip (fun p l => levelState p.val l hours) c.levels
  let worst := [(states.l1, 1), (states.l2, 2), (states.l3, 3), (states.l4, 4)].foldl worse none
  { state := match worst with
      | none => .current
      | some w => w.1
    level := worst.map Prod.snd
    unknown := states.map fun x => x == some .unknown
    hours := hours
    estimated := f.estimated, backward := f.backward, clamped := f.clamped }

end Sys2Proof.Machine
end

