-- ==== Sys2Proof/Machine/Tags.lean ====
section
/-! DEFINITION. The tag exchange unit's own moves: exchanges, attempts, polling, abandons (R50 to R63). -/

namespace Sys2Proof.Machine

/-- Response window of a request's command in ms: READ 60, WRITE 250, PROBE 30 (R50). -/
def Request.window : Request → Nat
  | .read _ => 60
  | .progress _ => 250
  | .writeBack _ => 250
  | .poll => 30

/-- Attempts of a request: a presence poll has one, any other up to 3 (R52, R58). -/
def Request.maxAttempts : Request → Nat
  | .poll => 1
  | _ => 3

/-- An exchange begun for a request: the first command is sent with the next exchange number, and poll due
is cleared (R51, R52, R53). -/
def TagUnit.begin (u : TagUnit) (now : Nat) (r : Request) : TagUnit :=
  { u with state := .inFlight, current := some ⟨r, u.nextNumber, 1, false⟩, nextNumber := u.nextNumber + 1
           window := some (now + r.window), pollDue := false }

/-- The next attempt of an exchange, with a new exchange number (R52). -/
def TagUnit.retry (u : TagUnit) (now : Nat) (x : Exchange) : TagUnit :=
  { u with current := some { x with number := u.nextNumber, attempts := x.attempts + 1 }
           nextNumber := u.nextNumber + 1, window := some (now + x.request.window), pollDue := false }

/-- A READY unit whose quiet timer has expired serves what waits: the write-back, then the progress write,
then the read, then a due poll (R52, R53). -/
def TagUnit.serve (u : TagUnit) (now : Nat) : TagUnit :=
  if u.state = .ready ∧ u.quiet = none then
    match u.waitingWriteBack, u.waitingProgress, u.waitingRead with
    | some w, _, _ => ({ u with waitingWriteBack := none } : TagUnit).begin now (.writeBack w)
    | none, some p, _ => ({ u with waitingProgress := none } : TagUnit).begin now (.progress p)
    | none, none, some k => ({ u with waitingRead := none } : TagUnit).begin now (.read k)
    | none, none, none => if u.polling && u.pollDue then u.begin now .poll else u
  else u

/-- An exchange ended: the unit is READY (R52). A poll that fell due while it was in flight is not sent
separately: the exchange stood for it (R53; notes/assumptions/45). -/
def TagUnit.toReady (u : TagUnit) : TagUnit :=
  { u with state := .ready, current := none, window := none, pollDue := false }

/-- The bound serial and the last blocks read cleared (R54, R63). -/
def TagUnit.forget (u : TagUnit) : TagUnit :=
  { u with bound := none, identity := none, hours := none, carry := none }

/-- An abandon: the waiting read, the bound serial and the blocks are discarded, and an exchange in flight
is ABANDONED (R54). -/
def TagUnit.abandon (u : TagUnit) : TagUnit :=
  let u1 : TagUnit := { u.forget with waitingRead := none }
  if u.state = .inFlight then { u1 with state := .abandoned } else u1

/-- Polling turned on at the grant (R58). -/
def TagUnit.pollingOn (u : TagUnit) (now : Nat) : TagUnit :=
  { u with polling := true, pollTimer := some (now + Config.pollPeriod), pollDue := false, lastAnswered := true }

/-- An exchange that is to make no attempt after the one in flight. -/
def Exchange.lastAttempt (x : Exchange) : Exchange := { x with noMore := true }

/-- A progress write. -/
def Request.isProgress : Request → Bool
  | .progress _ => true
  | _ => false

/-- A write-back. -/
def Request.isWriteBack : Request → Bool
  | .writeBack _ => true
  | _ => false

/-- A WRITE command (R50). -/
def Request.isWrite : Request → Bool
  | .progress _ => true
  | .writeBack _ => true
  | _ => false

/-- An exchange of a request that `p` picks makes no attempt after the one in flight. -/
def stopAttempts (p : Request → Bool) : Option Exchange → Option Exchange
  | none => none
  | some x => some (if p x.request then x.lastAttempt else x)

/-- The end of a delivery at the unit: polling off, the waiting progress write discarded, one in flight in
its last attempt (R58, R61). -/
def TagUnit.deliveryEnd (u : TagUnit) : TagUnit :=
  { u with polling := false, pollTimer := none, pollDue := false, waitingProgress := none
           current := stopAttempts Request.isProgress u.current }

/-- A READ IDENTITY asked for at the start of a cycle (R8, R51). -/
def TagUnit.startCycle (u : TagUnit) (now : Nat) : TagUnit :=
  ({ u.forget with waitingRead := some .identity } : TagUnit).serve now

/-- A request placed in its waiting place and served where the unit is READY. -/
def TagUnit.askRead (u : TagUnit) (now : Nat) (k : ReadKind) : TagUnit :=
  ({ u with waitingRead := some k } : TagUnit).serve now

/-- A progress write placed, replacing one not yet started (R60). -/
def TagUnit.askProgress (u : TagUnit) (now : Nat) (content : List Byte) : TagUnit :=
  ({ u with waitingProgress := some content } : TagUnit).serve now

/-- A write-back placed (R63). -/
def TagUnit.askWriteBack (u : TagUnit) (now : Nat) (content : List Byte) : TagUnit :=
  ({ u with waitingWriteBack := some content } : TagUnit).serve now

/-- A poll result, while polling is on: whether the attempt was answered (R59), and the tag-loss timer of
the hose (R16). -/
def State.pollResult (s : State) (h : Side) (answered : Bool) : State :=
  let u := s.tag h
  if u.polling then
    let hose := s.hose h
    let timer := if answered then none
      else match hose.tagLoss with
        | some t => some t
        | none => some (s.elapsed + s.cfg.tagLoss * 1000)
    (s.setTag h { u with lastAnswered := answered }).setHose h { hose with tagLoss := timer }
  else s

end Sys2Proof.Machine
end

