-- ==== Sys2Proof/Machine/Deliveries.lean ====
section
/-! DEFINITION. What happens to a live delivery from inside and outside: its end, its reservation and
watch, its own absorbs (R17, R18, R84, R95 to R104). -/

namespace Sys2Proof.Machine

/-- A delivery's carry: the entry's, or the stand-in's where it is flagged UNKNOWN VEHICLE (R62, R74,
R78). -/
def State.carryOf (s : State) (h : Side) (d : Delivery) : Carry :=
  if d.flags.unknownVehicle then
    match (s.hose h).standIn with
    | some x => x.carry
    | none => Carry.blank
  else match s.entry d.vehicle with
    | some e => e.carry
    | none => Carry.blank

/-! ### Ends (R17, R18) -/

/-- A delivery ended with gross 0 and no step taken is dropped: reservation and claim released, no record;
METER FAULT leads to FAULT, any other reason to IDLE or UNARMED (R18). -/
def State.dropDelivery (s : State) (h : Side) (r : EndReason) : State :=
  let hose : Hose := { s.hose h with delivery := none, standIn := none }
  let s1 := (s.setReservation h none).setJournal { s.journal with claims := s.journal.claims - 1 }
  if r = .meterFault then
    (s1.setHose h { hose with state := .fault, faultCause := some .meterFault
                              reason := some (.faulted .meterFault) }).hoseItem h
  else s1.setHose h { hose with state := hose.hook.rest }

/-- The end of a live delivery (R16, R17, R18, R58, R59, R61). Nothing where the hose is not in
AUTHORISED, FLOWING or SLOWING. -/
def State.endDelivery (s : State) (h : Side) (r : EndReason) : State :=
  let hose := s.hose h
  match hose.delivery with
  | none => s
  | some d =>
    if hose.state.open then
      let u := s.tag h
      let ended : Hose := { hose with
        delivery := some { d with endReason := some r, endTime := some s.line.siteTime }
        noFlow := none, stall := none, tagLoss := none, stage := .closed, pump := false
        reason := some (.ended r)
        tagAbsent := hose.tagAbsent || !u.lastAnswered || r == .tagLost || r == .nozzleHung }
      let s1 := ((s.setTag h u.deliveryEnd).setHose h ended).hoseItem h
      if 0 < (s.meter h).gross ∨ 1 ≤ d.steps then
        s1.setHose h { ended with state := .closing, settle := some (s.elapsed + Config.settleWindow) }
      else s1.dropDelivery h r
    else s

/-! ### Reservations (R91, R95, R96) -/

/-- The outstanding part of an entry (R91). -/
def Reservation.outstanding (r : Reservation) : Nat := r.target - r.absorbed

/-- The outstanding part of an entry for the vehicle; 0 where it is for no vehicle or another (R91). -/
def outstandingFor (v : Nat) : Option Reservation → Nat
  | none => 0
  | some r => if r.watched && r.vehicle == v then r.outstanding else 0

/-- An OWN DELIVERY report raises the absorbed so far of the hose's entry (R95). -/
def State.raiseAbsorbed (s : State) (h : Side) (net : Nat) : State :=
  match s.reservation h with
  | none => s
  | some r => s.setReservation h (some { r with absorbed := max r.absorbed net })

/-- A hose's own absorb into its entry or stand-in, reported as OWN DELIVERY (R71, R74, R84, R95). -/
def State.ownAbsorb (s : State) (h : Side) (d : Delivery) (item : Item) : State :=
  let s1 :=
    if d.flags.unknownVehicle then
      match (s.hose h).standIn with
      | none => s
      | some x =>
        let (c, late) := x.carry.absorb item
        (s.setHose h { s.hose h with standIn := some { x with carry := c } }).countLate (bitCode late)
    else match s.entry d.vehicle with
      | none => s
      | some e =>
        let (c, late) := e.carry.absorb item
        (s.setEntry { e with carry := c, touched := if c = e.carry then e.touched else s.line.siteTime }).countLate
          (bitCode late)
  s1.raiseAbsorbed h item.net

/-! ### The watch (R84, R97 to R104) -/

/-- The items of a fleet report on a vehicle (R84). -/
structure ReportValues where
  shift : Nat
  use : Nat
  hold : Bool
  allowanceOv : Option Nat
  classOv : Option Nat
  deriving DecidableEq, Repr

/-- The items of a fleet report as an entry stands (R84). -/
def State.reportValues (s : State) (e : FleetEntry) : ReportValues :=
  ⟨e.carry.shift, e.carry.use, holdInForce e.carry (s.classOf e), e.allowanceOv.val, e.classOv.val⟩

/-- Causes joined to a set (R98). -/
def Causes.join (a b : Causes) : Causes :=
  ⟨a.useRaised || b.useRaised, a.allowanceLowered || b.allowanceLowered, a.holdSet || b.holdSet⟩

/-- The set is not empty. -/
def Causes.any (c : Causes) : Bool := c.useRaised || c.allowanceLowered || c.holdSet

/-- An allowance is less than another; a limit in place of unlimited counts as less (R98). -/
def Allowance.lower : Allowance → Allowance → Bool
  | .litres a, .litres b => decide (a < b)
  | .litres _, .unlimited => true
  | .unlimited, _ => false

/-- The quantity still available to an entry, in mL; none where the allowance is unlimited (R101). -/
def available (q : Allowance) (use absorbed otherOutstanding : Nat) : Option Int :=
  match q with
  | .unlimited => none
  | .litres n => some ((n : Int) * 1000 - use + absorbed - otherOutstanding)

/-- The target of an entry and of its delivery record, set together (R91). -/
def State.setTarget (s : State) (h : Side) (t : Nat) : State :=
  let s1 := match s.reservation h with
    | none => s
    | some r => s.setReservation h (some { r with target := t })
  match (s1.hose h).delivery with
  | none => s1
  | some d => s1.setHose h { s1.hose h with delivery := some { d with target := t } }

/-- The re-evaluation of a disturbed entry (R100 to R103): a hold ends the delivery, otherwise the target
is lowered to what is available, and a target at N_live or less ends it. -/
def State.reevaluate (s : State) (h : Side) (r : Reservation) (use : Nat) : State :=
  if (s.hose h).state.open then
    if r.hold then s.endDelivery h .holdReceived
    else
      let n := (s.meter h).lastNet
      match available r.allowance use r.absorbed (outstandingFor r.vehicle (s.reservation h.other)) with
      | none => s
      | some a =>
        let t : Int := min (r.target : Int) a
        if (n : Int) < t then s.setTarget h t.toNat
        else (s.setTarget h n).endDelivery h .allowanceReduced
  else s

/-- One entry examined on a report (R98, R104): the values in force are set, and an entry disturbed is
marked and re-evaluated. `before` is the shift use in force before the change. -/
def State.examine (s : State) (h : Side) (e : FleetEntry) (before : Nat) : State :=
  match s.reservation h with
  | none => s
  | some r =>
    let cls := s.classOf e
    let q := effectiveAllowance r.capped (baseAllowance e.allowanceOv.val cls) cls
    let hold := holdInForce e.carry cls
    let use := e.carry.useAgainst r.shift
    let found : Causes := ⟨decide (before < use), q.lower r.allowance, hold && !r.hold⟩
    let r1 : Reservation := { r with allowance := q, hold := hold }
    if found.any then
      let r2 : Reservation := { r1 with watch := .disturbed, causes := r.causes.join found }
      let s1 := s.setReservation h (some r2)
      let s2 := match (s1.hose h).delivery with
        | none => s1
        | some d => s1.setHose h { s1.hose h with
            delivery := some { d with watch := .disturbed, causes := r2.causes
                                      flags := { d.flags with disturbed := true } } }
      s2.reevaluate h r2 use
    else s.setReservation h (some r1)

/-- The two hoses in the order of their grants (R99). -/
def State.grantOrder (s : State) : List Side :=
  match s.reservations.one, s.reservations.two with
  | some a, some b => if b.rank < a.rank then [.two, .one] else [.one, .two]
  | _, _ => [.one, .two]

/-- A watched entry of the hose names the vehicle (R97). -/
def State.watches (s : State) (h : Side) (v : Nat) : Bool :=
  match s.reservation h with
  | none => false
  | some r => r.watched && r.vehicle == v

/-- The shift use in force against the hose's reservation, of the reported S and U (R98). -/
def State.useBefore (s : State) (h : Side) (shift use : Nat) : Nat :=
  match s.reservation h with
  | none => 0
  | some r => if shift = r.shift then use else 0

/-- A report of source OTHER on a vehicle whose items stood at `old` (R84, R97 to R99). -/
def State.reportOther (s : State) (v : Nat) (old : ReportValues) : State :=
  match s.entry v with
  | none => s
  | some e =>
    if s.reportValues e = old then s
    else s.grantOrder.foldl (fun s h =>
      if s.watches h v then s.examine h e (s.useBefore h old.shift old.use) else s) s

/-- A class report: it concerns every watched entry whose vehicle's effective class it is (R84, R97). -/
def State.reportClass (s : State) (c : Nat) : State :=
  s.grantOrder.foldl (fun s h =>
    match s.reservation h with
    | none => s
    | some r =>
      match s.entry r.vehicle with
      | none => s
      | some e =>
        if r.watched && e.effectiveClass == some c then s.examine h e (e.carry.useAgainst r.shift) else s) s

/-- The item values of a class record without their stamps. -/
def ClassRecord.values (c : ClassRecord) : Nat × ClassHold × Nat × Nat × Four Plan :=
  (c.allowance.val, c.hold.val, c.returnQty.val, c.burn.val, c.plans.map Stamped.val)

end Sys2Proof.Machine
end

