-- ==== Sys2Proof/Machine/Metering.lean ====
section
/-! DEFINITION. The arithmetic of the meter unit (R30 to R47). -/

namespace Sys2Proof.Machine

/-- The temperature in force of a hose, and whether it is the substitute (R35). -/
def State.temperature (s : State) (h : Side) : Int × Bool :=
  match s.sample (.meterTemp h) with
  | none => (Config.substituteTemperature, true)
  | some x =>
    match s.fresh x, x.value with
    | true, some v => (v, false)
    | _, _ => (Config.substituteTemperature, true)

/-- How an edge counts (R30, R31, R32). -/
inductive EdgeKind where
  | reference
  | fault
  | forward
  | reverse
  deriving DecidableEq, Repr

/-- An edge judged by the last edge channel and the levels after it (R30). -/
def edgeKind (last : Option Channel) (ch : Channel) (a b : Bool) : EdgeKind :=
  match last with
  | none => .reference
  | some l =>
    if l = ch then .fault
    else match ch with
      | .a => if a = b then .reverse else .forward
      | .b => if a = b then .forward else .reverse

/-- The meter with the edge's level and channel recorded (R30). -/
def Meter.record (m : Meter) (ch : Channel) (level : Bool) : Meter :=
  match ch with
  | .a => { m with levelA := level, lastEdge := some ch }
  | .b => { m with levelB := level, lastEdge := some ch }

/-- One pulse fault, both counts saturating (R31). -/
def Meter.countFault (m : Meter) : Meter :=
  { m with faultCount := countUp m.faultCount, faultTotal := countUp m.faultTotal }

/-- P, the fault counts and the decoder after an edge (R30 to R32). -/
def Meter.edge (m : Meter) (ch : Channel) (level : Bool) : Meter :=
  let r := m.record ch level
  match edgeKind m.lastEdge ch r.levelA r.levelB with
  | .reference => r
  | .fault => r.countFault
  | .forward => { r with pulses := min Config.pulseMax (m.pulses + 1) }
  | .reverse => if m.pulses = 0 then r.countFault else { r with pulses := m.pulses - 1 }

/-- G = floor(P × 1,000,000 / K_m) (R33). -/
def grossOf (pulses km : Nat) : Nat := pulses * 1000000 / km

/-- The meter with a changed gross weighted into W (R36, R37). -/
def Meter.weigh (m : Meter) (gross : Nat) (t : Int × Bool) : Meter :=
  { m with
    gross := gross
    weighted := if gross = 0 then 0 else m.weighted + ((gross : Int) - m.gross) * t.1
    uncompensated := m.uncompensated || t.2 }

/-- The mean temperature (R38). -/
def meanTemperature (gross : Nat) (w : Int) (t : Int) : Int :=
  if 0 < gross then clampInt (-200) 700 (roundHalfAway w gross) else t

/-- The volume correction factor in units of 10^-7 (R39). -/
def ctl10 (alpha : Nat) (t : Int) : Int := 10000000 - (alpha : Int) * (t - 150)

/-- The net in mL (R39). -/
def netOf (gross alpha : Nat) (t : Int) : Nat := (((gross : Int) * ctl10 alpha t + 5000000) / 10000000).toNat

/-- The live or final net of a hose from the G and W of its meter (R40). -/
def State.netNow (s : State) (h : Side) : Nat :=
  let m := s.meter h
  netOf m.gross (s.hoseCfg h).alpha (meanTemperature m.gross m.weighted (s.temperature h).1)

/-- The mean temperature of a hose now (R38). -/
def State.meanNow (s : State) (h : Side) : Int :=
  let m := s.meter h
  meanTemperature m.gross m.weighted (s.temperature h).1

/-- A clear of the meter unit (R44); the last update's net and gross become 0 (R34). -/
def Meter.clear (m : Meter) : Meter :=
  { m with pulses := 0, gross := 0, weighted := 0, faultCount := 0, faultReported := false
           uncompensated := false, lastNet := 0, lastGross := 0 }

/-- The slow-down compare (R41). -/
def slowDownMet (target net band : Nat) : Bool := decide ((target : Int) - net ≤ (band : Int) * 1000)

/-- The lead compare (R42). -/
def leadMet (target net lead : Nat) : Bool := decide ((target : Int) - net ≤ (lead : Int))

/-- The overrun o = N_final − target (R46). -/
def overrun (net target : Nat) : Int := (net : Int) - target

/-- The lead after an adaptation (R47). -/
def adaptLead (lead : Nat) (o : Int) : Nat := (clampInt 0 2000 ((lead : Int) + roundHalfAway o 2)).toNat

/-- A totalizer advanced by a gross volume, modulo 10^11 (R26). -/
def totalizerAdd (total gross : Nat) : Nat := (total + gross) % Config.totalizerModulus

end Sys2Proof.Machine
end

