-- ==== Sys2Proof/Machine/Checks.lean ====
section
/-! DEFINITION. The end of identification: the carry merge of a presented tag, the authorisation checks
and the grant (R8 to R12, R76, R78, R88 to R94, R108, R113 to R115). -/

namespace Sys2Proof.Machine

/-- What the checks and the grant read of a presented vehicle: of its fleet entry (R79) or of its
stand-in (R78). `recordClass` is the class that the delivery record carries. -/
structure Candidate where
  identity : Identity
  watched : Bool
  carry : Carry
  grades : BitVec 4
  attrs : BitVec 8
  recordClass : Nat
  cls : Option ClassRecord
  base : Allowance
  service : ServiceResult
  deriving DecidableEq, Repr

/-- The effective hold of the vehicle (R78, R79). -/
def Candidate.hold (c : Candidate) : Bool := holdInForce c.carry c.cls

/-- The return quantity of the vehicle's class in litres. -/
def Candidate.returnQty (c : Candidate) : Nat :=
  match c.cls with
  | none => 0
  | some r => r.returnQty.val

/-- OVERDUE with the supervisor key off: the vehicle is capped (R90). -/
def State.caps (s : State) (c : Candidate) : Bool := c.service.state == .overdue && !s.panel.supervisorOn

/-- The effective allowance at the checks (R89, R90). -/
def State.candidateAllowance (s : State) (c : Candidate) : Allowance :=
  effectiveAllowance (s.caps c) c.base c.cls

/-- The remaining allowance in mL; none where it is unlimited (R92). -/
def State.remaining (s : State) (h : Side) (c : Candidate) : Option Int :=
  available (s.candidateAllowance c) (c.carry.useAgainst s.currentShift) 0
    (if c.watched then outstandingFor c.identity.vehicle (s.reservation h.other) else 0)

/-- The stock of the hose's tank is known and below the refuse level (R10 check 2, R169). -/
def State.tankLow (s : State) (h : Side) : Bool :=
  let t := (s.hoseCfg h).tank
  s.stockKnown t && (match (s.tanks.get t).stock with
    | none => false
    | some v => decide (v < (s.tankCfg t).refuse))

/-- Checks 1 and 2 of R10. -/
def State.checkStation (s : State) (h : Side) : Option RefusalReason :=
  if s.panel.emergency then some .stopLineActive
  else if s.tankLow h then some .tankLow
  else none

/-- The hose's grade is in the grade set (R10 check 3), with G0 in its least significant bit
(notes/assumptions/53). -/
def gradeIn (grades : BitVec 4) (grade : Nat) : Bool := grades.getLsbD grade

/-- An attribute in the care mask differs from the compare value (R10 check 4): the bytes are paired bit for bit
(notes/assumptions/54). -/
def accessDiffers (attrs compare care : BitVec 8) : Bool := (attrs ^^^ compare) &&& care != 0

/-- The remaining allowance is less than the minimum issue (R10 check 8, R92). -/
def belowMinimum (remaining : Option Int) (minIssue : Nat) : Bool :=
  match remaining with
  | none => false
  | some r => decide (r < (minIssue : Int) * 1000)

/-- Checks 3 to 8 of R10. -/
def State.checkVehicle (s : State) (h : Side) (c : Candidate) : Option RefusalReason :=
  let g := s.hoseCfg h
  if !gradeIn c.grades g.grade then some .gradeMismatch
  else if accessDiffers c.attrs g.compare g.care then some .access
  else if c.hold then some .held
  else if !s.journal.claimAvailableFor s.cfg.nj h then some .journalFull
  else if s.caps c && c.returnQty == 0 then some .serviceOverdue
  else if belowMinimum (s.remaining h c) s.cfg.minIssue then some .allowanceSpent
  else none

/-- A refusal: REFUSED with the reason shown, and a HOSE item; the hose no longer holds the vehicle for
identification, and a stand-in is discarded (R10, R11, R68, R78, R187). -/
def State.refuse (s : State) (h : Side) (r : RefusalReason) : State :=
  (s.setHose h { s.hose h with
    state := .refused, reason := some (.refusal r), liftWait := none, pinned := none, standIn := none }).hoseItem h

/-- The target of a grant (R12 step 3, R94). -/
def State.grantTarget (s : State) (h : Side) (c : Candidate) : Nat :=
  let most := (s.hoseCfg h).maxDelivery * 1000
  let byAllowance := match s.remaining h c with
    | none => most
    | some r => min most r.toNat
  if s.caps c then min byAllowance (c.returnQty * 1000) else byAllowance

/-- The rank of a new entry after the other hose's (R99). -/
def rankAfter : Option Reservation → Nat
  | none => 0
  | some r => r.rank + 1

/-- The entry made at a grant (R94). -/
def State.grantReservation (s : State) (h : Side) (c : Candidate) : Reservation where
  vehicle := c.identity.vehicle
  watched := c.watched
  station := s.cfg.station
  epoch := s.journal.header.epoch
  seq := s.journal.nextSeq
  shift := s.currentShift
  target := s.grantTarget h c
  absorbed := 0
  capped := s.caps c
  allowance := s.candidateAllowance c
  hold := c.hold
  watch := .intact
  causes := .none
  rank := rankAfter (s.reservation h.other)

/-- The flags that a delivery has at its grant (R12, R78, R114, R169). -/
def State.grantFlags (s : State) (h : Side) (c : Candidate) : Flags :=
  { Flags.none with
    supervised := c.service.state == .overdue && s.panel.supervisorOn
    unknownVehicle := !c.watched
    hoursEstimated := c.service.estimated, hoursBackward := c.service.backward, hoursClamped := c.service.clamped
    stockUnknown := !s.stockKnown (s.hoseCfg h).tank }

/-- The delivery record made at a grant (R12 step 5). -/
def State.grantDelivery (s : State) (h : Side) (c : Candidate) : Delivery where
  station := s.cfg.station
  epoch := s.journal.header.epoch
  seq := s.journal.nextSeq
  vehicle := c.identity.vehicle
  cls := c.recordClass
  grade := (s.hoseCfg h).grade
  start := s.line.siteTime
  shift := s.currentShift
  target := s.grantTarget h c
  steps := 0
  endReason := none
  endTime := none
  watch := .intact
  causes := .none
  service := c.service
  flags := s.grantFlags h c
  pendingFault := none
  finalImage := none

/-- The valve stage at a grant: LOW where the target is within the slow-down band (R5, R41). -/
def grantStage (target band : Nat) : Stage := if slowDownMet target 0 band then .low else .full

/-- The hose at a grant (R12, R13, R16). -/
def State.grantHose (s : State) (h : Side) (c : Candidate) : Hose :=
  let x := s.hose h
  { x with
    state := .authorised
    stage := grantStage (s.grantTarget h c) (s.hoseCfg h).band
    pump := true
    delivery := some (s.grantDelivery h c)
    totalizer := totalizerAdd x.totalizer (s.meter h).gross
    liftWait := none
    noFlow := some (s.elapsed + (s.hoseCfg h).noFlow * 1000)
    tagAbsent := false
    pinned := none }

/-- The grant (R12, R58, R94). -/
def State.grant (s : State) (h : Side) (c : Candidate) : State :=
  let hose := s.grantHose h c
  let entry := s.grantReservation h c
  let s1 := (s.setJournal { s.journal with claims := s.journal.claims + 1 }).takeSequence
  (((s1.setReservation h (some entry)).setHose h hose).setMeter h (s.meter h).clear).setTag h
    ((s.tag h).pollingOn s.elapsed)

/-- The vehicle checks and the grant (R10, R12). -/
def State.judge (s : State) (h : Side) (c : Candidate) : State :=
  match s.checkVehicle h c with
  | some r => s.refuse h r
  | none => s.grant h c

/-- The service state shown set (R114). -/
def State.showService (s : State) (h : Side) (r : ServiceResult) : State :=
  s.setHose h { s.hose h with serviceShown := some r }

/-- An entry after the carry merge of a tag, with the count of late items (R76 case 1). -/
def FleetEntry.takeTag (e : FleetEntry) (i : Identity) (carry : Option Carry) (now : Nat) : FleetEntry × Nat :=
  let (c, late) := match carry with
    | none => (e.carry, 0)
    | some x => e.carry.merge x
  ({ e with source := .tag, tagClass := some i.cls, grades := i.grades, tagAttrs := some i.attrs, carry := c
            touched := now }, late)

/-- The carry that a tag gives where the table has none: taken whole and put through the enforcement of
the levels, or blank where it is ignored (R76 case 2, R78). -/
def carryFromTag : Option Carry → Carry
  | none => Carry.blank
  | some x => x.enforced

/-- An entry made from a tag (R69, R76 case 2). -/
def FleetEntry.fromTag (i : Identity) (carry : Option Carry) (now : Nat) : FleetEntry where
  vehicle := i.vehicle
  source := .tag
  tagClass := some i.cls
  grades := i.grades
  tagAttrs := some i.attrs
  allowanceOv := .absent
  classOv := .absent
  attrsOv := .absent
  carry := carryFromTag carry
  touched := now

/-- The vehicle of a hose held for identification (R68). -/
def State.pin (s : State) (h : Side) (v : Nat) : State := s.setHose h { s.hose h with pinned := some v }

/-- The carry merge of R76 with its pin and its report: the state with the vehicle's entry, or none where
no entry can be had. -/
def State.mergeTag (s : State) (h : Side) (i : Identity) (carry : Option Carry) : Option State :=
  match s.entry i.vehicle with
  | some e =>
    let old := s.reportValues e
    let (e1, late) := e.takeTag i carry s.line.siteTime
    some ((((s.setEntry e1).countLate late).pin h i.vehicle).reportOther i.vehicle old)
  | none => (s.addEntry (fun _ => true) (FleetEntry.fromTag i carry s.line.siteTime)).map fun s1 => s1.pin h i.vehicle

/-- The candidate that an entry gives, with the hours block applied to its carry (R79, R108, R113). -/
def State.candidateOfEntry (s : State) (i : Identity) (e : FleetEntry) (f : HoursFlags) : Candidate :=
  let cls := s.classOf e
  { identity := i, watched := true, carry := e.carry, grades := e.grades, attrs := e.effectiveAttrs
    recordClass := e.effectiveClass.getD i.cls, cls := cls, base := baseAllowance e.allowanceOv.val cls
    service := evaluate e.carry (cls.getD ClassRecord.empty) f }

/-- The candidate that a stand-in gives: class values of the unknown-vehicle class (R78, R89, R107). -/
def State.candidateOfStandIn (s : State) (x : StandIn) (f : HoursFlags) : Candidate :=
  let cls := s.classRecord s.cfg.unknownClass
  { identity := x.identity, watched := false, carry := x.carry, grades := x.identity.grades
    attrs := x.identity.attrs, recordClass := x.identity.cls, cls := some cls, base := cls.defaultAllowance
    service := evaluate x.carry cls f }

/-- A vehicle served from its fleet entry: hours, evaluation, checks, grant (R8, R10, R108, R113). -/
def State.decideEntry (s : State) (h : Side) (i : Identity) (hours : Option Nat) : State :=
  match s.entry i.vehicle with
  | none => s
  | some e =>
    let (carry, f) := e.carry.applyHours hours s.line.siteTime
    let e1 : FleetEntry := { e with carry := carry }
    let s1 := s.setEntry e1
    let c := s1.candidateOfEntry i e1 f
    let s2 := s1.showService h c.service
    match s2.checkStation h with
    | some r => s2.refuse h r
    | none => s2.judge h c

/-- A vehicle served from a stand-in carry (R78, R108, R113). -/
def State.decideStandIn (s : State) (h : Side) (i : Identity) (hours : Option Nat) (carry : Option Carry) : State :=
  let (c0, f) := (carryFromTag carry).applyHours hours s.line.siteTime
  let x : StandIn := ⟨i, c0⟩
  let c := s.candidateOfStandIn x f
  let s1 := (s.setHose h { s.hose h with standIn := some x }).showService h c.service
  match s1.checkStation h with
  | some r => s1.refuse h r
  | none => s1.judge h c

/-- No entry can be had and the policy is REFUSE: checks 1 and 2, then TABLE FULL (R10, R78). -/
def State.refuseUnknown (s : State) (h : Side) : State :=
  match s.checkStation h with
  | some r => s.refuse h r
  | none => s.refuse h .tableFull

/-- Identification has reached the end of its reads (R8, R10, R76, R78). -/
def State.identified (s : State) (h : Side) : State :=
  let u := s.tag h
  match u.identity with
  | none => s
  | some i =>
    match s.mergeTag h i u.carry with
    | some s1 => s1.decideEntry h i u.hours
    | none => if s.cfg.classDefault then s.decideStandIn h i u.hours u.carry else s.refuseUnknown h

end Sys2Proof.Machine
end

