-- ==== Sys2Proof/Machine/Cycle.lean ====
section
/-! DEFINITION. The delivery cycle from flow to record: meter updates, journal steps, the end of the
settle window, the write-back, valve leaks, fault clears (R13 to R26, R34, R36, R47, R61 to R63, R142,
R149). -/

namespace Sys2Proof.Machine

/-! ### Images and blocks (R62, R142, R149) -/

/-- The image of a delivery with the given values; an OPEN image as it stands, a FINAL image once its end
reason and snapshot are put in (R142, R149). -/
def Delivery.image (d : Delivery) (h : Side) (stop gross net total : Nat) (mean : Int) : IssueRecord where
  epoch := d.epoch
  seq := d.seq
  shift := d.shift
  cls := d.cls
  grade := d.grade
  hose := h
  form := .asRecorded
  endReason := none
  vehicle := d.vehicle
  start := d.start
  stop := stop
  target := d.target
  gross := gross
  net := net
  totalizer := total
  temperature := mean
  service := d.service.state
  level := d.service.level
  unknown := d.service.unknown
  causes := d.causes
  flags := d.flags
  snapshot := none

/-- The item that a delivery's absorb gives (R15, R20, R74). -/
def Delivery.item (d : Delivery) (stop net : Nat) (final : Bool) : Item :=
  ⟨d.station, d.seq, d.start, stop, d.shift, net, final⟩

/-- The carry block that a progress write or a write-back of the delivery writes now (R62). -/
def State.blockContent (s : State) (h : Side) (d : Delivery) : List Byte :=
  let vehicle := match (s.tag h).identity with
    | none => d.vehicle
    | some i => i.vehicle
  carryBlock vehicle (s.carryOf h d)

/-- A snapshot of a carry: the carry without its list (R142). -/
def Carry.snapshot (c : Carry) : Carry := { c with list := [] }

/-! ### Flow (R13 to R15, R36) -/

/-- The delivery record of a hose replaced. -/
def State.setDelivery (s : State) (h : Side) (d : Delivery) : State :=
  s.setHose h { s.hose h with delivery := some d }

/-- The volume of one journal step in mL (R15). -/
def State.stepVolume (s : State) : Nat := s.cfg.journalStep * 1000

/-- A journal step is due at a net (R15). -/
def State.stepDue (s : State) (d : Delivery) (net : Nat) : Bool := decide ((d.steps + 1) * s.stepVolume ≤ net)

/-- A journal step: the progress rewrite, the provisional absorb and the progress write (R15, R60, R74,
R149). -/
def State.journalStep (s : State) (h : Side) (d : Delivery) (net : Nat) : State :=
  let now := s.line.siteTime
  let gross := (s.meter h).gross
  let d1 : Delivery := { d with steps := net / s.stepVolume }
  let img := d1.image h now gross net (totalizerAdd (s.hose h).totalizer gross) (s.meanNow h)
  let s1 := ((s.setDelivery h d1).requestProgress h img).ownAbsorb h d1 (d1.item now net false)
  s1.setTag h ((s1.tag h).askProgress s1.elapsed (s1.blockContent h d1))

/-- The stall timer started (R13, R14). -/
def State.startStall (s : State) (h : Side) : State :=
  s.setHose h { s.hose h with stall := some (s.elapsed + (s.hoseCfg h).stall * 1000) }

/-- The compares of an update in FLOWING or SLOWING (R14, R41 to R43). -/
def State.actOnCompares (s : State) (h : Side) (d : Delivery) (net : Nat) : State :=
  let hose := s.hose h
  if leadMet d.target net hose.lead then s.endDelivery h .targetReached
  else if hose.state = .flowing ∧ slowDownMet d.target net (s.hoseCfg h).band = true then
    s.setHose h { hose with state := .slowing, stage := .low }
  else s

/-- A meter update taken in FLOWING or SLOWING: the stall timer, the journal step that is due, then the
compares (R14, R15). -/
def State.flowUpdate (s : State) (h : Side) (rose : Bool) : State :=
  let s1 := if rose then s.startStall h else s
  let net := (s1.meter h).lastNet
  match (s1.hose h).delivery with
  | none => s1
  | some d =>
    let s2 := if s1.stepDue d net then s1.journalStep h d net else s1
    s2.actOnCompares h d net

/-- The first increase of gross in AUTHORISED (R13). -/
def State.startFlow (s : State) (h : Side) : State :=
  let hose := s.hose h
  s.setHose h { hose with noFlow := none, state := if hose.stage = .low then .slowing else .flowing }

/-- The flag of R36, taken with an update of a live delivery. -/
def State.markUncompensated (s : State) (h : Side) : State :=
  let hose := s.hose h
  match hose.delivery with
  | none => s
  | some d =>
    if hose.state.live && (s.meter h).uncompensated then
      s.setDelivery h { d with flags := { d.flags with uncompensated := true } }
    else s

/-- VALVE LEAK: the stray gross joins the totalizer, the meter is cleared, and the hose is in FAULT; an
identification is abandoned, a delivery record is kept (R23, R54, R68). The item is made after the abandon, which
has discarded the identity block (notes/assumptions/28). -/
def State.valveLeak (s : State) (h : Side) : State :=
  let hose := s.hose h
  let leaking : Hose := { hose with
    state := .fault, faultCause := some .valveLeak, reason := some (.faulted .valveLeak)
    totalizer := totalizerAdd hose.totalizer (s.meter h).gross }
  let s1 := s.setMeter h (s.meter h).clear
  if hose.state = .identifying then
    ((s1.setHose h { leaking with liftWait := none, pinned := none, standIn := none }).setTag h
      (s.tag h).abandon).hoseItem h
  else (s1.setHose h leaking).hoseItem h

/-- A state in which stray gross above the overrun limit is a VALVE LEAK (R23). -/
def HoseState.watchesLeak : HoseState → Bool
  | .unarmed | .idle | .identifying | .refused | .writeback | .recording => true
  | _ => false

/-- A meter update as the hose takes it (R13, R14, R19, R23, R36, R48). -/
def State.meterUpdate (s : State) (h : Side) (rose : Bool) : State :=
  let s1 := s.markUncompensated h
  match (s1.hose h).state with
  | .authorised => if rose then (s1.startFlow h).flowUpdate h true else s1
  | .flowing => s1.flowUpdate h rose
  | .slowing => s1.flowUpdate h rose
  | st => if st.watchesLeak && decide ((s1.hoseCfg h).overrun < (s1.meter h).gross) then s1.valveLeak h else s1

/-- A meter fault report as the hose takes it (R17, R19, R31). -/
def State.meterFault (s : State) (h : Side) : State :=
  let hose := s.hose h
  if hose.state.open then s.endDelivery h .meterFault
  else match hose.state, hose.delivery with
    | .closing, some d => s.setDelivery h { d with pendingFault := some .meterFault }
    | _, _ => s

/-- A pulse fault count above the limit is reported once between clears (R31). Before a good record is
loaded the limit is not known. -/
def State.reportFaults (s : State) (h : Side) : State :=
  let m := s.meter h
  if s.start.recordGood && decide ((s.hoseCfg h).faultLimit < m.faultCount) && !m.faultReported then
    (s.setMeter h { m with faultReported := true }).meterFault h
  else s

/-- G recomputed after a change of P; a change of G is weighted and sent as an update (R33, R34, R37). -/
def State.recomputeGross (s : State) (h : Side) : State :=
  let m := s.meter h
  let g := grossOf m.pulses (s.hoseCfg h).km
  if s.start.recordGood && g != m.gross then
    let s1 := s.setMeter h (m.weigh g (s.temperature h))
    let s2 := s1.setMeter h { s1.meter h with lastNet := s1.netNow h, lastGross := g }
    s2.meterUpdate h (decide (m.gross < g))
  else s

/-! ### The end of the settle window (R20, R45 to R47) -/

/-- The pending fault at the settle window end (R20 step 2, R46). -/
def settleFault (pending : Option FaultCause) (net target limit : Nat) : Option FaultCause :=
  if pending = some .meterFault then pending
  else if (limit : Int) < overrun net target then some .valveOverrun
  else pending

/-- The lead after a settle window (R20 step 7, R47). -/
def settleLead (lead : Nat) (d : Delivery) (net : Nat) : Nat :=
  if d.endReason = some .targetReached ∧ d.watch = .intact then adaptLead lead (overrun net d.target) else lead

/-- The FINAL image of a delivery (R20 step 3, R142, R149). -/
def State.finalImage (s : State) (h : Side) (d : Delivery) (gross net : Nat) (mean : Int) : IssueRecord :=
  { d.image h (d.endTime.getD 0) gross net (totalizerAdd (s.hose h).totalizer gross) mean with
    endReason := d.endReason
    flags := { d.flags with tagNotUpdated := true }
    snapshot := some (s.carryOf h d).snapshot }

/-- The delivery as the settle window leaves it, without its final image (R20 steps 1 and 2). -/
def State.settledDelivery (s : State) (h : Side) (d : Delivery) (net : Nat) : Delivery :=
  { d with pendingFault := settleFault d.pendingFault net d.target (s.hoseCfg h).overrun
           flags := { d.flags with uncompensated := d.flags.uncompensated || (s.meter h).uncompensated } }

/-- The append of a hose's record, with the outcome of its write-back (R22, R142). -/
def State.recordDelivery (s : State) (h : Side) (updated : Bool) : State :=
  match (s.hose h).delivery with
  | none => s
  | some d =>
    match d.finalImage with
    | none => s
    | some img =>
      (s.setDelivery h { d with flags := { d.flags with tagNotUpdated := !updated } }).passAppend .hose
        (.issue { img with flags := { img.flags with tagNotUpdated := !updated } })

/-- What follows the settle window: the write-back where the tag is not absent, else the append
(R20 steps 8 and 9). -/
def State.afterSettle (s : State) (h : Side) (d : Delivery) : State :=
  if (s.hose h).tagAbsent then s.recordDelivery h false
  else s.setTag h ((s.tag h).askWriteBack s.elapsed (s.blockContent h d))

/-- The hose state after the settle window (R20 step 8). -/
def settledState (fault : Option FaultCause) (tagAbsent : Bool) : HoseState :=
  if fault.isSome then .fault else if tagAbsent then .recording else .writeback

/-- The settle window's end in CLOSING (R20). -/
def State.settleEnd (s : State) (h : Side) (d : Delivery) : State :=
  let gross := (s.meter h).gross
  let net := s.netNow h
  let mean := s.meanNow h
  let d1 := s.settledDelivery h d net
  let s1 := (s.setDelivery h d1).ownAbsorb h d1 (d1.item (d1.endTime.getD 0) net true)
  let img := s1.finalImage h d1 gross net mean
  let d2 : Delivery := { d1 with finalImage := some img }
  let hose := s1.hose h
  let settled : Hose := { hose with
    delivery := some d2
    state := settledState d1.pendingFault hose.tagAbsent
    settle := none
    totalizer := totalizerAdd hose.totalizer gross
    lead := settleLead hose.lead d1 net }
  let s2 := ((s1.requestFinal h img).setReservation h none).setMeter h (s1.meter h).clear
  match d1.pendingFault with
  | none => (s2.setHose h settled).afterSettle h d2
  | some c =>
    ((s2.setHose h { settled with faultCause := some c, reason := some (.faulted c) }).hoseItem h).afterSettle h d2

/-! ### The write-back's outcome and the append's (R21, R22, R63) -/

/-- The write-back is over: the unit forgets the tag, and the append follows (R21, R22, R63). -/
def State.writeBackOver (s : State) (h : Side) (success : Bool) : State :=
  let hose := s.hose h
  let s1 := s.setTag h (s.tag h).forget
  if hose.state = .writeback then (s1.setHose h { hose with state := .recording }).recordDelivery h success
  else if hose.state = .fault then s1.recordDelivery h success
  else s1

/-- A hang passed to the unit during a write-back: one still waiting is not sent and has failed; one in
flight makes no further attempt (R21, R63). -/
def State.hangInWriteBack (s : State) (h : Side) : State :=
  let u := s.tag h
  if u.waitingWriteBack.isSome then (s.setTag h { u with waitingWriteBack := none }).writeBackOver h false
  else s.setTag h { u with current := stopAttempts Request.isWriteBack u.current }

/-- The append of the hose's record is complete: the delivery record becomes absent (R22, R78). -/
def State.hoseRecorded (s : State) (h : Side) : State :=
  let hose := s.hose h
  let x : Hose := { hose with delivery := none, standIn := none }
  if hose.state = .recording then s.setHose h { x with state := hose.hook.rest }
  else if hose.state = .fault then s.setHose h x
  else s

/-! ### FAULT clears (R24) -/

/-- A hose in FAULT without a delivery record cleared (R24, R26). -/
def State.clearFault (s : State) (h : Side) : State :=
  let hose := s.hose h
  if hose.state = .fault ∧ hose.delivery = none then
    ((s.setMeter h (s.meter h).clear).setHose h { hose with
      state := hose.hook.rest, faultCause := none
      totalizer := totalizerAdd hose.totalizer (s.meter h).gross }).hoseItem h
  else s

end Sys2Proof.Machine
end

