-- ==== Sys2Proof/Machine/Hoses.lean ====
section
/-! DEFINITION. The commands of a hose: hook, timers and meter edges (R6, R8, R9, R13 to R20, R30 to R34). -/

namespace Sys2Proof.Machine

/-- A lift taken in IDLE: the cycle starts (R6, R8, R114). -/
def State.startCycle (s : State) (h : Side) : State :=
  let hose := s.hose h
  (s.setHose h { hose with
    hook := .lifted, state := .identifying, reason := none, serviceShown := none
    liftWait := some (s.elapsed + (s.hoseCfg h).liftWait * 1000) }).setTag h ((s.tag h).startCycle s.elapsed)

/-- LIFT (R6): a cycle in IDLE, elsewhere the hook position alone. -/
def execLift (h : Side) (s : State) : Answer :=
  if s.unfitted h then .next s
  else if (s.hose h).state = .idle then .next (s.startCycle h)
  else .next (s.setHose h { s.hose h with hook := .lifted })

/-- IDENTIFYING left without a merge: reads abandoned, timer stopped, nothing held for identification
(R9, R54, R68). -/
def State.leaveIdentifying (s : State) (h : Side) (next : HoseState) : State :=
  (s.setHose h { s.hose h with state := next, liftWait := none, pinned := none, standIn := none }).setTag h
    (s.tag h).abandon

/-- HANG on a fitted hose whose hook position has been recorded (R6, R9, R19, R21). -/
def State.hang (s : State) (h : Side) : State :=
  let hose := s.hose h
  match hose.state with
  | .unarmed => s.setHose h { hose with state := .idle }
  | .refused => s.setHose h { hose with state := .idle }
  | .identifying => s.leaveIdentifying h .idle
  | .authorised => s.endDelivery h .nozzleHung
  | .flowing => s.endDelivery h .nozzleHung
  | .slowing => s.endDelivery h .nozzleHung
  | .closing => s.setHose h { hose with tagAbsent := true }
  | .writeback => (s.setHose h { hose with tagAbsent := true }).hangInWriteBack h
  | .fault => if hose.delivery.isSome then s.hangInWriteBack h else s
  | .start => s
  | .idle => s
  | .recording => s

/-- HANG (R6). -/
def execHang (h : Side) (s : State) : Answer :=
  if s.unfitted h then .next s
  else .next ((s.setHose h { s.hose h with hook := .hung }).hang h)

/-- LIFT_WAIT_EXPIRY (R9): IDENTIFYING ends in REFUSED with TAG UNREADABLE. -/
def execLiftWaitExpiry (h : Side) (s : State) : Answer :=
  let hose := s.hose h
  if hose.state = .identifying ∧ hose.liftWait.isSome = true then
    .next ((s.leaveIdentifying h .identifying).refuse h .tagUnreadable)
  else .next s

/-- NO_FLOW_EXPIRY (R13): the delivery ends with NO FLOW in AUTHORISED. -/
def execNoFlowExpiry (h : Side) (s : State) : Answer :=
  let hose := s.hose h
  if hose.state = .authorised ∧ hose.noFlow.isSome = true then .next (s.endDelivery h .noFlow) else .next s

/-- STALL_EXPIRY (R14): the delivery ends with FLOW STALL in FLOWING or SLOWING. -/
def execStallExpiry (h : Side) (s : State) : Answer :=
  let hose := s.hose h
  if (hose.state = .flowing ∨ hose.state = .slowing) ∧ hose.stall.isSome = true then
    .next (s.endDelivery h .flowStall)
  else .next s

/-- TAG_LOSS_EXPIRY (R16): the delivery ends with TAG LOST. -/
def execTagLossExpiry (h : Side) (s : State) : Answer :=
  if (s.hose h).tagLoss.isSome then .next (s.endDelivery h .tagLost) else .next s

/-- SETTLE_EXPIRY (R20). -/
def execSettleExpiry (h : Side) (s : State) : Answer :=
  let hose := s.hose h
  match hose.delivery with
  | none => .next s
  | some d => if hose.state = .closing ∧ hose.settle.isSome = true then .next (s.settleEnd h d) else .next s

/-- An edge taken by the meter unit of a hose (R30 to R34). -/
def State.takeEdge (s : State) (h : Side) (ch : Channel) (level : Bool) : State :=
  let m := s.meter h
  let m1 := m.edge ch level
  let s1 := s.setMeter h m1
  let s2 := if m1.faultCount ≠ m.faultCount then s1.reportFaults h else s1
  if m1.pulses ≠ m.pulses then s2.recomputeGross h else s2

/-- CHANNEL_EDGE (R30): counting begins at the end of HOLD (R48, R49). -/
def execChannelEdge (h : Side) (ch : Channel) (level : Bool) (s : State) : Answer :=
  if s.start.stage = .hold ∨ s.unfitted h = true then .next s else .next (s.takeEdge h ch level)

end Sys2Proof.Machine
end

