-- ==== Sys2Proof/Machine/ScanCommands.lean ====
section
/-! DEFINITION. The converter scan unit and the tank units (R160 to R169). -/

namespace Sys2Proof.Machine

/-! ### Conversion (R165, R167) -/

/-- The value of a meter temperature code, and whether it was clamped (R165). -/
def temperatureOf (code : Nat) : Int × Bool :=
  let raw : Int := ((code * 2000 / 4095 : Nat) : Int) - 500
  (clampInt (-200) 700 raw, decide (raw < -200 ∨ 700 < raw))

/-- The level of a tank level code in mm (R165). -/
def levelOf (code span : Nat) : Nat := code * span / 4095

/-- The stock of a level by the points of a strapping table from a point on (R167). -/
def stockFrom : List (Nat × Nat) → Nat → Nat
  | [], _ => 0
  | [p], _ => p.2
  | p :: q :: rest, x =>
    if x < q.1 then p.2 + (x - p.1) * (q.2 - p.2) / (q.1 - p.1) else stockFrom (q :: rest) x

/-- The stock of a level (R167): at or below the first point it is the first point's volume, since the
difference of a level below it counts as 0. -/
def stockOf (points : List (Nat × Nat)) (x : Nat) : Nat := stockFrom points x

/-- A sample of a scan list entry before any good response (R160, R170). -/
def Sample.empty (p : Purpose) : Sample := ⟨p, none, none, false, none⟩

/-- A good response taken by a sample (R165). -/
def Sample.take (x : Sample) (code : BitVec 12) (span : Side → Nat) (now : Nat) : Sample :=
  match x.purpose with
  | .meterTemp _ =>
    let t := temperatureOf code.toNat
    { x with code := some code, value := some t.1, outOfRange := t.2, lastGood := some now }
  | .tankLevel t =>
    { x with code := some code, value := some (levelOf code.toNat (span t)), lastGood := some now }

/-! ### Tanks and hoses (R168, R169) -/

/-- Cut-off reported to a hose that names the tank (R17, R169). -/
def State.cutOffAt (s : State) (h t : Side) : State :=
  if (s.hoseCfg h).tank = t ∧ s.unfitted h = false then s.endDelivery h .tankCutOff else s

/-- A good level update at a tank unit (R168, R169). Where it cuts off both hoses, hose 1's delivery ends first
(notes/assumptions/46). -/
def State.levelUpdate (s : State) (t : Side) (level : Nat) : State :=
  let stock := stockOf (s.tankCfg t).points level
  let s1 := s.setTank t { s.tanks.get t with stock := some stock }
  if stock ≤ (s1.tankCfg t).cutOff then (s1.cutOffAt .one t).cutOffAt .two t else s1

/-- A hose in AUTHORISED, FLOWING or SLOWING whose tank's stock is UNKNOWN flags its delivery (R169); no other
read of the stock state does (notes/assumptions/56). -/
def State.testStockAt (s : State) (h : Side) : State :=
  let hose := s.hose h
  match hose.delivery with
  | none => s
  | some d =>
    if hose.state.open && !s.stockKnown (s.hoseCfg h).tank then
      s.setHose h { hose with delivery := some { d with flags := { d.flags with stockUnknown := true } } }
    else s

/-- The test for UNKNOWN stock at both hoses (R169). -/
def State.testStock (s : State) : State := (s.testStockAt .one).testStockAt .two

/-! ### The scan (R161 to R164) -/

/-- The request for a list entry sent with the next request number, which then advances (R160, R162): the
first request after a start carries the number of R170, 0 (notes/assumptions/40). -/
def ScanUnit.request (u : ScanUnit) (pos now window : Nat) : ScanUnit :=
  { u with current := some pos, sentNumber := u.nextNumber, nextNumber := u.nextNumber + 1
           window := some (now + window) }

/-- The end of a scan with no timeout (R161, R163). -/
def ScanUnit.ended (u : ScanUnit) : ScanUnit :=
  { u with state := .waiting, current := none, window := none, timeouts := 0 }

/-- A scan that starts: the timer restarts, RUNNING is entered, and the first entry is requested
(R161). -/
def ScanUnit.started (u : ScanUnit) (now window : Nat) : ScanUnit :=
  let u1 : ScanUnit := { u with timer := some (now + Config.scanPeriod), timedOut := false, state := .running }
  if u1.list = [] then u1.ended else u1.request 0 now window

/-- A scan starts: the scan and the test of R169. -/
def State.startScan (s : State) : State :=
  (s.setScan (s.scan.started s.elapsed s.cfg.responseWindow)).testStock

/-- SCAN_TIMER_EXPIRY (R161, R169). -/
def execScanTimerExpiry (s : State) : Answer :=
  if s.scan.timer.isSome then .next s.startScan else .next s

/-- A good response to the entry at a position: its sample, its consumer, and the next entry (R161, R162,
R165). -/
def State.goodResponse (s : State) (pos : Nat) (e : ScanEntry) (code : BitVec 12) : State :=
  let u := s.scan
  let samples := u.samples.modify pos fun x => x.take code (fun t => (s.tankCfg t).span) s.elapsed
  let u1 : ScanUnit := { u with samples := samples, window := none }
  let u2 := if pos + 1 < u1.list.length then u1.request (pos + 1) s.elapsed s.cfg.responseWindow else u1.ended
  let s1 := s.setScan u2
  match e.purpose with
  | .meterTemp _ => s1
  | .tankLevel t => s1.levelUpdate t (levelOf code.toNat (s.tankCfg t).span)

/-- CONVERTER_RESPONSE (R162, R165): discarded unless its number and channel are those of the request in
flight. -/
def execConverterResponse (number : BitVec 8) (channel : BitVec 4) (code : BitVec 12) (s : State) : Answer :=
  let u := s.scan
  match u.current, u.window with
  | some pos, some _ =>
    match u.list[pos]? with
    | none => .next s
    | some e =>
      if u.state = .running ∧ number = u.sentNumber ∧ channel = e.channel then .next (s.goodResponse pos e code)
      else .next s
  | _, _ => .next s

/-- A timeout ends the entry and the scan; the third failing scan in a row enters FAILED (R163, R164). -/
def ScanUnit.timeout (u : ScanUnit) : ScanUnit :=
  let u1 : ScanUnit := { u with timedOut := true, current := none, window := none, timeouts := u.timeouts + 1 }
  if 3 ≤ u.timeouts + 1 then { u1 with state := .failed, timer := none } else { u1 with state := .waiting }

/-- CONVERTER_WINDOW_EXPIRY (R163). -/
def execConverterWindowExpiry (s : State) : Answer :=
  if s.scan.state = .running ∧ s.scan.window.isSome = true then .next (s.setScan s.scan.timeout) else .next s

/-- FAILED_STOCK_TEST (R169): the test made each second while the scan unit is FAILED. -/
def execFailedStockTest (s : State) : Answer :=
  if s.scan.state = .failed then .next s.testStock else .next s

/-- A CLEAR with the supervisor key on taken by the scan unit: in FAILED the count becomes 0 and a scan
starts at once (R164). -/
def State.clearScan (s : State) : State :=
  if s.scan.state = .failed then (s.setScan { s.scan with timeouts := 0, state := .waiting }).startScan else s

end Sys2Proof.Machine
end

