-- ==== Sys2Proof/Machine/Sender.lean ====
section
/-! DEFINITION. The sender of the site line unit: choice, backoff, sending, collisions, beacons (R124
to R130). -/

namespace Sys2Proof.Machine

/-- The live peer count (R133). -/
def SiteLine.liveCount (l : SiteLine) : Nat := (l.peers.filter fun p => p.live).length

/-- The backoff window of a choice: clamp(4 × (live peer count + 1), 4, 128) (R125). -/
def windowFor (live : Nat) : Nat := max 4 (min 128 (4 * (live + 1)))

/-- The sender with a frame chosen: no attempts, the window of the live count, DEFER with k absent
(R125). -/
def SiteLine.chosen (l : SiteLine) (f : CurrentFrame) : SiteLine :=
  { l with sender := .defer, current := some f, k := none, window := windowFor l.liveCount, attempts := 0
           sending := [] }

/-- The sender's choice: a due beacon, else the record at the head of the queue where a peer is LIVE,
else IDLE with no current frame (R125); the attempt count then stays as the last frame left it
(notes/assumptions/47). -/
def SiteLine.choose (l : SiteLine) : SiteLine :=
  if l.beaconDue then l.chosen .beacon
  else if l.queue ≠ [] ∧ 1 ≤ l.liveCount then l.chosen .record
  else { l with sender := .idle, current := none, k := none, sending := [] }

/-- A sender in IDLE and not held chooses (R125). -/
def State.trySend (s : State) : State :=
  if s.line.sender = .idle ∧ s.line.held = false then s.setLine s.line.choose else s

/-- Start cause code (12.2, 12.7). -/
def Cause.code : Cause → Nat
  | .powerStart => 0
  | .supplyDip => 1
  | .resetLine => 2

/-- A beacon's body, formed from the values held at this moment (R130, 12.2). -/
def State.beaconBody (s : State) : List Byte :=
  encodeFields [(16, s.journal.header.epoch), (32, s.line.siteTime), (1, bitCode s.line.confirmed),
    (1, bitCode s.line.firstAfterStart), (2, s.start.cause.code), (4, 0), (24, s.journal.nextSeq),
    (8, s.line.liveCount), (4, s.hoses.one.state.code), (4, s.hoses.two.state.code), (16, s.journal.unsent)]

/-- The frame that a sender entering SEND transmits: a beacon formed now, or the head record as the
journal unit read it (R127, R130). -/
def State.frameToSend (s : State) : List Byte :=
  match s.line.current, s.line.queue with
  | some .beacon, _ => frameOf 5 s.cfg.station s.beaconBody
  | some .record, r :: _ => frameOf r.kind s.cfg.station r.body
  | _, _ => []

/-- SEND is entered where k has reached 0 (R126). The station's own bytes are then on the line and not handed to
reception, so the receiver skips up to the first receive gap after SEND (R123). -/
def State.sendAtZero (s : State) : State :=
  if s.line.k = some 0 then s.setLine { s.line with sender := .send, sending := s.frameToSend, skipping := true }
  else s

/-- The guard time has passed in DEFER: k is drawn where absent, and BACKOFF is entered (R126). -/
def State.guardPassed (s : State) : State :=
  match s.line.k with
  | some _ => (s.setLine { s.line with sender := .backoff }).sendAtZero
  | none =>
    let (k, s1) := s.draw s.line.window
    (s1.setLine { s1.line with sender := .backoff, k := some k }).sendAtZero

/-- A collision in SEND (R127, R128): the attempt count rises and W doubles up to 512; the eighth failure
parks the frame in CONGESTED and leaves k as it stands (notes/assumptions/48), any other defers with k absent. -/
def SiteLine.collide (l : SiteLine) (now : Nat) : SiteLine :=
  let l1 : SiteLine := { l with attempts := l.attempts + 1, window := min (2 * l.window) 512, sending := [] }
  if l.attempts + 1 = 8 then { l1 with sender := .congested, congestion := some (now + Config.congestionTime) }
  else { l1 with sender := .defer, k := none }

/-- A beacon sent cleanly: due and first-after-start cleared, the beacon timer restarted with 10 s plus a
fresh random 0..1,000 ms (R129). -/
def State.beaconSent (s : State) : State :=
  let (r, s1) := s.draw 1001
  s1.setLine { s1.line with beaconDue := false, firstAfterStart := false
                            beaconTimer := some (s1.elapsed + Config.beaconPeriod + r) }

/-- The line unit makes its next choice after a clean end or a congestion (R125, R128, R129). -/
def State.chooseNext (s : State) : State := s.setLine s.line.choose

/-- A clean end of the frame on the line (R129): a record leaves the queue and is reported sent, a beacon
is done with; the next frame is chosen, and the send queue is loaded again (R152), its read requested last
(notes/assumptions/39). -/
def State.cleanEnd (s : State) : State :=
  match s.line.current with
  | some .record => ((s.setLine { s.line with queue := s.line.queue.drop 1 }).recordSent).chooseNext.requestSendRead
  | some .beacon => s.beaconSent.chooseNext
  | none => s

end Sys2Proof.Machine
end

