-- ==== Sys2Proof/WellFormed.lean ====
section
/-! DEFINITION. Which commands are well formed: those whose operands the event they name can bring.
`exec` gives every command a meaning, well formed or not. -/

namespace Sys2Proof

/-- Every cell lies in the journal memory's address space (12.5). -/
def cellsInMemory (cells : List Host.Cell) : Bool := cells.all fun c => decide (c.1 < Config.memorySize)

/-- Every failed ring position is one that the ring can have (R145). -/
def positionsInRing (ps : List Nat) : Bool := ps.all fun p => decide (p < Config.ringMax)

/-- Bytes that bring a frame of the given kind: after a receive gap one that passes the checks of R123; without
one, bytes that may be the rest of a frame begun. -/
def framePasses (k : Machine.Kind) (x : LineBytes) : Bool :=
  if x.afterGap then (Machine.siteFrame k x.bytes).isSome else !x.bytes.isEmpty

/-- Bytes that bring no frame that passes the checks of R123: after a receive gap they are skipped, malformed, begun
or whole and bad; without one they may be the rest of a frame begun. -/
def bytesBad (x : LineBytes) : Bool :=
  match Machine.delimit x.bytes with
  | .nothing => false
  | .complete f => !x.afterGap || !Machine.passesChecks f
  | .skipped | .begun | .malformed => true

/-- A submission of the given kind passes test 1 of R184, or is one that fails it by its mask alone. -/
def submissionOfKind (k : Machine.SubmissionKind) (frame : List Byte) : Bool :=
  match Machine.parseFrame frame with
  | none => false
  | some f => f.kind == k.code && f.body.length == k.bodyLength

/-- The well-formed commands. -/
def Instr.wellFormed : Instr → Bool
  | .powerStart | .supplyDip | .resetLine | .holdEnd _ => true
  | .configAreaRead outside _ => cellsInMemory outside
  | .planAreaLoad outside _ => cellsInMemory outside
  | .journalScan outside failed => cellsInMemory outside && positionsInRing failed.ring
  | .listenEnd | .lift _ | .hang _ | .liftWaitExpiry _ | .noFlowExpiry _ | .stallExpiry _ => true
  | .tagLossExpiry _ | .settleExpiry _ | .channelEdge _ _ _ => true
  | .readerBlock _ _ _ content => decide (content.length ≤ 162)
  | .readerWritten _ _ _ | .readerPresent _ _ _ | .readerNoTag _ _ | .readerFault _ _ => true
  | .readerWindowExpiry _ | .pollTimerExpiry _ | .quietTimerExpiry _ => true
  | .stopKey _ _ | .clearKey _ | .emergencyStopActive | .emergencyStopInactive => true
  | .supervisorKeyChange _ | .updateRequest | .statusFrameEnd => true
  | .issueFrame x => framePasses .issue x
  | .serviceFrame x => framePasses .service x
  | .vehicleNoticeFrame x => framePasses .vehicleNotice x
  | .classNoticeFrame x => framePasses .classNotice x
  | .beaconFrame x => framePasses .beacon x
  | .badFrame x => bytesBad x
  | .receiveGap | .carrier | .guardTimePassed | .slotCounted | .readBackCollision | .cleanReadBack => true
  | .congestionExpiry | .beaconTimerExpiry => true
  | .peerStale station => decide (1 ≤ station) && decide (station ≤ 254)
  | .appendComplete | .openSlotWriteComplete | .planWriteComplete | .headerWriteComplete => true
  | .sendReadComplete outside => cellsInMemory outside
  | .memoryOpFailed | .memoryOpTimeout | .scanTimerExpiry | .converterResponse _ _ _ => true
  | .converterWindowExpiry | .failedStockTest => true
  | .submitVehicleNotice frame => submissionOfKind .vehicleNotice frame
  | .submitClassNotice frame => submissionOfKind .classNotice frame
  | .submitService frame => submissionOfKind .service frame
  | .setTime frame => submissionOfKind .setTime frame
  | .noticeOutputEnd | .countsTimer | .supplyRisesAboveThreshold | .resetLineInactive => true
  | .readOnlyPassEnd outside failed => cellsInMemory outside && positionsInRing failed
  | .ringSlotWritten => true
  | .malformedSubmission bytes =>
    match Machine.frameTaken bytes with
    | none => false
    | some frame => !Machine.submissionWhole frame

end Sys2Proof
end

