-- ==== Sys2Proof/Machine/StartUp.lean ====
section
/-! DEFINITION. Starts, HOLD, CONFIG, CONFIG FAULT and the end of LISTEN (R7, R28, R49, R64, R86, R105,
R121, R140, R159, R170 to R177, R180, R181, R188). -/

namespace Sys2Proof.Machine

/-! ### A start begins (R171, R172) -/

/-- The more severe of two causes: POWER START, then SUPPLY DIP, then RESET LINE (R171). -/
def Cause.moreSevere : Cause → Cause → Cause
  | .powerStart, _ => .powerStart
  | _, .powerStart => .powerStart
  | .supplyDip, _ => .supplyDip
  | _, .supplyDip => .supplyDip
  | .resetLine, .resetLine => .resetLine

/-- The structure that a write cut short by a start leaves failing its check: its address and its size.
The plan area is found as it was (R83, R149, R154, R159; notes/assumptions/4). -/
def MemOp.torn (ringWritten : Bool) : MemOp → Option (Nat × Nat)
  | .progress h _ => some (openAddress h, 128)
  | .final h _ => some (openAddress h, 128)
  | .clearSlot h => some (openAddress h, 128)
  | .append _ pos _ (.issue r) => if ringWritten then some (openAddress r.hose, 128) else some (slotAddress pos, 128)
  | .append _ pos _ _ => if ringWritten then none else some (slotAddress pos, 128)
  | .header _ => some (Config.headerBase, 14)
  | .plan _ _ => none
  | .sendRead _ => none

/-- The bytes of a torn structure of `n` bytes: free bytes, and a check value that is wrong for them
(notes/assumptions/4). -/
def tornBytes (draws n : Nat) : List Byte :=
  let data := (List.range (n - 2)).map fun i => BitVec.ofNat 8 (Config.tornByte (draws + i))
  data ++ natToBytes 2 (~~~ crc16 data).toNat

/-- A memory write in service at a start is cut short (R159). -/
def State.tearWrite (s : State) : State :=
  match s.journal.inService.bind (MemOp.torn s.journal.ringWritten) with
  | none => s
  | some (a, n) => { s with mem := memWriteBytes s.mem a (tornBytes s.draws n), draws := s.draws + n }

/-- R28: a hose controller at a start. -/
def Hose.atStart (x : Hose) (c : Cause) : Hose :=
  { Hose.reset with hook := x.hook, lead := if c = .resetLine then x.lead else 0 }

/-- R86: the fleet table at a start. -/
def Fleet.atStart (f : Fleet) (c : Cause) : Fleet :=
  if c = .resetLine then { Fleet.reset with entries := f.entries } else Fleet.reset

/-- R140: the site line unit at a start. -/
def SiteLine.atStart (l : SiteLine) (c : Cause) : SiteLine :=
  if c = .resetLine then
    { SiteLine.reset with peers := l.peers.map fun p => { p with live := false, lastHeard := none }
                          siteTime := l.siteTime }
  else SiteLine.reset

/-- R181: the start controller at a start, with the levels of its two inputs. -/
def StartCtl.atStart (c : Cause) (supplyGood resetActive : Bool) : StartCtl :=
  { StartCtl.reset with
    cause := c, supplyGood := supplyGood, resetActive := resetActive, holdCounting := supplyGood && !resetActive }

/-- A start with a cause: work in progress is lost, and every block takes its start values (R172). -/
def State.startWith (s : State) (c : Cause) (supplyGood resetActive : Bool) : State :=
  let t := s.tearWrite
  { t with
    start := .atStart c supplyGood resetActive
    hoses := ⟨t.hoses.one.atStart c, t.hoses.two.atStart c⟩
    meters := ⟨.reset, .reset⟩
    tags := ⟨.reset, .reset⟩
    fleet := t.fleet.atStart c
    classes := .reset
    reservations := ⟨none, none⟩
    line := t.line.atStart c
    journal := .reset
    scan := .reset
    tanks := ⟨⟨none⟩, ⟨none⟩⟩
    panel := .reset
    notice := .reset }

/-- The cause a start takes: in HOLD the more severe of the one held and the new one (R171). -/
def State.causeOf (s : State) (c : Cause) : Cause :=
  if s.start.stage = .hold then s.start.cause.moreSevere c else c

/-- POWER_START (R171): the supply has risen past the power-on level. That it has passed the threshold is
SUPPLY_RISES_ABOVE_THRESHOLD (R173; notes/assumptions/12). -/
def execPowerStart (s : State) : Answer :=
  .next (s.startWith (s.causeOf .powerStart) false s.start.resetActive)

/-- SUPPLY_DIP (R171). -/
def execSupplyDip (s : State) : Answer :=
  .next (s.startWith (s.causeOf .supplyDip) false s.start.resetActive)

/-- RESET_LINE (R171). -/
def execResetLine (s : State) : Answer :=
  .next (s.startWith (s.causeOf .resetLine) s.start.supplyGood true)

/-! ### HOLD (R173) -/

/-- SUPPLY_RISES_ABOVE_THRESHOLD (R173): the 20 ms begin where the reset line is inactive. -/
def execSupplyRisesAboveThreshold (s : State) : Answer :=
  .next (s.setStart { s.start with
    supplyGood := true, holdCounting := s.start.stage == .hold && !s.start.resetActive })

/-- RESET_LINE_INACTIVE (R173): the 20 ms begin where the supply is good. -/
def execResetLineInactive (s : State) : Answer :=
  .next (s.setStart { s.start with
    resetActive := false, holdCounting := s.start.stage == .hold && s.start.supplyGood })

/-- The hook position of a level (R3, R28). -/
def hookOf (hung : Bool) : Hook := if hung then .hung else .lifted

/-- The levels on the lines taken when HOLD ends, and what begins there (R49, R64, R173, R183, R28). -/
def State.leaveHold (s : State) (x : LineLevels) : State :=
  { s with
    start := { s.start with stage := .config, holdCounting := false }
    elapsed := 0
    hoses := ⟨{ s.hoses.one with hook := hookOf x.hung.one }, { s.hoses.two with hook := hookOf x.hung.two }⟩
    meters :=
      ⟨{ s.meters.one with levelA := x.channelA.one, levelB := x.channelB.one, lastEdge := none },
        { s.meters.two with levelA := x.channelA.two, levelB := x.channelB.two, lastEdge := none }⟩
    tags := ⟨{ s.tags.one with quiet := some Config.quietTime }, { s.tags.two with quiet := some Config.quietTime }⟩
    panel := { s.panel with
      stopPressed := x.stopPressed, clearPressed := x.clearPressed, supervisorOn := x.supervisorOn
      emergency := x.emergencyActive } }

/-- HOLD_END (R173). -/
def execHoldEnd (lines : LineLevels) (s : State) : Answer :=
  if s.start.stage = .hold ∧ s.start.holdCounting = true then .next (s.leaveHold lines) else .next s

/-! ### CONFIG and CONFIG FAULT (R175 to R177) -/

/-- CONFIG FAULT with its reason; reception runs at the given rate (R175, R177). -/
def State.enterConfigFault (s : State) (r : ConfigFaultReason) (rate : Nat) : State :=
  (s.setStart { s.start with stage := .configFault, fault := some r }).setLine { s.line with rate := rate }

/-- A hose takes its configured values: the initial lead but after a RESET LINE start, which keeps the lead
held, 0 where no good record had yet given one (R27, R175; notes/assumptions/33). -/
def Hose.configured (x : Hose) (g : HoseConfig) (c : Cause) : Hose :=
  if g.present = true ∧ c ≠ .resetLine then { x with lead := g.lead } else x

/-- A meter unit takes its configuration: that of a hose not fitted keeps no counts (R29), and the channel
levels that stand on its lines (R49; notes/assumptions/13). -/
def Meter.configured (m : Meter) (g : HoseConfig) : Meter :=
  if g.present then m else { Meter.reset with levelA := m.levelA, levelB := m.levelB }

/-- A good configuration record loaded into every block (R172, R175, R181). -/
def State.loadConfig (s : State) (c : ConfigRecord) : State :=
  { s with
    cfg := c
    start := { s.start with recordGood := true, threshold := c.threshold }
    hoses := ⟨s.hoses.one.configured c.hoses.one s.start.cause, s.hoses.two.configured c.hoses.two s.start.cause⟩
    meters := ⟨s.meters.one.configured c.hoses.one, s.meters.two.configured c.hoses.two⟩
    line := { s.line with rate := c.lineRate }
    scan := { s.scan with list := c.scan, samples := c.scan.map fun e => Sample.empty e.purpose } }

/-- The configuration record that the memory holds judged by R175. -/
def State.judgeConfig (s : State) : State :=
  let bs := memReadBytes s.mem 0 256
  match configFault bs with
  | some r => s.enterConfigFault r (decodeConfig bs).lineRate
  | none => s.loadConfig (decodeConfig bs)

/-- The configuration area is still to be read in this start (R175). -/
def State.readingConfig (s : State) : Bool := s.start.stage == .config && !s.start.recordGood

/-- CONFIG_AREA_READ (R175): a read completes, or fails for the third time. -/
def execConfigAreaRead (outside : List Host.Cell) (failed : Bool) (s : State) : Answer :=
  if s.readingConfig then
    if failed then .next (s.enterConfigFault .readFailed 9600)
    else if cellsInMemory outside then .next (s.setMem (memSetCells s.mem outside)).judgeConfig
    else .fault .noSuchAddress
  else .next s

/-- The class record that the plan area holds, or the empty class where its read failed (R67, R176). -/
def State.planRecord (s : State) (failed : BitVec 8) (c : Nat) : ClassRecord :=
  if failed.getLsbD c then ClassRecord.empty else decodePlan (memReadBytes s.mem (planAddress c) 64)

/-- The class table loaded from the plan area (R176). -/
def State.loadPlans (s : State) (failed : BitVec 8) : State :=
  s.setClasses { s.classes with records := (List.range 8).map (s.planRecord failed) }

/-- PLAN_AREA_LOAD (R176): in CONFIG with a good record it leads to JOURNAL SCAN, and the first converter
scan starts (R170); it is made under CONFIG FAULT as well. -/
def execPlanAreaLoad (outside : List Host.Cell) (failed : BitVec 8) (s : State) : Answer :=
  let loading := s.start.stage = .config ∧ s.start.recordGood = true
  if loading ∨ s.start.stage = .configFault then
    if cellsInMemory outside then
      let s1 := (s.setMem (memSetCells s.mem outside)).loadPlans failed
      if loading then .next (s1.setStart { s1.start with stage := .journalScan }).startScan else .next s1
    else .fault .noSuchAddress
  else .next s

/-- The greatest record time among the slots of the given positions whose check value is correct and
whose read did not fail (R154, R177). -/
def State.greatestTime (s : State) (failed : List Nat) (positions : Nat) : Nat :=
  (List.range positions).foldl (fun t p =>
    if failed.contains p then t
    else match s.ringSlot p with
      | none => t
      | some x => max t x.time) 0

/-- Site time placed: the later of the time found and the value held; UNCONFIRMED, and running from here
(R137). -/
def State.placeSiteTime (s : State) (found : Nat) : State :=
  s.setLine { s.line with siteTime := max found s.line.siteTime, confirmed := false, running := true }

/-- READ_ONLY_PASS_END (R177). -/
def execReadOnlyPassEnd (outside : List Host.Cell) (failed : List Nat) (s : State) : Answer :=
  if s.start.stage = .configFault ∧ s.line.running = false then
    if cellsInMemory outside then
      let s1 := s.setMem (memSetCells s.mem outside)
      .next (s1.placeSiteTime (s1.greatestTime failed Config.ringMax))
    else .fault .noSuchAddress
  else .next s

/-! ### LISTEN ends (R180) -/

/-- A fitted hose leaves START by its hook position (R7). -/
def State.releaseHose (s : State) (h : Side) : State :=
  if (s.hoseCfg h).present then s.setHose h { s.hose h with state := (s.hose h).hook.rest } else s

/-- RUN is entered (R180). -/
def State.enterRun (s : State) : State :=
  let s1 := (((s.setStart { s.start with stage := .run, listenTimer := none }).releaseHose .one).releaseHose .two)
  (s1.setLine { s1.line with held := false, beaconDue := true }).trySend

/-- LISTEN_END (R180). -/
def execListenEnd (s : State) : Answer :=
  if s.start.stage = .listen ∧ s.start.listenTimer.isSome = true then .next s.enterRun else .next s

end Sys2Proof.Machine
end

