-- ==== Sys2Proof/Machine/JournalScan.lean ====
section
/-! DEFINITION. The start scan of the journal (R154 to R158, R178, R179). -/

namespace Sys2Proof.Machine

/-! ### Reading the ring (R146, R155) -/

/-- A ring slot as the scan reads it: a failed read is not valid (R151). -/
def State.scanSlot (s : State) (failed : List Nat) (pos : Nat) : Option RingSlot :=
  if failed.contains pos then none else s.ringSlot pos

/-- A valid slot: its check value is correct and its serial is at or above the base serial (R146). -/
def State.validSlot (s : State) (failed : List Nat) (base pos : Nat) : Option RingSlot :=
  match s.scanSlot failed pos with
  | none => none
  | some x => if base ≤ x.serial then some x else none

/-- Of the slots that `read` gives, the one with the greatest serial, with its position; of two with the same
serial the one at the lower position (notes/assumptions/38). -/
def greatestSlot (read : Nat → Option RingSlot) (nj : Nat) : Option (Nat × RingSlot) :=
  (List.range nj).foldl (fun acc p =>
    match read p, acc with
    | none, _ => acc
    | some x, none => some (p, x)
    | some x, some a => if a.2.serial < x.serial then some (p, x) else acc) none

/-- The slots walked back to from a slot, newest first: each valid with a serial one less than the one
after it (R155). -/
def walkBack (read : Nat → Option RingSlot) (nj : Nat) : Nat → Nat → Nat → List RingSlot
  | 0, _, _ => []
  | fuel + 1, pos, serial =>
    let p := (pos + nj - 1) % nj
    match read p with
    | none => []
    | some x => if x.serial + 1 = serial then x :: walkBack read nj fuel p x.serial else []

/-- The run that the scan finds: the slots newest first, and the position of the newest (R155). -/
structure Run where
  newestAt : Nat
  slots : List RingSlot
  deriving DecidableEq, Repr

/-- The run of the ring, none where no slot is valid (R155). -/
def findRun (read : Nat → Option RingSlot) (nj : Nat) : Option Run :=
  (greatestSlot read nj).map fun g => ⟨g.1, g.2 :: walkBack read nj (nj - 1) g.1 g.2.serial⟩

/-- How many slots of a run lie before its send mark (R155). -/
def sentCount (savedMark newest count : Nat) : Nat :=
  if savedMark + count < newest + 1 then 0 else min count (savedMark + count - (newest + 1))

/-- The journal with the positions of a run (R155). -/
def Journal.withRun (j : Journal) (nj : Nat) : Option Run → Journal
  | none => { j with tail := 0, sent := 0, unsent := 0, nextSerial := j.header.baseSerial, nextToLoad := 0 }
  | some r =>
    let count := r.slots.length
    let newest := match r.slots with
      | [] => 0
      | x :: _ => x.serial
    let tail := (r.newestAt + 1 + nj - count) % nj
    let sent := sentCount j.header.savedMark newest count
    { j with tail := tail, sent := sent, unsent := count - sent, nextSerial := newest + 1
             nextToLoad := (tail + sent) % nj }

/-! ### Formatting (R154) -/

/-- The epoch after another, 65,535 followed by 1 (R154). -/
def epochAfter (e : Nat) : Nat := if e = Config.epochMax then 1 else e + 1

/-- The old epoch where it can be read: of the header, else of the record in the slot with the greatest
serial (R154 step 2). -/
def oldEpoch (header : Option Header) (greatest : Option (Nat × RingSlot)) : Option Nat :=
  match header, greatest with
  | some h, _ => some h.epoch
  | none, some g => some g.2.epoch
  | none, none => none

/-- The journal as formatting leaves it (R154 steps 2 to 4). -/
def formattedJournal (epoch nj : Nat) (greatest : Option (Nat × RingSlot)) : Journal :=
  let base := match greatest with
    | none => 1
    | some g => g.2.serial + 1
  let pos := match greatest with
    | none => 0
    | some g => (g.1 + 1) % nj
  { Journal.reset with
    header := ⟨epoch, nj, base, base⟩
    tail := pos, nextSerial := base, nextToLoad := pos, nextSeq := 1 }

/-- The writes of formatting enter the request queue: both open slots CLEAR, then the header (R150, R153,
R154 step 5). -/
def State.requestFormat (s : State) : State :=
  ((s.pushOp (.clearSlot .one)).pushOp (.clearSlot .two)).requestHeader

/-- The scan has found what its end puts in place (R178). -/
def State.holdScanEnd (s : State) (e : ScanEnd) : State := s.setStart { s.start with scanEnd := some e }

/-- The journal formatted (R154): its writes are requested; the ring then holds no record, so the totalizers
start at 0 (R26). -/
def State.formatJournal (s : State) (failed : ScanFailures) (header : Option Header) : State :=
  let nj := s.cfg.nj
  let greatest := greatestSlot (s.scanSlot failed.ring) nj
  let found := s.greatestTime failed.ring nj
  let (epoch, s1) := match oldEpoch header greatest with
    | some e => (epochAfter e, s)
    | none => ((s.draw 65535).1 + 1, (s.draw 65535).2)
  ((s1.setJournal (formattedJournal epoch nj greatest)).requestFormat).holdScanEnd ⟨found, ⟨0, 0⟩⟩

/-! ### Derived values and recoveries (R156 to R158) -/

/-- The image of a hose's open slot as the scan finds it; its record is that hose's (R157). -/
def State.scanOpen (s : State) (failed : ScanFailures) (h : Side) : OpenImage :=
  if failed.openSlot.get h then .clear
  else match decodeOpen (memReadBytes s.mem (openAddress h) 128) with
    | .clear => .clear
    | .opened r => .opened { r with hose := h }
    | .final r => .final { r with hose := h }

/-- The record of an image that is not CLEAR. -/
def OpenImage.record : OpenImage → Option IssueRecord
  | .clear => none
  | .opened r => some r
  | .final r => some r

/-- The run holds a record with an image's record identity (R157). -/
def holdsRecord (run : List RingSlot) (r : IssueRecord) : Bool := run.any fun x => x.epoch == r.epoch && x.seq == r.seq

/-- The recovered form of an image (R142, R157). -/
def OpenImage.recovered : OpenImage → Option IssueRecord
  | .clear => none
  | .opened r => some { r with form := .recoveredLower, endReason := none, snapshot := none
                               flags := { r.flags with recovered := true } }
  | .final r => some { r with form := .recoveredFinal
                              flags := { r.flags with tagNotUpdated := false, tagUpdateUnknown := true } }

/-- The image is to be recovered: it is not CLEAR and the run does not hold its record (R157). -/
def OpenImage.toRecover (run : List RingSlot) (i : OpenImage) : Option IssueRecord :=
  match i.record with
  | none => none
  | some r => if holdsRecord run r then none else i.recovered

/-- The largest origin sequence of an epoch in the run and the open images; 0 where none exists (R156). -/
def largestSeq (epoch : Nat) (run : List RingSlot) (images : List OpenImage) : Nat :=
  let ring := run.foldl (fun n x => if x.epoch = epoch then max n x.seq else n) 0
  images.foldl (fun n i =>
    match i.record with
    | none => n
    | some r => if r.epoch = epoch then max n r.seq else n) ring

/-- The newest record time of the run and the open images; 0 where none exists (R156). -/
def newestTime (run : List RingSlot) (images : List OpenImage) : Nat :=
  let ring := run.foldl (fun t x => max t x.time) 0
  images.foldl (fun t i =>
    match i.record with
    | none => t
    | some r => max t r.stop) ring

/-- The totalizer of the newest ISSUE record of a hose in a run that stands newest first. -/
def ringTotalizer (h : Side) : List RingSlot → Nat
  | [] => 0
  | x :: rest =>
    if x.kind = 1 then
      let r := decodeIssue x.epoch x.seq x.content
      if r.hose = h then r.totalizer else ringTotalizer h rest
    else ringTotalizer h rest

/-- The totalizer restored for a hose, its recovered record counted as the newest (R26, R156). -/
def restoredTotalizer (h : Side) (run : List RingSlot) (i : OpenImage) : Nat :=
  match i.toRecover run with
  | some r => r.totalizer
  | none => ringTotalizer h run

/-- Next sequence from the largest sequence found; past the greatest the epoch advances and a header write
is requested (R144, R156). -/
def State.placeSequence (s : State) (largest : Nat) : State :=
  if largest = Config.sequenceMax then
    (s.setJournal { s.journal with
      nextSeq := 1, header := { s.journal.header with epoch := epochAfter s.journal.header.epoch } }).requestHeader
  else s.setJournal { s.journal with nextSeq := largest + 1 }

/-- A recovered record given a slot, or held where there is none (R157, R158). One whose serial would pass
4,294,967,295 stays among the pending recoveries with its claim (notes/assumptions/50). -/
def State.recover (s : State) (r : IssueRecord) : State :=
  let s1 := s.setJournal { s.journal with claims := s.journal.claims + 1 }
  if s1.journal.pendingRecoveries = [] ∧ s1.journal.canAssign s1.cfg.nj = true then s1.passAppend .scan (.issue r)
  else s1.setJournal { s1.journal with pendingRecoveries := s1.journal.pendingRecoveries ++ [r] }

/-- One open slot taken (R157). -/
def State.takeOpenSlot (s : State) (h : Side) (run : List RingSlot) (i : OpenImage) : State :=
  let s1 := s.setOpenImage h i
  match i.record with
  | none => s1
  | some _ =>
    match i.toRecover run with
    | some r => s1.recover r
    | none => s1.pushOp (.clearSlot h)

/-- A hose's totalizer restored (R26). -/
def State.restoreTotalizer (s : State) (h : Side) (n : Nat) : State := s.setHose h { s.hose h with totalizer := n }

/-- The scan with a good header (R155 to R158). -/
def State.scanRing (s : State) (failed : ScanFailures) (header : Header) : State :=
  let nj := s.cfg.nj
  let found := findRun (s.validSlot failed.ring header.baseSerial) nj
  let run := match found with
    | none => []
    | some r => r.slots
  let one := s.scanOpen failed .one
  let two := s.scanOpen failed .two
  let s1 := s.setJournal (({ Journal.reset with header := header } : Journal).withRun nj found)
  let s2 := s1.placeSequence (largestSeq header.epoch run [one, two])
  let s3 := (s2.takeOpenSlot .one run one).takeOpenSlot .two run two
  s3.holdScanEnd ⟨newestTime run [one, two], ⟨restoredTotalizer .one run one, restoredTotalizer .two run two⟩⟩

/-- A good header (R154). -/
def goodHeader (nj : Nat) (h : Header) : Bool :=
  decide (1 ≤ h.epoch) && decide (h.epoch ≤ Config.epochMax) && h.slotCount == nj

/-- The header as the scan reads it (R151, R154). -/
def State.scanHeader (s : State) (failed : ScanFailures) : Option Header :=
  if failed.header then none else decodeHeader (memReadBytes s.mem Config.headerBase 14)

/-- LISTEN is entered: its timer starts, the COUNTS timer where the port is enabled (notes/assumptions/42),
and the send queue begins to load (R179, R159, R188). -/
def State.enterListen (s : State) : State :=
  let s1 := s.setStart { s.start with stage := .listen, listenTimer := some (s.elapsed + Config.listenTime) }
  let s2 := if s1.cfg.noticeEnable then
      s1.setNotice { s1.notice with countsTimer := some (s1.elapsed + Config.countsPeriod) }
    else s1
  s2.requestSendRead

/-- The end of the stage puts in place what the scan has found: site time and the totalizers (R26, R137, R178). -/
def State.placeScanEnd (s : State) (e : ScanEnd) : State :=
  ((s.restoreTotalizer .one e.totals.one).restoreTotalizer .two e.totals.two).placeSiteTime e.time

/-- JOURNAL SCAN ends in LISTEN once no header write of the scan waits or is in service: the stage waits for
the header write of a formatting and of an epoch advance (R153, R154, R156, R178; notes/assumptions/14). -/
def State.endScan (s : State) : State :=
  match s.start.scanEnd with
  | none => s
  | some e =>
    if s.start.stage = .journalScan ∧ s.journal.operations.any MemOp.isHeader = false then
      ((s.setStart { s.start with scanEnd := none }).placeScanEnd e).enterListen
    else s

/-- The start scan over the memory as it stands: the ring is taken up under a good header, and otherwise the
journal is formatted; the stage ends at once where no header write has been requested (R154, R178). -/
def State.runScan (s : State) (failed : ScanFailures) : State :=
  match s.scanHeader failed with
  | some h => (if goodHeader s.cfg.nj h then s.scanRing failed h else s.formatJournal failed (some h)).endScan
  | none => (s.formatJournal failed none).endScan

/-- JOURNAL_SCAN (R178): once in the stage. -/
def execJournalScan (outside : List Host.Cell) (failed : ScanFailures) (s : State) : Answer :=
  if s.start.stage = .journalScan ∧ s.start.scanEnd = none then
    if cellsInMemory outside then .next ((s.setMem (memSetCells s.mem outside)).runScan failed)
    else .fault .noSuchAddress
  else .next s

end Sys2Proof.Machine
end

