-- ==== Sys2Proof/Machine/Records.lean ====
section
/-! DEFINITION. What a record does to the fleet table and the class table: heard and recovered ISSUE
records, SERVICE records, notices (R77, R79 to R84, R116 to R119). -/

namespace Sys2Proof.Machine

/-- The vehicle's entry changed by `f` with late items counted, its last-touched time set where anything of
it changed, the tag class alone included (notes/assumptions/34), and the change reported as OTHER (R71,
R84). -/
def State.changeEntry (s : State) (v : Nat) (f : FleetEntry → FleetEntry × Nat) : State :=
  match s.entry v with
  | none => s
  | some e =>
    let old := s.reportValues e
    let (e1, late) := f e
    let e2 : FleetEntry := if e1 = e then e else { e1 with touched := s.line.siteTime }
    ((s.setEntry e2).countLate late).reportOther v old

/-- The delivery of an ISSUE record as an absorb gives it (R77). -/
def IssueRecord.item (origin : Nat) (r : IssueRecord) : Item :=
  ⟨origin, r.seq, r.start, r.stop, r.shift, r.net, true⟩

/-- An entry that takes a heard or recovered ISSUE record: the absorb, the snapshot's merge, and the
class of a HEARD entry (R77). -/
def FleetEntry.takeIssue (e : FleetEntry) (origin : Nat) (r : IssueRecord) : FleetEntry × Nat :=
  let (c1, late) := e.carry.absorb (r.item origin)
  let c2 := match r.snapshot with
    | none => c1
    | some x => (c1.merge { x with list := [] }).1
  ({ e with carry := c2, tagClass := if e.source = .heard then some r.cls else e.tagClass }, bitCode late)

/-- An ISSUE record taken by the fleet table (R77). -/
def State.takeIssue (s : State) (origin : Nat) (r : IssueRecord) : State :=
  match s.findOrMake r.vehicle .heard (some r.cls) with
  | none => s.countNotApplied
  | some s1 => s1.changeEntry r.vehicle fun e => e.takeIssue origin r

/-- A SERVICE record in range (R116). -/
def ServiceRecord.inRange (r : ServiceRecord) : Bool :=
  Sys2Proof.Machine.inRange 1 Config.vehicleMax r.vehicle && Sys2Proof.Machine.inRange 1 4 r.level &&
  decide (r.hours ≤ Config.hoursMax)

/-- A SERVICE record adopted (R116 to R119). -/
def State.takeService (s : State) (origin epoch seq : Nat) (r : ServiceRecord) : State :=
  if r.inRange then
    match s.findOrMake r.vehicle .heard none with
    | none => s.countNotApplied
    | some s1 =>
      s1.changeEntry r.vehicle fun e => ({ e with carry := e.carry.adopt ⟨r.time, origin, epoch, seq⟩ r.level r.hours }, 0)
  else s.countNotApplied

/-! ### Vehicle notices (R81, 12.2) -/

/-- The mask names ALLOWANCE. -/
def VehicleNotice.hasAllowance (n : VehicleNotice) : Bool := n.mask.getLsbD 7
/-- The mask names HOLD. -/
def VehicleNotice.hasHold (n : VehicleNotice) : Bool := n.mask.getLsbD 6
/-- The mask names CLASS. -/
def VehicleNotice.hasClass (n : VehicleNotice) : Bool := n.mask.getLsbD 5
/-- The mask names ATTRIBUTES. -/
def VehicleNotice.hasAttrs (n : VehicleNotice) : Bool := n.mask.getLsbD 4

/-- The vehicle number and every masked value lie in their ranges (R81, 12.2). -/
def VehicleNotice.inRange (n : VehicleNotice) : Bool :=
  Sys2Proof.Machine.inRange 1 Config.vehicleMax n.vehicle &&
  (!n.hasAllowance || decide (n.allowance ≤ 65000) || n.allowance == 65535) &&
  (!n.hasHold || n.hold == 1 || n.hold == 2) &&
  (!n.hasClass || decide (n.cls ≤ 7) || n.cls == 255)

/-- A stamped field written by the stamped-write test where the mask names it (R79). -/
def Override.write {α : Type} (o : Override α) (masked : Bool) (st : Stamp) (v : Option α) : Override α :=
  if masked && st.newerThan o.stamp then ⟨v, some st⟩ else o

/-- The hold a notice asks for (R81, 12.2). -/
def noticeHold (code : Nat) (st : Stamp) : Hold := if code = 1 then .set st else .cleared st

/-- An entry that takes the masked fields of a notice, each by the stamped-write test (R81). -/
def FleetEntry.takeNotice (e : FleetEntry) (st : Stamp) (n : VehicleNotice) : FleetEntry :=
  { e with
    allowanceOv := e.allowanceOv.write n.hasAllowance st (if n.allowance = 65535 then none else some n.allowance)
    classOv := e.classOv.write n.hasClass st (if n.cls = 255 then none else some n.cls)
    attrsOv := e.attrsOv.write n.hasAttrs st (if n.useTag = 0 then some n.attrs else none)
    carry := if n.hasHold && st.newerThan e.carry.hold.stamp then { e.carry with hold := noticeHold n.hold st }
      else e.carry }

/-- The stamped-write test turns a masked field away (R79). -/
def turnsAwayField (masked : Bool) (st : Stamp) (held : Option Stamp) : Bool := masked && !st.newerThan held

/-- A masked field of the notice is turned away by the stamped-write test (R79, R81). -/
def FleetEntry.turnsAway (e : FleetEntry) (st : Stamp) (n : VehicleNotice) : Bool :=
  turnsAwayField n.hasAllowance st e.allowanceOv.stamp || turnsAwayField n.hasHold st e.carry.hold.stamp ||
  turnsAwayField n.hasClass st e.classOv.stamp || turnsAwayField n.hasAttrs st e.attrsOv.stamp

/-- A VEHICLE NOTICE taken by the fleet table (R81). -/
def State.takeVehicleNotice (s : State) (origin : Nat) (n : VehicleNotice) : State :=
  if n.inRange then
    match s.findOrMake n.vehicle .notice none with
    | none => s.countNotApplied
    | some s1 => s1.changeEntry n.vehicle fun e => (e.takeNotice ⟨n.stamp, origin⟩ n, 0)
  else s.countNotApplied

/-! ### Class notices (R82, 12.2) -/

/-- Item `i` of the mask of a CLASS NOTICE, 0 for DEFAULT ALLOWANCE at the most significant bit (12.2). -/
def ClassNotice.has (n : ClassNotice) (i : Nat) : Bool := n.mask.getLsbD (7 - i)

/-- The values of a level plan lie in the ranges of R67. -/
def Plan.inRange (p : Plan) : Bool :=
  decide (p.ih ≤ 20000) && decide (p.ah ≤ 20000) && decide (p.gh ≤ 20000) && decide (p.il ≤ 1000000) &&
  decide (p.al ≤ 1000000) && decide (p.gl ≤ 1000000)

/-- The class and every masked item lie in the ranges of R67 (R82). -/
def ClassNotice.inRange (n : ClassNotice) : Bool :=
  decide (n.cls ≤ 7) &&
  (!n.has 0 || decide (n.allowance ≤ 65000) || n.allowance == Config.unlimitedAllowance) &&
  (!n.has 1 || decide (n.hold ≤ 2)) && (!n.has 2 || decide (n.returnQty ≤ 2000)) &&
  (!n.has 3 || Sys2Proof.Machine.inRange 1 500 n.burn) &&
  (!n.has 4 || n.plans.l1.inRange) && (!n.has 5 || n.plans.l2.inRange) && (!n.has 6 || n.plans.l3.inRange) &&
  (!n.has 7 || n.plans.l4.inRange)

/-- An item written by the stamped-write test where the mask names it (R79, R82). -/
def Stamped.write {α : Type} (o : Stamped α) (masked : Bool) (st : Stamp) (v : α) : Stamped α :=
  if masked && st.newerThan o.stamp then ⟨v, some st⟩ else o

/-- A class record that takes the masked items of a notice, each by the stamped-write test (R82). -/
def ClassRecord.takeNotice (c : ClassRecord) (st : Stamp) (n : ClassNotice) : ClassRecord where
  allowance := c.allowance.write (n.has 0) st n.allowance
  hold := c.hold.write (n.has 1) st (ClassHold.ofCode n.hold)
  returnQty := c.returnQty.write (n.has 2) st n.returnQty
  burn := c.burn.write (n.has 3) st n.burn
  plans := ⟨c.plans.l1.write (n.has 4) st n.plans.l1, c.plans.l2.write (n.has 5) st n.plans.l2,
    c.plans.l3.write (n.has 6) st n.plans.l3, c.plans.l4.write (n.has 7) st n.plans.l4⟩

/-- A masked item of the notice is turned away by the stamped-write test (R79, R82). -/
def ClassRecord.turnsAway (c : ClassRecord) (st : Stamp) (n : ClassNotice) : Bool :=
  turnsAwayField (n.has 0) st c.allowance.stamp || turnsAwayField (n.has 1) st c.hold.stamp ||
  turnsAwayField (n.has 2) st c.returnQty.stamp || turnsAwayField (n.has 3) st c.burn.stamp ||
  turnsAwayField (n.has 4) st c.plans.l1.stamp || turnsAwayField (n.has 5) st c.plans.l2.stamp ||
  turnsAwayField (n.has 6) st c.plans.l3.stamp || turnsAwayField (n.has 7) st c.plans.l4.stamp

/-- A CLASS NOTICE taken by the class table: the record, its report and its plan write where at least one
item is written (R82 to R84). A written item always takes a new stamp, so the record then differs. -/
def State.takeClassNotice (s : State) (origin : Nat) (n : ClassNotice) : State :=
  if n.inRange then
    let old := s.classRecord n.cls
    let new := old.takeNotice ⟨n.stamp, origin⟩ n
    if new = old then s
    else
      let s1 := s.setClasses { s.classes with records := s.classes.records.set n.cls new }
      let s2 := if new.values = old.values then s1 else s1.reportClass n.cls
      s2.requestPlan n.cls new
  else s.countNotApplied

/-- The authority check: the origin stands on the authority list (R80). -/
def State.authorised (s : State) (origin : Nat) : Bool := s.cfg.authority.contains origin

end Sys2Proof.Machine
end

