-- ==== Sys2Proof/Machine/JournalCommands.lean ====
section
/-! DEFINITION. The completions and failures of the journal memory's operations (R148 to R153, R158,
R185). -/

namespace Sys2Proof.Machine

/-- What follows an operation: the next one is served, and a send read is requested where R152's
conditions hold. -/
def State.afterService (s : State) : State := (s.endService.serveNext).requestSendRead

/-- A local application whose stamp turns a masked field away is counted as not applied (R185, R85;
notes/assumptions/44). -/
def State.countTurnedAway (s : State) (turned : Bool) : State := if turned then s.countNotApplied else s

/-- An accepted submission applied at this station without a second authority check (R185). -/
def State.applyOwn (s : State) (r : Record) : State :=
  match r with
  | .issue _ => s
  | .service epoch seq x => s.takeService s.cfg.station epoch seq x
  | .vehicle _ _ n =>
    (s.takeVehicleNotice s.cfg.station n).countTurnedAway
      (match s.entry n.vehicle with
        | none => false
        | some e => e.turnsAway ⟨n.stamp, s.cfg.station⟩ n)
  | .cls _ _ n =>
    (s.takeClassNotice s.cfg.station n).countTurnedAway ((s.classRecord n.cls).turnsAway ⟨n.stamp, s.cfg.station⟩ n)

/-- A recovered record handed to the fleet table (R77, R158). -/
def State.absorbRecovered (s : State) (r : Record) : State :=
  match r with
  | .issue x => s.takeIssue s.cfg.station x
  | _ => s

/-- The completion of an append reported to the one that passed it (R148). -/
def State.reportAppend (s : State) (src : AppendSource) (r : Record) : State :=
  match src with
  | .hose => match r with
    | .issue x => s.hoseRecorded x.hose
    | _ => s
  | .notice => (s.applyOwn r).reply none
  | .scan => s.absorbRecovered r

/-- The ring slot of an append written (R148). -/
def State.writeSlot (s : State) (pos serial : Nat) (r : Record) : State :=
  s.setMem (memWriteBytes s.mem (slotAddress pos) (encodeSlot serial r))

/-- The claim of an ISSUE append ends (R147). -/
def State.endClaim (s : State) : State := s.setJournal { s.journal with claims := s.journal.claims - 1 }

/-- An append has completed (R147, R148, R187): reported on the monitor stream, a send read requested, and then
reported to the one that passed it (the order: notes/assumptions/24 and 39). -/
def State.appendDone (s : State) (src : AppendSource) (r : Record) : State :=
  ((s.ownItem r).afterService).reportAppend src r

/-- RING_SLOT_WRITTEN (R148): the ring slot of an append is in the memory. For an ISSUE record the CLEAR write
of the open slot begins; for a notice append the slot stands though its completion has not been taken
(R185; notes/assumptions/43). -/
def execRingSlotWritten (s : State) : Answer :=
  match s.journal.inService with
  | some (.append _ pos serial r) =>
    if s.journal.ringWritten then .next s
    else
      let s1 := s.writeSlot pos serial r
      .next (s1.setJournal { s1.journal with ringWritten := true, opTimer := some (s1.elapsed + 100) })
  | _ => .next s

/-- APPEND_COMPLETE (R148): the last write of the append in service completes. -/
def execAppendComplete (s : State) : Answer :=
  match s.journal.inService with
  | some (.append src pos serial r) =>
    match r with
    | .issue x =>
      if s.journal.ringWritten then .next ((s.writeOpen x.hose .clear).endClaim.appendDone src r) else .next s
    | _ => .next ((if s.journal.ringWritten then s else s.writeSlot pos serial r).appendDone src r)
  | _ => .next s

/-- OPEN_SLOT_WRITE_COMPLETE (R149, R154, R157). -/
def execOpenSlotWriteComplete (s : State) : Answer :=
  match s.journal.inService with
  | some (.progress h img) => .next (s.writeOpen h (.opened img)).afterService
  | some (.final h img) => .next (s.writeOpen h (.final img)).afterService
  | some (.clearSlot h) => .next (s.writeOpen h .clear).afterService
  | _ => .next s

/-- PLAN_WRITE_COMPLETE (R83, R150). -/
def execPlanWriteComplete (s : State) : Answer :=
  match s.journal.inService with
  | some (.plan c r) => .next (s.setMem (memWriteBytes s.mem (planAddress c) (encodePlan r))).afterService
  | _ => .next s

/-- HEADER_WRITE_COMPLETE (R150, R153, R154): the header write of a start scan ends its stage (R178). -/
def execHeaderWriteComplete (s : State) : Answer :=
  match s.journal.inService with
  | some (.header (some img)) =>
    .next (s.setMem (memWriteBytes s.mem Config.headerBase (encodeHeader img))).afterService.endScan
  | _ => .next s

/-- SEND_READ_COMPLETE (R152). -/
def execSendReadComplete (outside : List Host.Cell) (s : State) : Answer :=
  match s.journal.inService with
  | some (.sendRead pos) =>
    if cellsInMemory outside then
      let s1 := s.setMem (memSetCells s.mem outside)
      .next ((s1.sendReadDone pos (s1.ringSlot pos)).afterService).trySend
    else .fault .noSuchAddress
  | _ => .next s

/-- An operation that the memory fails: a read of the configuration area is made again up to three times
(R175), a send read finds an unreadable slot (R152), and a write is repeated at once (R151). -/
def State.operationFails (s : State) : State :=
  if s.readingConfig then
    if 3 ≤ s.start.failedReads + 1 then
      (s.setStart { s.start with failedReads := s.start.failedReads + 1 }).enterConfigFault .readFailed 9600
    else s.setStart { s.start with failedReads := s.start.failedReads + 1 }
  else match s.journal.inService with
    | none => s
    | some (.sendRead pos) => ((s.sendReadDone pos none).afterService).trySend
    | some _ => s.setJournal { s.journal with opTimer := some (s.elapsed + 100) }

/-- MEMORY_OP_FAILED (R151). -/
def execMemoryOpFailed (s : State) : Answer := .next s.operationFails

/-- MEMORY_OP_TIMEOUT (R151): no answer within 100 ms. -/
def execMemoryOpTimeout (s : State) : Answer := .next s.operationFails

end Sys2Proof.Machine
end

