-- ==== Sys2Proof/Machine/NoticeCommands.lean ====
section
/-! DEFINITION. Submissions on the notice port, and its output line (R184 to R187). -/

namespace Sys2Proof.Machine

/-- A submission as test 3 reads it: a record but for its stamp and its identity, or a time (12.2). -/
inductive Submission where
  | service (r : ServiceRecord)
  | vehicle (n : VehicleNotice)
  | cls (n : ClassNotice)
  deriving DecidableEq, Repr

/-- A SERVICE submission's body, stamped (R185, 12.2). -/
def serviceSubmission (stamp : Nat) (body : List Byte) : Submission :=
  match decodeFields [16, 8, 32, 24] body with
  | [v, l, t, h] => .service ⟨v, l, t, h, stamp⟩
  | _ => .service ⟨0, 0, 0, 0, stamp⟩

/-- A VEHICLE NOTICE submission's body, stamped: the record's content without its stamp time (12.2). -/
def vehicleSubmission (stamp : Nat) (body : List Byte) : Submission :=
  .vehicle (decodeVehicleNotice (slice body 0 2 ++ natToBytes 4 stamp ++ body.drop 2))

/-- A CLASS NOTICE submission's body, stamped (12.2). -/
def classSubmission (stamp : Nat) (body : List Byte) : Submission :=
  .cls (decodeClassNotice (slice body 0 1 ++ natToBytes 4 stamp ++ body.drop 1))

/-- Test 3 of R184 on a submission, at a site time. -/
def Submission.inRange (now : Nat) : Submission → Bool
  | .service r => r.inRange && decide (r.time ≤ now)
  | .vehicle n => n.inRange
  | .cls n => n.inRange

/-- The record that an accepted submission becomes (R185). -/
def Submission.record (epoch seq : Nat) : Submission → Record
  | .service r => .service epoch seq r
  | .vehicle n => .vehicle epoch seq n
  | .cls n => .cls epoch seq n

/-- Tests 2 to 4 of R184. -/
def State.judgeSubmission (s : State) (x : Submission) : Option SubmissionRefusal :=
  if !s.authorised s.cfg.station then some .notAuthorised
  else if !x.inRange s.line.siteTime then some .outOfRange
  else if !s.journal.claimAvailable s.cfg.nj then some .journalFull
  else none

/-- The port takes a submission: enabled, in RUN, with none in hand (R184). -/
def State.takesSubmission (s : State) : Bool := s.cfg.noticeEnable && s.inRun && !s.notice.inHand

/-- A frame taken: the submission is in hand (R184), its frame in the input buffer (notes/assumptions/52). -/
def State.takeInHand (s : State) (frame : List Byte) : State :=
  s.setNotice { s.notice with inHand := true, inputBuffer := frame }

/-- An accepted submission: a sequence is taken, and the record is passed to the journal unit (R185). -/
def State.accept (s : State) (x : Submission) : State :=
  let r := x.record s.journal.header.epoch s.journal.nextSeq
  s.takeSequence.passAppend .notice r

/-- A submission that passed test 1 judged, and accepted or refused (R184, R185). -/
def State.submit (s : State) (x : Submission) : State :=
  match s.judgeSubmission x with
  | some r => s.reply (some r)
  | none => s.accept x

/-- Bytes that arrive at the notice port between two receive gaps (R184; notes/assumptions/11). They are discarded
while the port does not take a frame, and skipped where they begin none; the frame taken is in hand, and is
judged by `take`, the tests of the command that brings it. One that fails test 1 is refused MALFORMED; one that
passes it as another kind's submission is not this command's (notes/assumptions/8). -/
def State.hearSubmission (s : State) (bytes : List Byte) (take : State → List Byte → Option State) : State :=
  if s.takesSubmission then
    match frameTaken bytes with
    | none => s
    | some frame =>
      match take (s.takeInHand frame) frame with
      | some t => t
      | none => if submissionWhole frame then s else (s.takeInHand frame).reply (some .malformed)
  else s

/-- A submission of kind `k`, read by `read` (R184, R185). -/
def State.submitFrame (s : State) (k : SubmissionKind) (bytes : List Byte)
    (read : Nat → List Byte → Submission) : State :=
  s.hearSubmission bytes fun s frame => (submissionBody k frame).map fun body => s.submit (read s.line.siteTime body)

/-- SUBMIT_VEHICLE_NOTICE (R184, R185). -/
def execSubmitVehicleNotice (frame : List Byte) (s : State) : Answer :=
  .next (s.submitFrame .vehicleNotice frame vehicleSubmission)

/-- SUBMIT_CLASS_NOTICE (R184, R185). -/
def execSubmitClassNotice (frame : List Byte) (s : State) : Answer :=
  .next (s.submitFrame .classNotice frame classSubmission)

/-- SUBMIT_SERVICE (R184, R185). -/
def execSubmitService (frame : List Byte) (s : State) : Answer :=
  .next (s.submitFrame .service frame serviceSubmission)

/-- A SET TIME that passed test 1 (R184 test 3, R186). -/
def State.setSiteTime (s : State) (t : Nat) : State :=
  if t < s.line.siteTime then s.reply (some .outOfRange)
  else (s.setLine { s.line with siteTime := t, confirmed := true }).reply none

/-- SET_TIME (R184, R186). -/
def execSetTime (bytes : List Byte) (s : State) : Answer :=
  .next (s.hearSubmission bytes fun s frame => (submissionBody .setTime frame).map fun body =>
    s.setSiteTime (bytesToNat body))

/-- MALFORMED_SUBMISSION (R184 test 1): a frame that fails test 1. One that passes it is taken by its own kind's
command and not by this one. -/
def execMalformedSubmission (bytes : List Byte) (s : State) : Answer := .next (s.hearSubmission bytes fun _ _ => none)

/-- What is on the output line has ended: after a reply no submission is in hand (R184, R187). -/
def NoticePort.outputEnd (n : NoticePort) : NoticePort :=
  match n.output with
  | none => n
  | some (.reply _) => ({ n with output := none, inHand := false, inputBuffer := [] } : NoticePort).feed
  | some (.item _) => ({ n with output := none } : NoticePort).feed

/-- NOTICE_OUTPUT_END (R187). -/
def execNoticeOutputEnd (s : State) : Answer := .next (s.setNotice s.notice.outputEnd)

/-- COUNTS_TIMER (R187): the timer runs on, and the COUNTS and PEERS items are made. -/
def execCountsTimer (s : State) : Answer :=
  if s.notice.countsTimer.isSome then
    .next (s.setNotice { s.notice with countsTimer := some (s.elapsed + Config.countsPeriod) }).countsItems
  else .next s

end Sys2Proof.Machine
end

