-- ==== Sys2Proof/Machine/Panel.lean ====
section
/-! DEFINITION. The panel port: keys, the emergency stop line, status frames (R24, R25, R164, R182, R183,
12.7). -/

namespace Sys2Proof.Machine

/-! ### The status frame (R182, 12.7) -/

/-- Start stage code, in the order of R173 (12.7). -/
def StartStage.code : StartStage → Nat
  | .hold => 0
  | .config => 1
  | .journalScan => 2
  | .listen => 3
  | .run => 4
  | .configFault => 5

/-- Fault reason code (12.7). -/
def faultReasonCode : Option ConfigFaultReason → Nat
  | none => 0
  | some .readFailed => 1
  | some .check => 2
  | some .range => 3
  | some .order => 4

/-- The 16 bytes of one hose (12.7); the places of the two marks in their byte: notes/assumptions/17. -/
def State.hoseStatus (s : State) (h : Side) : List Byte :=
  let x := s.hose h
  let m := s.meter h
  let present := x.delivery.isSome
  let disturbed := match x.delivery with
    | none => false
    | some d => x.state.live && d.watch == .disturbed
  let target := match x.delivery with
    | none => 0
    | some d => d.target
  [BitVec.ofNat 8 x.state.code, BitVec.ofNat 8 (reasonCode x.reason)] ++
    encodeFields [(1, bitCode present), (1, bitCode disturbed), (6, 0)] ++
    [BitVec.ofNat 8 (serviceByte x.serviceShown)] ++
    natToBytes 4 m.lastNet ++ natToBytes 4 m.lastGross ++ natToBytes 4 target

/-- The 4 bytes of one tank (12.7; notes/assumptions/17). -/
def State.tankStatus (s : State) (t : Side) : List Byte :=
  let stock := (s.tanks.get t).stock
  encodeFields [(1, bitCode (s.stockKnown t)), (1, bitCode stock.isSome), (6, 0), (24, stock.getD 0)]

/-- The 46 bytes of the status frame's body (12.7). -/
def State.statusBody (s : State) : List Byte :=
  encodeFields [(3, s.start.stage.code), (2, s.start.cause.code), (1, bitCode s.line.confirmed),
    (2, s.scan.state.code)] ++
  natToBytes 1 (faultReasonCode s.start.fault) ++ natToBytes 4 s.line.siteTime ++ s.hoseStatus .one ++
  s.hoseStatus .two ++ s.tankStatus .one ++ s.tankStatus .two

/-- The status frame: start mark, length 46, body, CRC over length and body (12.7). -/
def State.statusFrame (s : State) : List Byte := startMark :: withCheck (natToBytes 1 46 ++ s.statusBody)

/-- While the latch is set and no frame is being sent, the latch is cleared and a frame is sent (R182). -/
def State.answerRequest (s : State) : State :=
  if s.panel.latch = true ∧ s.panel.frame = none then
    s.setPanel { s.panel with latch := false, frame := some s.statusFrame }
  else s

/-- UPDATE_REQUEST (R182): answered from the end of HOLD onward; in HOLD the latch is not set
(notes/assumptions/41). -/
def execUpdateRequest (s : State) : Answer :=
  if s.start.stage = .hold then .next s else .next (s.setPanel { s.panel with latch := true }).answerRequest

/-- STATUS_FRAME_END (R182). -/
def execStatusFrameEnd (s : State) : Answer := .next (s.setPanel { s.panel with frame := none }).answerRequest

/-! ### Keys and switches (R24, R25, R164, R183) -/

/-- STOP_KEY (R25, R183): a press in RUN ends the live delivery of that hose. -/
def execStopKey (h : Side) (pressed : Bool) (s : State) : Answer :=
  if s.start.stage = .hold then .next s
  else
    let press := pressed && !s.panel.stopPressed.get h
    let s1 := s.setPanel { s.panel with stopPressed := s.panel.stopPressed.set h pressed }
    if press && s.inRun then .next (s1.endDelivery h .stopKey) else .next s1

/-- A CLEAR press with the supervisor key on: the hoses in RUN, and the scan unit from the end of CONFIG
with a good record (R24, R164, R183). Where the press clears both hoses, hose 1 is cleared first
(notes/assumptions/46). -/
def State.clearPress (s : State) : State :=
  let s1 := if s.inRun then (s.clearFault .one).clearFault .two else s
  if s1.start.stage = .journalScan ∨ s1.listening = true then s1.clearScan else s1

/-- CLEAR_KEY (R24, R164, R183). -/
def execClearKey (pressed : Bool) (s : State) : Answer :=
  if s.start.stage = .hold then .next s
  else
    let press := pressed && !s.panel.clearPressed
    let s1 := s.setPanel { s.panel with clearPressed := pressed }
    if press && s.panel.supervisorOn then .next s1.clearPress else .next s1

/-- EMERGENCY_STOP_ACTIVE (R5, R25). Of two live deliveries hose 1's ends first (notes/assumptions/46). -/
def execEmergencyStopActive (s : State) : Answer :=
  .next (((s.setPanel { s.panel with emergency := true }).endDelivery .one .emergencyStop).endDelivery .two
    .emergencyStop)

/-- EMERGENCY_STOP_INACTIVE (R25): no delivery is resumed. -/
def execEmergencyStopInactive (s : State) : Answer := .next (s.setPanel { s.panel with emergency := false })

/-- SUPERVISOR_KEY_CHANGE (R183). -/
def execSupervisorKeyChange (on : Bool) (s : State) : Answer :=
  if s.start.stage = .hold then .next s else .next (s.setPanel { s.panel with supervisorOn := on })

end Sys2Proof.Machine
end

