-- ==== Sys2Proof/Machine/Reader.lean ====
section
/-! DEFINITION. The commands of a ring tag reader line and of the tag exchange unit's timers (R50 to R63). -/

namespace Sys2Proof.Machine

/-- What ends an attempt: one of the five answers, or the expiry of the response window (R50, R52). -/
inductive ReaderAnswer where
  | block (serial : Nat) (content : List Byte)
  | written (serial : Nat)
  | present (serial : Nat)
  | noTag
  | readerFault
  | silence
  deriving DecidableEq, Repr

/-- The answers that complete a request's command (R50); the window's expiry ends any attempt. -/
def Request.completedBy (r : Request) (a : ReaderAnswer) : Bool :=
  match a with
  | .noTag => true
  | .readerFault => true
  | .silence => true
  | .block _ _ => match r with
    | .read _ => true
    | _ => false
  | .written _ => r.isWrite
  | .present _ => match r with
    | .poll => true
    | _ => false

/-- An attempt that is a poll result was answered (R16, R59). -/
def TagUnit.answeredBy (u : TagUnit) (a : ReaderAnswer) : Bool :=
  match a with
  | .present serial => u.bound == some serial
  | .written _ => true
  | .block _ _ => true
  | _ => false

/-- What a successful attempt brings. -/
inductive Success where
  | identity (serial : Nat) (i : Identity)
  | hours (n : Nat)
  | carry (c : Option Carry)
  | written
  | polled
  deriving DecidableEq, Repr

/-- The answer judged as its request requires (R55 to R57, R59, R60, R63). -/
def TagUnit.judge (u : TagUnit) (r : Request) (a : ReaderAnswer) : Option Success :=
  match r, a with
  | .read .identity, .block serial content => (validIdentity content).map fun i => .identity serial i
  | .read .hours, .block serial content =>
    if u.bound = some serial then
      (u.identity.bind fun i => validHours i.vehicle content).map fun n => .hours n
    else none
  | .read .carry, .block serial content =>
    if u.bound = some serial then
      some (.carry (u.identity.bind fun i => usableCarry i.vehicle content))
    else none
  | .progress _, .written serial => if u.bound = some serial then some .written else none
  | .writeBack _, .written serial => if u.bound = some serial then some .written else none
  | .poll, .present _ => some .polled
  | _, _ => none

/-- The unit's next step after an exchange has ended. -/
def State.serveTag (s : State) (h : Side) : State := s.setTag h ((s.tag h).serve s.elapsed)

/-- The next block asked for in IDENTIFYING; nothing more where the hose has left it (R8, R9). -/
def State.askNext (s : State) (h : Side) (k : ReadKind) : State :=
  if (s.hose h).state = .identifying then s.setTag h ((s.tag h).askRead s.elapsed k) else s.serveTag h

/-- The reads of IDENTIFYING are over (R8). -/
def State.readsOver (s : State) (h : Side) : State :=
  let s1 := s.serveTag h
  if (s1.hose h).state = .identifying then s1.identified h else s1

/-- An exchange has ended with success (R8, R52, R55 to R57, R63). -/
def State.exchangeDone (s : State) (h : Side) (r : Request) (x : Success) : State :=
  let u := (s.tag h).toReady
  match x with
  | .identity serial i =>
    let s1 := s.setTag h { u with bound := some serial, identity := some i }
    (s1.setHose h { s1.hose h with liftWait := none }).askNext h .hours
  | .hours n => (s.setTag h { u with hours := some n }).askNext h .carry
  | .carry c => (s.setTag h { u with carry := c }).readsOver h
  | .polled => (s.setTag h u).serveTag h
  | .written =>
    let s1 := (s.setTag h u).serveTag h
    if r.isWriteBack then s1.writeBackOver h true else s1

/-- An exchange has been given up (R8, R52, R56, R57, R60, R63). -/
def State.exchangeGivenUp (s : State) (h : Side) (r : Request) : State :=
  let s1 := s.setTag h (s.tag h).toReady
  match r with
  | .read .identity => s1.askNext h .identity
  | .read .hours => (s1.setTag h { s1.tag h with hours := none }).askNext h .carry
  | .read .carry => (s1.setTag h { s1.tag h with carry := none }).readsOver h
  | .progress _ => s1.serveTag h
  | .writeBack _ => (s1.serveTag h).writeBackOver h false
  | .poll => s1.serveTag h

/-- Another attempt follows a failed one (R52, R60, R61, R63). -/
def TagUnit.triesAgain (u : TagUnit) (x : Exchange) : Bool :=
  decide (x.attempts < x.request.maxAttempts) && !x.noMore && !(x.request.isProgress && u.waitingProgress.isSome)

/-- An attempt has ended (R52, R59). -/
def State.attemptEnded (s : State) (h : Side) (x : Exchange) (a : ReaderAnswer) : State :=
  let s1 := s.pollResult h ((s.tag h).answeredBy a)
  let u := s1.tag h
  match u.judge x.request a with
  | some ok => s1.exchangeDone h x.request ok
  | none =>
    if u.triesAgain x then s1.setTag h (u.retry s1.elapsed x) else s1.exchangeGivenUp h x.request

/-- What ends the attempt of the exchange taken, where it completes its command: in ABANDONED it is
discarded and the unit becomes READY (R52, R54). -/
def State.endAttempt (s : State) (h : Side) (x : Exchange) (a : ReaderAnswer) : State :=
  match (s.tag h).state with
  | .inFlight => if x.request.completedBy a then s.attemptEnded h x a else s
  | .abandoned =>
    if x.request.completedBy a then (s.setTag h (s.tag h).toReady).serveTag h else s
  | .ready => s

/-- An answer taken from the reader: discarded in READY, or where its number differs from that of the
command in flight (R52). -/
def State.readerAnswer (s : State) (h : Side) (number : BitVec 8) (a : ReaderAnswer) : State :=
  match (s.tag h).current with
  | none => s
  | some x => if x.number = number then s.endAttempt h x a else s

/-- READER_BLOCK (R55 to R57). -/
def execReaderBlock (h : Side) (number : BitVec 8) (serial : Nat) (content : List Byte) (s : State) : Answer :=
  .next (s.readerAnswer h number (.block serial content))

/-- READER_WRITTEN (R59, R60, R63). -/
def execReaderWritten (h : Side) (number : BitVec 8) (serial : Nat) (s : State) : Answer :=
  .next (s.readerAnswer h number (.written serial))

/-- READER_PRESENT (R59). -/
def execReaderPresent (h : Side) (number : BitVec 8) (serial : Nat) (s : State) : Answer :=
  .next (s.readerAnswer h number (.present serial))

/-- READER_NO_TAG (R52). -/
def execReaderNoTag (h : Side) (number : BitVec 8) (s : State) : Answer :=
  .next (s.readerAnswer h number .noTag)

/-- READER_FAULT (R52). -/
def execReaderFault (h : Side) (number : BitVec 8) (s : State) : Answer :=
  .next (s.readerAnswer h number .readerFault)

/-- READER_WINDOW_EXPIRY (R52): the response window of the command in flight. -/
def execReaderWindowExpiry (h : Side) (s : State) : Answer :=
  match (s.tag h).current, (s.tag h).window with
  | some x, some _ => .next (s.endAttempt h x .silence)
  | _, _ => .next s

/-- POLL_TIMER_EXPIRY (R58): poll due is set, the timer restarts, and a READY unit sends a PROBE. -/
def execPollTimerExpiry (h : Side) (s : State) : Answer :=
  let u := s.tag h
  if u.polling = true ∧ u.pollTimer.isSome = true then
    .next ((s.setTag h { u with pollDue := true, pollTimer := some (s.elapsed + Config.pollPeriod) }).serveTag h)
  else .next s

/-- QUIET_TIMER_EXPIRY (R51, R52): a waiting request is served. -/
def execQuietTimerExpiry (h : Side) (s : State) : Answer :=
  let u := s.tag h
  if u.quiet.isSome then .next ((s.setTag h { u with quiet := none }).serveTag h) else .next s

end Sys2Proof.Machine
end

