-- ==== Sys2Proof/Machine/Reception.lean ====
section
/-! DEFINITION. Reception on the site line: own number, peer table, window, dispatch, beacons, site time
(R80, R123, R131 to R137, R139, R177). -/

namespace Sys2Proof.Machine

/-! ### The peer table (R132, R133) -/

/-- A peer is freed before another: the older last heard, an absent one oldest, then the lower station
(R132). -/
def Peer.freedBefore (a b : Peer) : Bool :=
  match a.lastHeard, b.lastHeard with
  | none, none => decide (a.station < b.station)
  | none, some _ => true
  | some _, none => false
  | some x, some y => decide (x < y) || (x == y && decide (a.station < b.station))

/-- Of two peers, the one to free (R132). -/
def Peer.firstFreed (a b : Peer) : Peer := if b.freedBefore a then b else a

/-- A new entry, before the frame updates it (R132). -/
def Peer.new (station epoch : Nat) : Peer := ⟨station, epoch, true, none, 0, none, 0, none, none⟩

/-- The entry of a station (R132). -/
def SiteLine.peer (l : SiteLine) (station : Nat) : Option Peer := l.peers.find? fun p => p.station == station

/-- The peers with room for one more: where 32 stand, one is freed (R132). -/
def peersWithRoom (ps : List Peer) : List Peer :=
  if ps.length < Config.peerSize then ps
  else match ps with
    | [] => []
    | p :: rest =>
      let freed := rest.foldl Peer.firstFreed p
      ps.filter fun q => q.station != freed.station

/-- The peers with an entry for a station, made where there is none (R132). -/
def peersWith (ps : List Peer) (station epoch : Nat) : List Peer :=
  if ps.any fun p => p.station == station then ps else peersWithRoom ps ++ [Peer.new station epoch]

/-- A change of one station's entry. -/
def SiteLine.changePeer (l : SiteLine) (station : Nat) (f : Peer → Peer) : SiteLine :=
  { l with peers := l.peers.map fun p => if p.station == station then f p else p }

/-- An entry on a frame that passed R131: LIVE, its last heard now (R133). -/
def Peer.heard (p : Peer) (now : Nat) : Peer := { p with live := true, lastHeard := some now }

/-- An entry takes a frame's epoch; another epoch clears the window and the gap reference (R134 step 1,
R136 step 1). -/
def Peer.takeEpoch (p : Peer) (epoch : Nat) : Peer :=
  if p.epoch = epoch then p else { p with epoch := epoch, high := none, marks := 0, gapRef := none }

/-- The window's judgement of a sequence: the entry after an acceptance, or none for a duplicate or old
record (R134 step 2). -/
def Peer.window (p : Peer) (seq : Nat) : Option Peer :=
  match p.high with
  | none => some { p with high := some seq, marks := 1 }
  | some high =>
    if high < seq then some { p with high := some seq, marks := (p.marks <<< (seq - high)) ||| 1 }
    else if high < seq + 32 then
      if p.marks.getLsbD (high - seq) then none
      else some { p with marks := p.marks ||| (1#32 <<< (high - seq)) }
    else none

/-- The entry of a frame's origin found or made, and touched by the frame (R132, R133, R134 step 1). -/
def SiteLine.hear (l : SiteLine) (f : SiteFrame) (now : Nat) : SiteLine :=
  ({ l with peers := peersWith l.peers f.origin f.epoch } : SiteLine).changePeer f.origin fun p =>
    (p.heard now).takeEpoch f.epoch

/-! ### Dispatch (R80, R135) -/

/-- The content of a record frame (12.2). -/
def SiteFrame.content (f : SiteFrame) : List Byte := f.body.drop 5

/-- A record that needs the authority check (R80). -/
def State.ifAuthorised (s : State) (origin : Nat) (apply : State → State) : State :=
  if s.authorised origin then apply s else s.countUnauthorised

/-- An accepted record dispatched to its owners (R135). -/
def State.dispatch (s : State) (f : SiteFrame) : State :=
  match f.kind with
  | .issue => s.takeIssue f.origin (decodeIssue f.epoch f.seq f.content)
  | .service =>
    s.ifAuthorised f.origin fun s => s.takeService f.origin f.epoch f.seq (decodeService f.content)
  | .vehicleNotice =>
    s.ifAuthorised f.origin fun s => s.takeVehicleNotice f.origin (decodeVehicleNotice f.content)
  | .classNotice =>
    s.ifAuthorised f.origin fun s => s.takeClassNotice f.origin (decodeClassNotice f.content)
  | .beacon => s

/-- A record frame of another origin (R134, R135). -/
def State.takeRecordFrame (s : State) (f : SiteFrame) : State :=
  let s1 := s.setLine (s.line.hear f s.elapsed)
  match (s1.line.peer f.origin).bind fun p => p.window f.seq with
  | none => s1.trySend
  | some p =>
    (((s1.setLine (s1.line.changePeer f.origin fun _ => p)).heardItem f).dispatch f).trySend

/-! ### Beacons and site time (R136, R137) -/

/-- What a beacon's body holds for a hearer (12.2). -/
structure BeaconBody where
  time : Nat
  confirmed : Bool
  nextSeq : Nat
  unsent : Nat
  deriving DecidableEq, Repr

/-- The beacon's body read (12.2). -/
def decodeBeacon (body : List Byte) : BeaconBody :=
  match decodeFields [16, 32, 1, 1, 2, 4, 24, 8, 4, 4, 16] body with
  | [_, t, c, _, _, _, n, _, _, _, u] => ⟨t, bitOf c, n, u⟩
  | _ => ⟨0, false, 0, 0⟩

/-- The gap count and gap reference on a beacon (R136 step 2). -/
def Peer.takeGap (p : Peer) (nextSeq : Nat) : Peer :=
  let m := max (p.high.getD 0) (p.gapRef.getD 0)
  if m < nextSeq - 1 then { p with gap := satAdd countMax p.gap (nextSeq - 1 - m), gapRef := some (nextSeq - 1) }
  else p

/-- The site time merge of a beacon (R137). -/
def SiteLine.mergeTime (l : SiteLine) (b : BeaconBody) : SiteLine :=
  if l.siteTime + 2 ≤ b.time then { l with siteTime := b.time, confirmed := l.confirmed || b.confirmed }
  else if l.siteTime < b.time + 2 then { l with confirmed := l.confirmed || b.confirmed }
  else l

/-- A beacon's peer updates (R136 steps 1 to 3). -/
def SiteLine.hearBeacon (l : SiteLine) (f : SiteFrame) (b : BeaconBody) (now : Nat) : SiteLine :=
  (l.hear f now).changePeer f.origin fun p => { p.takeGap b.nextSeq with unsent := some b.unsent }

/-- A beacon of another origin (R136). -/
def State.takeBeacon (s : State) (f : SiteFrame) : State :=
  let b := decodeBeacon f.body
  ((s.setLine ((s.line.hearBeacon f b s.elapsed).mergeTime b)).beaconItem f).trySend

/-- A beacon in CONFIG FAULT: taken alike, but the site time merge waits until site time has been placed,
and there is no monitor stream (R137, R177). -/
def State.takeBeaconInFault (s : State) (f : SiteFrame) : State :=
  let b := decodeBeacon f.body
  let l := s.line.hearBeacon f b s.elapsed
  s.setLine (if l.running then l.mergeTime b else l)

/-! ### Frames (R123, R131, R177) -/

/-- Reception runs: in LISTEN, RUN and CONFIG FAULT (R173, R177, R179). -/
def State.receiving (s : State) : Bool := s.listening || s.start.stage == .configFault

/-- A frame dropped by the checks of R123 (R139). -/
def State.countBadFrame (s : State) : State :=
  if s.receiving then s.setLine { s.line with badCrc := countUp s.line.badCrc } else s

/-- A frame that bears this station's own number: another epoch is a number clash (R131). -/
def State.takeOwnNumber (s : State) (f : SiteFrame) : State :=
  if f.epoch = s.journal.header.epoch then s else s.setLine { s.line with clash := countUp s.line.clash }

/-- A frame that passed its checks in LISTEN or RUN (R131). -/
def State.takeFrame (s : State) (f : SiteFrame) : State :=
  if f.origin = s.cfg.station then s.takeOwnNumber f
  else if f.kind = .beacon then s.takeBeacon f
  else s.takeRecordFrame f

/-- A frame of kind `k` that passes its checks, handed to reception (R131, R177). -/
def State.handOver (s : State) (k : Kind) (f : SiteFrame) : State :=
  if s.listening then s.takeFrame f
  else if s.start.stage = .configFault ∧ k = .beacon then s.takeBeaconInFault f
  else s

/-- A frame that ended with its last CRC byte: dropped and counted where it fails its checks; one that passes
is handed over by `take`, the judgement of the command that brings it (R123). -/
def State.frameEnded (s : State) (take : List Byte → Option State) (frame : List Byte) : State :=
  match take frame with
  | some t => t
  | none => if passesChecks frame then s else s.countBadFrame

/-- The receiver's state replaced: the bytes of a frame begun, and whether it skips up to the next receive gap. -/
def State.setReceiver (s : State) (bytes : List Byte) (skipping : Bool) : State :=
  s.setLine { s.line with receiveBuffer := bytes, skipping := skipping }

/-- What is on the site line reaches reception: reception runs, and the station is not itself sending, for the bytes
it reads back in SEND are the sender's alone (R123). -/
def State.hearing (s : State) : Bool := s.receiving && s.line.sender != .send

/-- A receive gap of idle line: a frame begun ends as truncated and is counted, and the next byte may begin a frame
(R123, R139). -/
def State.gapPassed (s : State) : State :=
  if s.line.receiveBuffer = [] then s.setReceiver [] false else (s.setReceiver [] false).countBadFrame

/-- Bytes that arrive with no receive gap before them: skipped where the receiver skips; else they go on with the
frame begun in the receive buffer, or begin one. Once a frame has ended, or its first byte was no start mark, the
receiver skips up to the next receive gap (R123). -/
def State.hearRun (s : State) (bytes : List Byte) (take : State → List Byte → Option State) : State :=
  if s.line.skipping then s
  else
    match delimit (s.line.receiveBuffer ++ bytes) with
    | .nothing => s
    | .skipped => s.setReceiver [] true
    | .begun => s.setReceiver (s.line.receiveBuffer ++ bytes) false
    | .malformed => (s.setReceiver [] true).countBadFrame
    | .complete frame => (s.setReceiver [] true).frameEnded (take (s.setReceiver [] true)) frame

/-- Bytes that arrive on the site line, after a receive gap or not (R123; notes/assumptions/11). -/
def State.hearBytes (s : State) (x : LineBytes) (take : State → List Byte → Option State) : State :=
  if s.hearing then (if x.afterGap then s.gapPassed else s).hearRun x.bytes take else s

/-- A frame of kind `k` as it completes in the receive buffer (R123, R131, R177). -/
def State.receive (s : State) (k : Kind) (x : LineBytes) : State :=
  s.hearBytes x fun s frame => (siteFrame k frame).map (s.handOver k)

/-- ISSUE_FRAME (R77, R135). -/
def execIssueFrame (frame : LineBytes) (s : State) : Answer :=
  .next (s.receive .issue frame)

/-- SERVICE_FRAME (R80, R116, R135). -/
def execServiceFrame (frame : LineBytes) (s : State) : Answer :=
  .next (s.receive .service frame)

/-- VEHICLE_NOTICE_FRAME (R80, R81, R135). -/
def execVehicleNoticeFrame (frame : LineBytes) (s : State) : Answer :=
  .next (s.receive .vehicleNotice frame)

/-- CLASS_NOTICE_FRAME (R80, R82, R135). -/
def execClassNoticeFrame (frame : LineBytes) (s : State) : Answer :=
  .next (s.receive .classNotice frame)

/-- BEACON_FRAME (R136, R137). -/
def execBeaconFrame (frame : LineBytes) (s : State) : Answer :=
  .next (s.receive .beacon frame)

/-- BAD_FRAME (R123, R139): a completed frame that fails any of its checks is dropped and counted. A frame
that passes is taken by its own kind's command and not by this one. -/
def execBadFrame (frame : LineBytes) (s : State) : Answer :=
  .next (s.hearBytes frame fun _ _ => none)

/-- RECEIVE_GAP (R123, R139). -/
def execReceiveGap (s : State) : Answer := if s.hearing then .next s.gapPassed else .next s

/-- A LIVE entry unheard for 30 s becomes STALE (R133). -/
def Peer.stale (p : Peer) (now : Nat) : Peer :=
  match p.lastHeard with
  | none => p
  | some t => if t + Config.peerLife ≤ now then { p with live := false } else p

/-- PEER_STALE (R133). -/
def execPeerStale (station : Nat) (s : State) : Answer :=
  .next (s.setLine (s.line.changePeer station fun p => p.stale s.elapsed))

end Sys2Proof.Machine
end

