-- ==== Sys2Proof/Machine/SiteLineCommands.lean ====
section
/-! DEFINITION. The commands of the sender (R126 to R130). -/

namespace Sys2Proof.Machine

/-- CARRIER (R126): BACKOFF returns to DEFER with k kept; in DEFER the guard wait starts again. -/
def execCarrier (s : State) : Answer :=
  if s.line.sender = .backoff then .next (s.setLine { s.line with sender := .defer }) else .next s

/-- GUARD_TIME_PASSED (R126). -/
def execGuardTimePassed (s : State) : Answer :=
  if s.line.sender = .defer then .next s.guardPassed else .next s

/-- SLOT_COUNTED (R126): k falls by 1 in BACKOFF, and SEND is entered at 0. -/
def execSlotCounted (s : State) : Answer :=
  match s.line.sender, s.line.k with
  | .backoff, some k => .next (s.setLine { s.line with k := some (k - 1) }).sendAtZero
  | _, _ => .next s

/-- READ_BACK_COLLISION (R127, R128). -/
def execReadBackCollision (s : State) : Answer :=
  if s.line.sender = .send then .next (s.setLine (s.line.collide s.elapsed)) else .next s

/-- CLEAN_READ_BACK (R129). -/
def execCleanReadBack (s : State) : Answer :=
  if s.line.sender = .send then .next s.cleanEnd else .next s

/-- CONGESTION_EXPIRY (R128): the parked frame is no longer current, and the sender chooses afresh. -/
def execCongestionExpiry (s : State) : Answer :=
  if s.line.sender = .congested then
    .next (s.setLine { s.line with congestion := none, current := none }).chooseNext
  else .next s

/-- BEACON_TIMER_EXPIRY (R130). -/
def execBeaconTimerExpiry (s : State) : Answer :=
  if s.line.beaconTimer.isSome then
    .next (s.setLine { s.line with beaconDue := true, beaconTimer := none }).trySend
  else .next s

end Sys2Proof.Machine
end

