-- ==== Sys2Proof/Machine/Dispatch.lean ====
section
/-! DEFINITION. The one place where a command meets its meaning: an arm for each constructor of Instr. -/

namespace Sys2Proof.Machine

def exec (i : Instr) (s : State) : Host.Outcome State Fault Refusal :=
  match i with
  | .powerStart => Sys2Proof.Machine.execPowerStart s
  | .supplyDip => Sys2Proof.Machine.execSupplyDip s
  | .resetLine => Sys2Proof.Machine.execResetLine s
  | .holdEnd lines => Sys2Proof.Machine.execHoldEnd lines s
  | .configAreaRead outside failed => Sys2Proof.Machine.execConfigAreaRead outside failed s
  | .planAreaLoad outside failed => Sys2Proof.Machine.execPlanAreaLoad outside failed s
  | .journalScan outside failed => Sys2Proof.Machine.execJournalScan outside failed s
  | .listenEnd => Sys2Proof.Machine.execListenEnd s
  | .lift h => Sys2Proof.Machine.execLift h s
  | .hang h => Sys2Proof.Machine.execHang h s
  | .liftWaitExpiry h => Sys2Proof.Machine.execLiftWaitExpiry h s
  | .noFlowExpiry h => Sys2Proof.Machine.execNoFlowExpiry h s
  | .stallExpiry h => Sys2Proof.Machine.execStallExpiry h s
  | .tagLossExpiry h => Sys2Proof.Machine.execTagLossExpiry h s
  | .settleExpiry h => Sys2Proof.Machine.execSettleExpiry h s
  | .channelEdge h channel level => Sys2Proof.Machine.execChannelEdge h channel level s
  | .readerBlock h number serial content => Sys2Proof.Machine.execReaderBlock h number serial content s
  | .readerWritten h number serial => Sys2Proof.Machine.execReaderWritten h number serial s
  | .readerPresent h number serial => Sys2Proof.Machine.execReaderPresent h number serial s
  | .readerNoTag h number => Sys2Proof.Machine.execReaderNoTag h number s
  | .readerFault h number => Sys2Proof.Machine.execReaderFault h number s
  | .readerWindowExpiry h => Sys2Proof.Machine.execReaderWindowExpiry h s
  | .pollTimerExpiry h => Sys2Proof.Machine.execPollTimerExpiry h s
  | .quietTimerExpiry h => Sys2Proof.Machine.execQuietTimerExpiry h s
  | .stopKey h pressed => Sys2Proof.Machine.execStopKey h pressed s
  | .clearKey pressed => Sys2Proof.Machine.execClearKey pressed s
  | .emergencyStopActive => Sys2Proof.Machine.execEmergencyStopActive s
  | .emergencyStopInactive => Sys2Proof.Machine.execEmergencyStopInactive s
  | .supervisorKeyChange on => Sys2Proof.Machine.execSupervisorKeyChange on s
  | .updateRequest => Sys2Proof.Machine.execUpdateRequest s
  | .statusFrameEnd => Sys2Proof.Machine.execStatusFrameEnd s
  | .issueFrame frame => Sys2Proof.Machine.execIssueFrame frame s
  | .serviceFrame frame => Sys2Proof.Machine.execServiceFrame frame s
  | .vehicleNoticeFrame frame => Sys2Proof.Machine.execVehicleNoticeFrame frame s
  | .classNoticeFrame frame => Sys2Proof.Machine.execClassNoticeFrame frame s
  | .beaconFrame frame => Sys2Proof.Machine.execBeaconFrame frame s
  | .badFrame frame => Sys2Proof.Machine.execBadFrame frame s
  | .receiveGap => Sys2Proof.Machine.execReceiveGap s
  | .carrier => Sys2Proof.Machine.execCarrier s
  | .guardTimePassed => Sys2Proof.Machine.execGuardTimePassed s
  | .slotCounted => Sys2Proof.Machine.execSlotCounted s
  | .readBackCollision => Sys2Proof.Machine.execReadBackCollision s
  | .cleanReadBack => Sys2Proof.Machine.execCleanReadBack s
  | .congestionExpiry => Sys2Proof.Machine.execCongestionExpiry s
  | .beaconTimerExpiry => Sys2Proof.Machine.execBeaconTimerExpiry s
  | .peerStale station => Sys2Proof.Machine.execPeerStale station s
  | .appendComplete => Sys2Proof.Machine.execAppendComplete s
  | .openSlotWriteComplete => Sys2Proof.Machine.execOpenSlotWriteComplete s
  | .planWriteComplete => Sys2Proof.Machine.execPlanWriteComplete s
  | .headerWriteComplete => Sys2Proof.Machine.execHeaderWriteComplete s
  | .sendReadComplete outside => Sys2Proof.Machine.execSendReadComplete outside s
  | .memoryOpFailed => Sys2Proof.Machine.execMemoryOpFailed s
  | .memoryOpTimeout => Sys2Proof.Machine.execMemoryOpTimeout s
  | .scanTimerExpiry => Sys2Proof.Machine.execScanTimerExpiry s
  | .converterResponse number channel code => Sys2Proof.Machine.execConverterResponse number channel code s
  | .converterWindowExpiry => Sys2Proof.Machine.execConverterWindowExpiry s
  | .failedStockTest => Sys2Proof.Machine.execFailedStockTest s
  | .submitVehicleNotice frame => Sys2Proof.Machine.execSubmitVehicleNotice frame s
  | .submitClassNotice frame => Sys2Proof.Machine.execSubmitClassNotice frame s
  | .submitService frame => Sys2Proof.Machine.execSubmitService frame s
  | .setTime frame => Sys2Proof.Machine.execSetTime frame s
  | .noticeOutputEnd => Sys2Proof.Machine.execNoticeOutputEnd s
  | .countsTimer => Sys2Proof.Machine.execCountsTimer s
  | .supplyRisesAboveThreshold => Sys2Proof.Machine.execSupplyRisesAboveThreshold s
  | .resetLineInactive => Sys2Proof.Machine.execResetLineInactive s
  | .readOnlyPassEnd outside failed => Sys2Proof.Machine.execReadOnlyPassEnd outside failed s
  | .ringSlotWritten => Sys2Proof.Machine.execRingSlotWritten s
  | .malformedSubmission frame => Sys2Proof.Machine.execMalformedSubmission frame s

end Sys2Proof.Machine
end

