-- ==== Sys2Proof/Machine/Step.lean ====
section
/-! DEFINITION. One step: the command at the front of the queue, or a tick of the clock where none
waits. -/

namespace Sys2Proof.Machine

/-- One millisecond of the elapsed-time base (R173; notes/assumptions/7): it stands in HOLD, and site time
advances with each of its whole seconds once it has been placed (R137). -/
def State.tick (s : State) : State :=
  if s.start.stage = .hold then s
  else
    let now := s.elapsed + 1
    { s with
      elapsed := now
      line := if s.line.running = true ∧ now % 1000 = 0 then { s.line with siteTime := s.line.siteTime + 1 } else s.line }

/-- One step of the block. -/
def step (s : State) : Host.Outcome State Fault Refusal :=
  match s.pending with
  | [] => .next s.tick
  | c :: rest => exec c { s with pending := rest }

/-- The state with the command that a table word spells at the front of its queue; the table gives no
row any bits, so no word spells one (notes/assumptions/8). -/
def State.withFetchWord (s : State) (nbits w : Nat) : State :=
  match decodeTableWord nbits w with
  | none => s
  | some c => { s with pending := c :: s.pending }

end Sys2Proof.Machine
end

