-- ==== Sys2Proof/Safety.lean ====
section
/-! DEFINITION. The terms in which claims about the block are stated: which blocks of the state a command
leaves as they were, and the conditions that every step keeps. -/

namespace Sys2Proof.Machine

/-- The blocks of the state, one for each field of `State`. -/
inductive Block where
  | start
  | elapsed
  | cfg
  | hoses
  | meters
  | tags
  | fleet
  | classes
  | reservations
  | line
  | journal
  | mem
  | scan
  | tanks
  | panel
  | notice
  | draws
  | pending
  deriving DecidableEq, Repr

/-- Two states hold the same in a block. -/
def State.agree (s t : State) : Block → Prop
  | .start => s.start = t.start
  | .elapsed => s.elapsed = t.elapsed
  | .cfg => s.cfg = t.cfg
  | .hoses => s.hoses = t.hoses
  | .meters => s.meters = t.meters
  | .tags => s.tags = t.tags
  | .fleet => s.fleet = t.fleet
  | .classes => s.classes = t.classes
  | .reservations => s.reservations = t.reservations
  | .line => s.line = t.line
  | .journal => s.journal = t.journal
  | .mem => s.mem = t.mem
  | .scan => s.scan = t.scan
  | .tanks => s.tanks = t.tanks
  | .panel => s.panel = t.panel
  | .notice => s.notice = t.notice
  | .draws => s.draws = t.draws
  | .pending => s.pending = t.pending

/-- Every block but the listed ones holds in `t` what it holds in `s`. -/
def Only (bs : List Block) (s t : State) : Prop := ∀ b, b ∉ bs → s.agree t b

/-- Every byte of the memory outside `n` bytes from an address reads as before. -/
def SameOutside (a n : Nat) (m m' : List Host.Cell) : Prop :=
  ∀ x, x < a ∨ a + n ≤ x → memRead m' x = memRead m x

/-- The bytes of a command of reception stand where a frame can begin: the station is not itself in SEND, and a
receive gap comes with them or has passed since the last byte (R123). -/
def State.frameCanBegin (s : State) (afterGap : Bool) : Prop :=
  s.line.sender ≠ .send ∧ (afterGap = true ∨ (s.line.skipping = false ∧ s.line.receiveBuffer = []))

/-- A reply is on the output line, or waits for it behind the item that is on it (R184, R187). -/
def ReplyGiven (s t : State) (frame : List Byte) : Prop :=
  (s.notice.output = none → t.notice.output = some (.reply frame)) ∧
  (s.notice.output ≠ none → t.notice.output = s.notice.output ∧ t.notice.reply = some frame)

/-- The journal memory has its canonical form. -/
def State.memoryOk (s : State) : Prop := Memory.wf s.mem = true

/-- The backoff window lies between 4 and 512 slots (R127). -/
def State.windowOk (s : State) : Prop := 4 ≤ s.line.window ∧ s.line.window ≤ 512

/-- A hose outside AUTHORISED, FLOWING and SLOWING has its stage CLOSED and its pump STOPPED (R4, R5). -/
def Hose.valvesOk (x : Hose) : Prop := x.state.open = false → x.stage = .closed ∧ x.pump = false

/-- R5 at both hoses. -/
def State.valvesOk (s : State) : Prop := ∀ h, (s.hose h).valvesOk

/-- R91 at one hose: the reservation is present exactly while the hose is in AUTHORISED, FLOWING, SLOWING
or CLOSING, and then it names the hose's delivery and vehicle. -/
def reservationMatches (x : Hose) (r : Option Reservation) : Prop :=
  match r with
  | none => x.state.live = false
  | some r => x.state.live = true ∧ ∃ d, x.delivery = some d ∧ d.vehicle = r.vehicle ∧ d.station = r.station ∧
      d.seq = r.seq ∧ d.target = r.target

/-- R91 at both hoses, with R7: a hose is in START until RUN is reached. -/
def State.reservationsOk (s : State) : Prop :=
  ∀ h, reservationMatches (s.hose h) (s.reservation h) ∧ (s.start.stage ≠ .run → (s.hose h).state = .start)

/-- R101 at both hoses: while fuel may pass, the last net stands at or below the target; in AUTHORISED no
gross has been counted since the clear at the grant. -/
def State.targetsOk (s : State) : Prop :=
  ∀ h, ((s.hose h).state.open = true → ∀ d, (s.hose h).delivery = some d → (s.meter h).lastNet ≤ d.target) ∧
    ((s.hose h).state = .authorised → (s.meter h).gross = 0 ∧ (s.meter h).lastNet = 0)

/-! ### The claims of R147 -/

/-- The append of an ISSUE record that a hose has passed. -/
def MemOp.isHoseAppend (h : Side) : MemOp → Bool
  | .append .hose _ _ (.issue r) => r.hose == h
  | _ => false

/-- The append of an ISSUE record, which uses a claim (R148). -/
def MemOp.isIssueAppend : MemOp → Bool
  | .append _ _ _ (.issue _) => true
  | _ => false

/-- A hose's delivery has not yet been given a slot: its claim waits (R147). -/
def State.claimWaits (s : State) (h : Side) : Bool :=
  (s.hose h).delivery.isSome && !s.journal.operations.any (MemOp.isHoseAppend h)

/-- The claims of deliveries that wait for a slot (R147). -/
def State.claimsWaiting (s : State) : Nat := bitCode (s.claimWaits .one) + bitCode (s.claimWaits .two)

/-- A write-back in flight (R63). -/
def TagUnit.writingBack (u : TagUnit) : Bool :=
  u.state == .inFlight && (match u.current with
    | none => false
    | some x => x.request.isWriteBack)

/-- How a hose's delivery record, write-back and append go together: a record stands from the grant to the end
of its append; a write-back waits or is in flight, not both, while no append has been passed; one append at
most is passed, and then the hose waits for its end (R3, R20 to R22, R63, R148). -/
def State.cycleOk (s : State) (h : Side) : Prop :=
  let x := s.hose h
  let appends := (s.journal.operations.filter (MemOp.isHoseAppend h)).length
  let writes := bitCode (s.tag h).waitingWriteBack.isSome + bitCode (s.tag h).writingBack
  (x.delivery.isSome = true → x.state.live = true ∨ x.state = .writeback ∨ x.state = .recording ∨ x.state = .fault) ∧
  (x.state.live = true ∨ x.state = .writeback → x.delivery.isSome = true ∧ appends = 0) ∧
  (1 ≤ appends → x.delivery.isSome = true ∧ (x.state = .recording ∨ x.state = .fault) ∧ appends = 1 ∧ writes = 0) ∧
  (1 ≤ writes → x.delivery.isSome = true ∧ (x.state = .writeback ∨ x.state = .fault) ∧ writes = 1) ∧
  (∀ d img, x.delivery = some d → d.finalImage = some img → img.hose = h)

/-- R146, R147, R158: SENT and UNSENT fit in the ring, the claims held cover those of deliveries that wait for
a slot, the pending recoveries and the ISSUE appends passed, the reclaimable slots and the ring serials left
cover the deliveries' claims that wait, and while a recovery is pending no delivery's claim waits and no slot
can be given. Before JOURNAL SCAN the ring is empty and no recovery is pending. -/
def State.claimsOk (s : State) : Prop :=
  (∀ h, s.cycleOk h) ∧
  s.journal.sent + s.journal.unsent ≤ s.cfg.nj ∧
  (s.start.stage = .hold ∨ s.start.stage = .config →
    s.journal.sent = 0 ∧ s.journal.unsent = 0 ∧ s.journal.pendingRecoveries = []) ∧
  s.claimsWaiting + s.journal.pendingRecoveries.length +
    (s.journal.operations.filter MemOp.isIssueAppend).length ≤ s.journal.claims ∧
  s.claimsWaiting ≤ s.journal.reclaimable s.cfg.nj ∧ s.claimsWaiting ≤ s.journal.serialsLeft ∧
  (s.journal.pendingRecoveries ≠ [] → s.claimsWaiting = 0 ∧
    (s.journal.reclaimable s.cfg.nj = 0 ∨ s.journal.serialsLeft = 0))

/-! ### The run of the ring -/

/-- R146, R155: the valid slots of a ring in a memory end in `n` slots with serials that rise by 1 up to
`newest`, the newest at position `p`; `x k` is the slot `k` positions back from it. No valid slot has a greater
serial, nor an equal one at a lower position, and the slot before them does not continue them. -/
def FoundRun (m : List Host.Cell) (failed : List Nat) (nj base n p newest : Nat) (x : Nat → RingSlot) : Prop :=
  1 ≤ n ∧ n ≤ nj ∧ p < nj ∧
  (∀ k < n, (x k).serial + k = newest ∧ base ≤ (x k).serial ∧ (p + nj - k) % nj ∉ failed ∧
    decodeSlot (memReadBytes m (1280 + 128 * ((p + nj - k) % nj)) 128) = some (x k)) ∧
  (∀ q y, q < nj → q ∉ failed → decodeSlot (memReadBytes m (1280 + 128 * q) 128) = some y → base ≤ y.serial →
    y.serial ≤ newest ∧ (y.serial = newest → p ≤ q)) ∧
  (n < nj → (p + nj - n) % nj ∉ failed → ∀ y,
    decodeSlot (memReadBytes m (1280 + 128 * ((p + nj - n) % nj)) 128) = some y → base ≤ y.serial →
    y.serial + n ≠ newest)

/-- A stamp is newer than one that may be absent (Conventions 2.5, R65, R79): the later time, or at equal times
the larger station. -/
def StampBeats (st : Stamp) (old : Option Stamp) : Prop :=
  ∀ o, old = some o → o.time < st.time ∨ (o.time = st.time ∧ o.station < st.station)

/-- The READ CARRY in flight at a hose in IDENTIFYING with polling off ends by the command: a BLOCK with the
bound serial brings `carry`, absent where its content is not usable (R57), or the last attempt fails and the
read is given up (R52); nothing waits at the unit. -/
def CarryReadEnds (s : State) (h : Side) (i : Identity) (c : Instr) (carry : Option Carry) : Prop :=
  (s.hose h).state = .identifying ∧ (s.tag h).state = .inFlight ∧ (s.tag h).polling = false ∧
  (s.tag h).identity = some i ∧ (s.tag h).waitingRead = none ∧ (s.tag h).waitingWriteBack = none ∧
  (s.tag h).waitingProgress = none ∧ ∃ x, (s.tag h).current = some x ∧ x.request = .read .carry ∧
    ((∃ serial content, c = .readerBlock h x.number serial content ∧ (s.tag h).bound = some serial ∧
        carry = usableCarry i.vehicle content) ∨
      (carry = none ∧ (x.attempts = 3 ∨ x.noMore = true) ∧ (s.tag h).window.isSome = true ∧
        (c = .readerNoTag h x.number ∨ c = .readerFault h x.number ∨ c = .readerWindowExpiry h)))

/-! ### Edges under a good record -/

/-- An edge at a fitted hose under a good record that is a forward step and raises G to `g`, with the net
`net` of R39 at the mean of R38 (R30, R33, R37, R40). -/
def ForwardStep (s : State) (h : Side) (ch : Channel) (level : Bool) (g net : Nat) : Prop :=
  s.start.stage ≠ .hold ∧ s.start.recordGood = true ∧ (s.hoseCfg h).present = true ∧
  (∃ l, (s.meter h).lastEdge = some l ∧ l ≠ ch) ∧
  (if ch = .a then level ≠ (s.meter h).levelB else (s.meter h).levelA = level) ∧
  (s.meter h).pulses < 4294967295 ∧ g = ((s.meter h).pulses + 1) * 1000000 / (s.hoseCfg h).km ∧
  (s.meter h).gross < g ∧
  net = netOf g (s.hoseCfg h).alpha
    (meanTemperature g ((s.meter h).weighted + ((g : Int) - (s.meter h).gross) * (s.temperature h).1)
      (s.temperature h).1)

/-- The meter unit of a hose after such a step (R30, R33, R36, R37). -/
def State.meterAfterStep (s : State) (h : Side) (ch : Channel) (level : Bool) (g net : Nat) : Meter :=
  { s.meter h with
    levelA := if ch = .a then level else (s.meter h).levelA
    levelB := if ch = .a then (s.meter h).levelB else level
    lastEdge := some ch, pulses := (s.meter h).pulses + 1, gross := g
    weighted := (s.meter h).weighted + ((g : Int) - (s.meter h).gross) * (s.temperature h).1
    uncompensated := (s.meter h).uncompensated || (s.temperature h).2, lastNet := net, lastGross := g }

/-- A delivery whose live update has been weighted at the substitute temperature (R36). -/
def State.deliveryAfterStep (s : State) (h : Side) (d : Delivery) : Delivery :=
  { d with flags := { d.flags with
      uncompensated := d.flags.uncompensated || (s.meter h).uncompensated || (s.temperature h).2 } }

/-- The mark of a level is not newer than that of the level below it, its litres are no smaller, and its
hours, where both have marks, are no larger (R75). -/
def Level.inOrder (lo hi : Level) : Prop :=
  markNewer hi.mark lo.mark = false ∧ lo.litres ≤ hi.litres ∧
    (lo.mark.isSome = true → hi.mark.isSome = true → hi.hours ≤ lo.hours)

/-- The levels of a carry are in the order of R75. -/
def Carry.ordered (c : Carry) : Prop :=
  c.levels.l1.inOrder c.levels.l2 ∧ c.levels.l2.inOrder c.levels.l3 ∧ c.levels.l3.inOrder c.levels.l4

/-- The ranges of a meter unit (R29). -/
def Meter.inRange (m : Meter) : Prop :=
  m.pulses ≤ Config.pulseMax ∧ m.faultCount ≤ countMax ∧ m.faultTotal ≤ countMax

/-- The ranges of both meter units. -/
def State.metersOk (s : State) : Prop := ∀ h, (s.meter h).inRange

/-- The two copies of the hose, meter, tag unit and reservation blocks at the other hose are as before. -/
def OtherHoseKept (h : Side) (s t : State) : Prop :=
  t.hose h.other = s.hose h.other ∧ t.meter h.other = s.meter h.other ∧ t.tag h.other = s.tag h.other ∧
    t.reservation h.other = s.reservation h.other

/-- The command is a cause of R17 that ends the live delivery of a hose with the given end reason: a hang,
the expiry of one of its running timers in a state where it acts, or a STOP key press in RUN. -/
def EndCause (s : State) (h : Side) (r : EndReason) (c : Instr) : Prop :=
  (c = .hang h ∧ r = .nozzleHung ∧ s.unfitted h = false) ∨
  (c = .tagLossExpiry h ∧ r = .tagLost ∧ (s.hose h).tagLoss.isSome = true) ∨
  (c = .noFlowExpiry h ∧ r = .noFlow ∧ (s.hose h).state = .authorised ∧ (s.hose h).noFlow.isSome = true) ∨
  (c = .stallExpiry h ∧ r = .flowStall ∧ (s.hose h).state ≠ .authorised ∧ (s.hose h).stall.isSome = true) ∨
  (c = .stopKey h true ∧ r = .stopKey ∧ s.start.stage = .run ∧ s.panel.stopPressed.get h = false)

/-- The blocks that each command may change; every other block it leaves as it was. -/
def touched : Instr → List Block
  | .powerStart | .supplyDip | .resetLine => [.start, .hoses, .meters, .tags, .fleet, .classes, .reservations, .line,
      .journal, .mem, .scan, .tanks, .panel, .notice, .draws]
  | .holdEnd _ => [.start, .elapsed, .hoses, .meters, .tags, .panel]
  | .configAreaRead _ _ => [.cfg, .mem, .start, .line, .hoses, .meters, .scan]
  | .planAreaLoad _ _ => [.mem, .classes, .start, .scan, .hoses]
  | .journalScan _ _ => [.mem, .journal, .line, .hoses, .draws, .start, .notice, .classes]
  | .listenEnd => [.start, .hoses, .line]
  | .lift _ => [.hoses, .tags]
  | .hang _ => [.hoses, .tags, .reservations, .journal, .classes, .notice]
  | .liftWaitExpiry _ => [.hoses, .tags, .notice]
  | .noFlowExpiry _ | .stallExpiry _ | .tagLossExpiry _ => [.hoses, .tags, .reservations, .journal, .notice]
  | .settleExpiry _ | .channelEdge _ _ _ | .readerBlock _ _ _ _ | .readerWritten _ _ _ | .readerPresent _ _ _
  | .readerNoTag _ _ | .readerFault _ _ | .readerWindowExpiry _ =>
    [.hoses, .meters, .tags, .fleet, .classes, .reservations, .journal, .notice]
  | .pollTimerExpiry _ | .quietTimerExpiry _ => [.tags]
  | .stopKey _ _ | .emergencyStopActive => [.panel, .hoses, .tags, .reservations, .journal, .notice]
  | .clearKey _ => [.panel, .hoses, .meters, .notice, .scan]
  | .emergencyStopInactive | .supervisorKeyChange _ | .updateRequest | .statusFrameEnd => [.panel]
  | .issueFrame _ | .serviceFrame _ | .vehicleNoticeFrame _ | .classNoticeFrame _ =>
    [.line, .classes, .fleet, .hoses, .tags, .reservations, .journal, .notice]
  | .beaconFrame _ => [.line, .notice]
  | .badFrame _ | .receiveGap | .peerStale _ | .carrier | .slotCounted | .readBackCollision | .congestionExpiry
  | .beaconTimerExpiry => [.line]
  | .guardTimePassed => [.line, .draws]
  | .cleanReadBack => [.line, .draws, .journal, .classes]
  | .appendComplete => [.mem, .classes, .fleet, .hoses, .tags, .reservations, .journal, .notice]
  | .ringSlotWritten => [.mem, .journal]
  | .planWriteComplete => [.mem, .journal, .classes]
  | .openSlotWriteComplete => [.mem, .journal, .classes]
  | .headerWriteComplete => [.mem, .journal, .classes, .start, .line, .hoses, .notice]
  | .sendReadComplete _ => [.mem, .journal, .classes, .line]
  | .memoryOpFailed | .memoryOpTimeout => [.start, .line, .journal, .classes]
  | .scanTimerExpiry => [.scan, .hoses]
  | .converterResponse _ _ _ => [.scan, .tanks, .hoses, .tags, .reservations, .journal, .notice]
  | .converterWindowExpiry => [.scan]
  | .failedStockTest => [.hoses]
  | .submitVehicleNotice _ | .submitClassNotice _ | .submitService _ => [.journal, .classes, .notice]
  | .setTime _ => [.line, .notice]
  | .malformedSubmission _ | .noticeOutputEnd | .countsTimer => [.notice]
  | .supplyRisesAboveThreshold | .resetLineInactive => [.start]
  | .readOnlyPassEnd _ _ => [.mem, .line]

end Sys2Proof.Machine
end

