-- ==== Sys2Proof/Certificates/Slice0/Obligations.lean ====
section
/-! DEFINITION. The statements about the block, for the provers: one `Prop` each, named for what it
states. -/

open Sys2Proof Sys2Proof.Machine

/-! ### The machine as a whole -/

/-- The front command of the queue is the one that a step runs, on the state with the queue's rest. With no
command waiting a step is one millisecond of the elapsed base (the model's choice, notes/assumptions/7):
nothing in HOLD, else the base advances by 1, and site time by 1 at each whole second once it has been
placed (R137). -/
def Obligations.StepTakesFrontOrTicks : Prop :=
  (∀ (c : Instr) (rest : List Instr) (s : State), s.pending = c :: rest →
    step s = exec c { s with pending := rest }) ∧
  (∀ s : State, s.pending = [] → ∃ t, step s = .next t ∧
    (s.start.stage = .hold → t = s) ∧
    (s.start.stage ≠ .hold →
      t.elapsed = s.elapsed + 1 ∧
      t.line = { s.line with
        siteTime := if s.line.running = true ∧ (s.elapsed + 1) % 1000 = 0 then s.line.siteTime + 1
          else s.line.siteTime } ∧
      Only [.elapsed, .line] s t))

/-- Every command leaves as they were all blocks of the state but those that `touched` lists for it; so no
command touches the queue of commands, only HOLD_END touches the elapsed base, and only CONFIG_AREA_READ
touches the settings in force. -/
def Obligations.CommandsTouchOnlyTheirBlocks : Prop :=
  ∀ (c : Instr) (s t : State), exec c s = .next t → Only (touched c) s t

/-- The reset state: the journal memory has its canonical form (the form, and that an unlisted byte reads 0, are
the model's choice, notes/assumptions/1), the backoff window lies within R127, valves and reservations stand
as R5 and R91 say, and the meter units lie within the ranges of R29; targets and claims stand as R101 and R147
say. Reset values that no table gives are the model's choice (notes/assumptions/2). -/
def Obligations.ResetInvariants : Prop :=
  (State.reset.memoryOk) ∧
  (State.reset.windowOk ∧ State.reset.valvesOk ∧ State.reset.reservationsOk ∧ State.reset.metersOk) ∧
  (State.reset.targetsOk ∧ State.reset.claimsOk)

/-- Every step keeps the canonical form of the journal memory. -/
def Obligations.MemoryFormKept : Prop :=
  ∀ s t : State, s.memoryOk → step s = .next t → t.memoryOk

/-- R127: every step keeps the backoff window between 4 and 512 slots. R29: every step keeps P within 32 bits
and the two fault counts within 65,535. R13, R34, R42, R101, R103: every step keeps the last net at or below
the target while fuel may pass, and a target never rises while its delivery is live; the premise on the
reservations holds in every state that a run reaches (ReservationsKept). -/
def Obligations.RangesAndTargetsKept : Prop :=
  (∀ s t : State, s.windowOk → step s = .next t → t.windowOk) ∧
  (∀ s t : State, s.metersOk → step s = .next t → t.metersOk) ∧
  (∀ s t : State, s.reservationsOk → s.targetsOk → step s = .next t →
    t.targetsOk ∧
    ∀ h d d', (s.hose h).state.live = true → (t.hose h).state.live = true → (s.hose h).delivery = some d →
      (t.hose h).delivery = some d' → d'.target ≤ d.target)

/-- R91: every step keeps the reservation table in agreement with the hoses: an entry stands exactly while its
hose is in AUTHORISED, FLOWING, SLOWING or CLOSING, and names the delivery, vehicle and target of its
delivery record. -/
def Obligations.ReservationsKept : Prop :=
  ∀ s t : State, s.reservationsOk → step s = .next t → t.reservationsOk

/-- R146, R147, R158: every step keeps the reclaimable slots at least the claims of deliveries that have not
been given a slot, and the claims held at least those with the pending recoveries and the appends passed; so
the reclaimable slots are never fewer than the live deliveries. The premise on the reservations holds in every
state that a run reaches (ReservationsKept). -/
def Obligations.ReclaimableSlotsCoverClaims : Prop :=
  (∀ s t : State, s.reservationsOk → s.claimsOk → step s = .next t → t.claimsOk) ∧
  (∀ s : State, s.claimsOk →
    bitCode (s.hose .one).state.live + bitCode (s.hose .two).state.live ≤ s.journal.reclaimable s.cfg.nj)

/-- R5: every step keeps the valves closed and the pump stopped outside AUTHORISED, FLOWING and SLOWING; the
premise on the reservations holds in every state that a run reaches (ReservationsKept). -/
def Obligations.ValvesKept : Prop :=
  ∀ s t : State, s.reservationsOk → s.valvesOk → step s = .next t → t.valvesOk

/-- R137: site time is never set back, but by a start. -/
def Obligations.SiteTimeNeverSetBack : Prop :=
  ∀ s t : State, (∀ rest, s.pending ≠ .powerStart :: rest) → (∀ rest, s.pending ≠ .supplyDip :: rest) →
    (∀ rest, s.pending ≠ .resetLine :: rest) → step s = .next t → s.line.siteTime ≤ t.line.siteTime

/-! ### Starts and the stages -/

/-- A start taken outside HOLD: the cause is the command's (R171), the stage HOLD with the threshold 3.00 V
(R172, R181), and every block takes the start values of its closing table (R28, R49, R64, R86, R105, R140,
R159, R170, R188); a RESET LINE start keeps the leads, the fleet entries, the peers as STALE and site time,
unconfirmed. What no table gives is the model's choice: the journal's pointers and header image, the class
records, lead 0, the keys and the rate 9,600 before their load (notes/assumptions/2), and the supply and the
20 ms count as HOLD begins (notes/assumptions/12). With no memory write in service the memory stands as it
is. R171: a second condition in HOLD takes the more severe cause, POWER START before SUPPLY DIP before RESET
LINE; the fleet entries are kept only under the cause RESET LINE (R86). -/
def Obligations.StartsBegin : Prop :=
  (∀ (s : State) (c : Instr) (cause : Cause) (supplyGood resetActive : Bool), s.start.stage ≠ .hold →
    ((c = .powerStart ∧ cause = .powerStart ∧ supplyGood = false ∧ resetActive = s.start.resetActive) ∨
      (c = .supplyDip ∧ cause = .supplyDip ∧ supplyGood = false ∧ resetActive = s.start.resetActive) ∨
      (c = .resetLine ∧ cause = .resetLine ∧ supplyGood = s.start.supplyGood ∧ resetActive = true)) →
    ∃ t, exec c s = .next t ∧
      t.start = { stage := .hold, cause := cause, fault := none, threshold := .v300, listenTimer := none,
                  holdCounting := false, supplyGood := supplyGood, resetActive := resetActive,
                  recordGood := false, failedReads := 0, scanEnd := none } ∧
      (∀ h, t.hose h = { Hose.reset with
        hook := (s.hose h).hook, lead := if cause = .resetLine then (s.hose h).lead else 0 }) ∧
      (∀ h, t.meter h = .reset ∧ t.tag h = .reset ∧ t.reservation h = none ∧ t.tanks.get h = ⟨none⟩) ∧
      t.fleet = ⟨if cause = .resetLine then s.fleet.entries else [], 0, 0, 0⟩ ∧
      t.classes = .reset ∧
      t.line = { SiteLine.reset with
        peers := if cause = .resetLine then s.line.peers.map fun p => { p with live := false, lastHeard := none }
          else []
        siteTime := if cause = .resetLine then s.line.siteTime else 0 } ∧
      t.journal = .reset ∧ t.scan = .reset ∧ t.panel = .reset ∧ t.notice = .reset ∧
      t.cfg = s.cfg ∧ t.elapsed = s.elapsed ∧ t.pending = s.pending ∧
      (s.journal.inService = none → t.mem = s.mem ∧ t.draws = s.draws)) ∧
  (∀ s : State, s.start.stage = .hold →
    (∃ t, exec .powerStart s = .next t ∧ t.start.stage = .hold ∧ t.start.cause = .powerStart ∧
      t.fleet.entries = []) ∧
    (∃ t, exec .supplyDip s = .next t ∧ t.start.stage = .hold ∧
      t.start.cause = (if s.start.cause = .powerStart then .powerStart else .supplyDip) ∧ t.fleet.entries = []) ∧
    (∃ t, exec .resetLine s = .next t ∧ t.start.stage = .hold ∧ t.start.cause = s.start.cause ∧
      t.fleet.entries = if s.start.cause = .resetLine then s.fleet.entries else []))

/-- R149, R159: a start that cuts an open-slot write short leaves that slot failing its check, and no byte
outside the slot changes. -/
def Obligations.CutShortWriteFailsItsCheck : Prop :=
  ∀ (s : State) (h : Side) (img : IssueRecord) (c : Instr), s.memoryOk →
    (c = .powerStart ∨ c = .supplyDip ∨ c = .resetLine) →
    (s.journal.inService = some (.progress h img) ∨ s.journal.inService = some (.final h img)) →
    ∃ t, exec c s = .next t ∧ t.journal.inService = none ∧
      SameOutside (openAddress h) 128 s.mem t.mem ∧
      checkOk (memReadBytes t.mem (openAddress h) 128) = false

/-- R173: the two inputs of the start controller; in HOLD the 20 ms begin where both are good. R173: HOLD ends
in CONFIG; the levels on the lines are taken (R49, R183), the quiet timers start (R64) and the elapsed base
begins. That the hook positions, of which R28 says "as taken in START", are taken at this moment, and that all the
levels come as operands of HOLD_END, is the model's reading (notes/assumptions/12). -/
def Obligations.HoldAndItsInputs : Prop :=
  (∀ s : State,
    (∃ t, exec .supplyRisesAboveThreshold s = .next t ∧
      t.start = { s.start with
        supplyGood := true, holdCounting := decide (s.start.stage = .hold) && !s.start.resetActive } ∧
      Only [.start] s t) ∧
    (∃ t, exec .resetLineInactive s = .next t ∧
      t.start = { s.start with
        resetActive := false, holdCounting := decide (s.start.stage = .hold) && s.start.supplyGood } ∧
      Only [.start] s t)) ∧
  (∀ (x : LineLevels) (s : State), s.start.stage = .hold → s.start.holdCounting = true →
    ∃ t, exec (.holdEnd x) s = .next t ∧
      t.start = { s.start with stage := .config, holdCounting := false } ∧ t.elapsed = 0 ∧
      (∀ h, t.hose h = { s.hose h with hook := if x.hung.get h then .hung else .lifted }) ∧
      (∀ h, t.meter h = { s.meter h with
        levelA := x.channelA.get h, levelB := x.channelB.get h, lastEdge := none }) ∧
      (∀ h, t.tag h = { s.tag h with quiet := some 250 }) ∧
      t.panel = { s.panel with
        stopPressed := x.stopPressed, clearPressed := x.clearPressed, supervisorOn := x.supervisorOn,
        emergency := x.emergencyActive } ∧
      Only [.start, .elapsed, .hoses, .meters, .tags, .panel] s t)

/-- R172, R175: a good configuration record is loaded in CONFIG: the settings, the threshold, the line rate, the
scan list and, but after a RESET LINE start, the lead of each fitted hose; the meter unit of a hose not fitted
returns to its start values but for the levels on its lines (R29, R49; that it does so at this load is the
model's choice, notes/assumptions/13). The record is the one that `decodeConfig` reads: the bit places in a hose's
first byte and the code of its tank field are the model's (notes/assumptions/9 and 57). R175: a record that is not
good ends CONFIG in CONFIG FAULT with the reason of the first condition that fails, and reception then runs at the
record's rate, or at 9,600 where its byte gives none (R177); the operand `failed`, the model's form of a third failed
read (notes/assumptions/26), ends it with READ FAILED, at 9,600 (notes/assumptions/2). -/
def Obligations.ConfigIsJudged : Prop :=
  (∀ (outside : List Host.Cell) (s : State) (m : List Host.Cell) (c : ConfigRecord),
    s.start.stage = .config → s.start.recordGood = false → cellsInMemory outside = true →
    m = memSetCells s.mem outside → configFault (memReadBytes m 0 256) = none →
    c = decodeConfig (memReadBytes m 0 256) →
    ∃ t, exec (.configAreaRead outside false) s = .next t ∧
      t.cfg = c ∧ t.mem = m ∧
      t.start = { s.start with recordGood := true, threshold := c.threshold } ∧
      t.line = { s.line with rate := c.lineRate } ∧
      (∀ h, t.hose h = { s.hose h with
        lead := if (c.hoses.get h).present = true ∧ s.start.cause ≠ .resetLine then (c.hoses.get h).lead
          else (s.hose h).lead }) ∧
      (∀ h, t.meter h = if (c.hoses.get h).present then s.meter h
        else { Meter.reset with levelA := (s.meter h).levelA, levelB := (s.meter h).levelB }) ∧
      t.scan = { s.scan with
        list := c.scan, samples := c.scan.map fun e => ⟨e.purpose, none, none, false, none⟩ } ∧
      Only [.cfg, .mem, .start, .line, .hoses, .meters, .scan] s t) ∧
  (∀ (outside : List Host.Cell) (s : State) (m : List Host.Cell) (r : ConfigFaultReason),
    s.start.stage = .config → s.start.recordGood = false → cellsInMemory outside = true →
    m = memSetCells s.mem outside →
    (∃ t, exec (.configAreaRead outside true) s = .next t ∧
      t.start = { s.start with stage := .configFault, fault := some .readFailed } ∧ t.mem = s.mem ∧
      t.line = { s.line with rate := 9600 } ∧ Only [.start, .line] s t) ∧
    (configFault (memReadBytes m 0 256) = some r →
      ∃ t, exec (.configAreaRead outside false) s = .next t ∧
        t.start = { s.start with stage := .configFault, fault := some r } ∧ t.mem = m ∧
        t.line = { s.line with rate := match (memRead m 1).toNat with
          | 0 => 9600
          | 1 => 19200
          | 2 => 38400
          | 3 => 57600
          | _ => 9600 } ∧
        Only [.start, .line, .mem] s t))

/-- R176: the plan area is loaded class by class, the empty class where a read failed (the operand `failed` is
the model's form of the eight reads, notes/assumptions/26); with a good configuration record JOURNAL SCAN
follows and the scan timer runs (R170). That the load is taken under CONFIG FAULT too, after that stage has
been entered, and then leaves the stage, is the model's reading of an order R176 does not give
(notes/assumptions/32). -/
def Obligations.PlanAreaIsLoaded : Prop :=
  ∀ (outside : List Host.Cell) (failed : BitVec 8) (s : State) (m : List Host.Cell),
    cellsInMemory outside = true → m = memSetCells s.mem outside →
    (s.start.stage = .configFault ∨ (s.start.stage = .config ∧ s.start.recordGood = true)) →
    ∃ t, exec (.planAreaLoad outside failed) s = .next t ∧ t.mem = m ∧
      (∀ k, k < 8 → t.classRecord k =
        if failed.getLsbD k then ClassRecord.empty else decodePlan (memReadBytes m (256 + 64 * k) 64)) ∧
      t.classes.records.length = 8 ∧ t.classes.heldPlans = s.classes.heldPlans ∧
      (s.start.stage = .configFault → Only [.mem, .classes] s t) ∧
      (s.start.stage = .config →
        t.start = { s.start with stage := .journalScan } ∧ t.scan.timer = some (s.elapsed + 1000) ∧
        Only [.mem, .classes, .start, .scan, .hoses] s t)

/-- R178, R179: with a good header, and no record of its epoch with the sequence 16,777,215 in the ring or in an
open slot (else the epoch advances, see GoodJournalIsTakenUp), JOURNAL SCAN ends in LISTEN, which lasts 30 s; site time is placed, never
earlier than the value held, UNCONFIRMED, and runs (R137); the COUNTS timer starts where the port is enabled
(R188; that it stands elsewhere is the model's choice, notes/assumptions/42). R154: otherwise the journal is
formatted. With no readable header (its read failed or its check value wrong; that a failed read counts so is
the model's reading, notes/assumptions/14) and no ring slot that reads with a correct check value, the epoch
is drawn from 1..65,535 and the base serial is 1; else the epoch is the one after the header's, or after that
of the record in the slot of the greatest serial (of equals the lower position, notes/assumptions/38), the
base serial the one after that serial, and the ring FREE from the position after it. Both open slots are to
be written CLEAR and then the header (R150, R153): the writes are queued, and the stage waits for them with
the greatest record time found and totalizers of 0, the ring then holding no record (R26, R154, R156;
notes/assumptions/14). -/
def Obligations.JournalScanRuns : Prop :=
  ∀ (outside : List Host.Cell) (failed : ScanFailures) (s : State) (m : List Host.Cell),
    s.start.stage = .journalScan → s.start.scanEnd = none → cellsInMemory outside = true →
    m = memSetCells s.mem outside →
    (∀ hd, failed.header = false → decodeHeader (memReadBytes m 768 14) = some hd → 1 ≤ hd.epoch →
      hd.epoch ≤ 65535 → hd.slotCount = s.cfg.nj →
      (∀ q y, q < s.cfg.nj → q ∉ failed.ring → decodeSlot (memReadBytes m (1280 + 128 * q) 128) = some y →
        y.epoch = hd.epoch → y.seq ≠ 16777215) →
      (∀ h r, failed.openSlot.get h = false → (decodeOpen (memReadBytes m (openAddress h) 128) = .opened r ∨
        decodeOpen (memReadBytes m (openAddress h) 128) = .final r) → r.epoch = hd.epoch → r.seq ≠ 16777215) →
      ∃ t, exec (.journalScan outside failed) s = .next t ∧ t.mem = m ∧
        t.start = { s.start with stage := .listen, listenTimer := some (s.elapsed + 30000) } ∧
        s.line.siteTime ≤ t.line.siteTime ∧ t.line.confirmed = false ∧ t.line.running = true ∧
        t.notice = { s.notice with
          countsTimer := if s.cfg.noticeEnable then some (s.elapsed + 10000) else s.notice.countsTimer } ∧
        Only [.mem, .journal, .line, .hoses, .start, .notice, .classes] s t) ∧
    ((failed.header = true ∨ decodeHeader (memReadBytes m 768 14) = none) →
      (∀ p < s.cfg.nj, p ∈ failed.ring ∨ decodeSlot (memReadBytes m (1280 + 128 * p) 128) = none) →
      ∃ t epoch, exec (.journalScan outside failed) s = .next t ∧ t.mem = m ∧ 1 ≤ epoch ∧ epoch ≤ 65535 ∧
        t.journal = { Journal.reset with
          header := ⟨epoch, s.cfg.nj, 1, 1⟩, tail := 0, sent := 0, unsent := 0, nextToLoad := 0, nextSeq := 1,
          nextSerial := 1, claims := 0, inService := some (.clearSlot .one), opTimer := some (s.elapsed + 100),
          queue := [.clearSlot .two, .header none] } ∧
        t.start = { s.start with scanEnd := some ⟨0, ⟨0, 0⟩⟩ } ∧ Only [.mem, .journal, .start, .draws] s t) ∧
    (∀ (old p : Nat) (x : RingSlot),
      (∀ hd, failed.header = false → decodeHeader (memReadBytes m 768 14) = some hd →
        (hd.epoch = 0 ∨ hd.slotCount ≠ s.cfg.nj) ∧ old = hd.epoch) →
      ((failed.header = true ∨ decodeHeader (memReadBytes m 768 14) = none) → old = x.epoch) →
      p < s.cfg.nj → p ∉ failed.ring → decodeSlot (memReadBytes m (1280 + 128 * p) 128) = some x →
      (∀ q y, q < s.cfg.nj → q ∉ failed.ring → decodeSlot (memReadBytes m (1280 + 128 * q) 128) = some y →
        y.serial ≤ x.serial ∧ (y.serial = x.serial → p ≤ q)) →
      ∃ t time, exec (.journalScan outside failed) s = .next t ∧ t.mem = m ∧
        t.journal = { Journal.reset with
          header := ⟨if old = 65535 then 1 else old + 1, s.cfg.nj, x.serial + 1, x.serial + 1⟩,
          tail := (p + 1) % s.cfg.nj, sent := 0, unsent := 0, nextToLoad := (p + 1) % s.cfg.nj, nextSeq := 1,
          nextSerial := x.serial + 1, claims := 0, inService := some (.clearSlot .one),
          opTimer := some (s.elapsed + 100), queue := [.clearSlot .two, .header none] } ∧
        t.start = { s.start with scanEnd := some ⟨time, ⟨0, 0⟩⟩ } ∧
        (∀ q y, q < s.cfg.nj → q ∉ failed.ring → decodeSlot (memReadBytes m (1280 + 128 * q) 128) = some y →
          y.time ≤ time) ∧
        (∃ q y, q < s.cfg.nj ∧ q ∉ failed.ring ∧ decodeSlot (memReadBytes m (1280 + 128 * q) 128) = some y ∧
          y.time = time) ∧
        Only [.mem, .journal, .start] s t)

/-- R26, R155, R156, R157, R158: what a good header's scan takes up. A run of `n` valid slots back from the
newest, serials falling by 1, and with it tail, sizes, send mark, next serial, next sequence, site time and
totalizers, each open slot CLEAR (or failing its check), or its record found in the run and then to be
written CLEAR. R144, R156: where the largest sequence of the header's epoch is 16,777,215 the epoch advances, the
header write is in service, and the stage waits for it (R178) with the site time and totalizers that its end
puts in place (that it waits for this write and not for the CLEAR writes is the model's reading,
notes/assumptions/14). With no valid slot the ring is empty at position 0, and its next serial is the base serial
(the model's reading, notes/assumptions/15); an OPEN or FINAL image is then recovered: a claim, a slot for
its record in recovered form, the image kept. Of equal serials the lower position counts as the newest
(notes/assumptions/38); the image of a hose's slot is read as that hose's (notes/assumptions/27). -/
def Obligations.GoodJournalIsTakenUp : Prop :=
  ∀ (outside : List Host.Cell) (failed : ScanFailures) (s : State) (m : List Host.Cell) (hd : Header),
    s.start.stage = .journalScan → s.start.scanEnd = none → cellsInMemory outside = true →
    m = memSetCells s.mem outside → failed.header = false → decodeHeader (memReadBytes m 768 14) = some hd →
    1 ≤ hd.epoch → hd.slotCount = s.cfg.nj →
    (∀ (n p newest largest time : Nat) (x : Nat → RingSlot) (found : Side → Option OpenImage),
      FoundRun m failed.ring s.cfg.nj hd.baseSerial n p newest x →
      (∀ h, (found h = none ∧ (failed.openSlot.get h = true ∨ decodeOpen (memReadBytes m (openAddress h) 128) = .clear)) ∨
        (∃ i r, failed.openSlot.get h = false ∧ decodeOpen (memReadBytes m (openAddress h) 128) = i ∧
          (i = .opened r ∨ i = .final r) ∧ (∃ k < n, (x k).epoch = r.epoch ∧ (x k).seq = r.seq) ∧
          found h = some (if i = .opened r then .opened { r with hose := h } else .final { r with hose := h }) ∧
          r.stop ≤ time)) →
      (∀ k < n, (x k).epoch = hd.epoch → (x k).seq ≤ largest) →
      (largest = 0 ∨ ∃ k < n, (x k).epoch = hd.epoch ∧ (x k).seq = largest) → largest ≤ 16777215 →
      (∀ k < n, (x k).time ≤ time) → ((∃ k < n, (x k).time = time) ∨
        ∃ h r, (found h = some (.opened r) ∨ found h = some (.final r)) ∧ r.stop = time) →
      ∃ (t : State) (totals : Pair Nat), exec (.journalScan outside failed) s = .next t ∧
        (largest < 16777215 → t.journal.header = hd ∧ t.journal.nextSeq = largest + 1 ∧
          t.start.stage = .listen ∧ t.line.siteTime = max time s.line.siteTime ∧
          ∀ h, (t.hose h).totalizer = totals.get h) ∧
        (largest = 16777215 →
          t.journal.header = { hd with epoch := if hd.epoch = 65535 then 1 else hd.epoch + 1 } ∧
          t.journal.nextSeq = 1 ∧ t.journal.inService = some (.header (some t.journal.header)) ∧
          t.start = { s.start with scanEnd := some ⟨time, totals⟩ } ∧ Only [.mem, .journal, .start] s t) ∧
        t.journal.tail = (p + s.cfg.nj + 1 - n) % s.cfg.nj ∧
        t.journal.sent + t.journal.unsent = n ∧
        (hd.savedMark + n ≤ newest + 1 → t.journal.sent = 0) ∧ (newest < hd.savedMark → t.journal.sent = n) ∧
        (newest + 1 ≤ hd.savedMark + n → hd.savedMark ≤ newest →
          newest + 1 + t.journal.sent = hd.savedMark + n) ∧
        t.journal.nextSerial = newest + 1 ∧ t.journal.loadHold = none ∧ t.journal.sentSinceSave = 0 ∧
        t.journal.nextToLoad = (t.journal.tail + t.journal.sent) % s.cfg.nj ∧
        t.journal.claims = 0 ∧ t.journal.pendingRecoveries = [] ∧
        (∀ h, t.journal.openImages.get h = (found h).getD .clear) ∧
        (∀ h, found h ≠ none → .clearSlot h ∈ t.journal.operations) ∧
        (∀ h k, k < n → (x k).kind = 1 → (decodeIssue (x k).epoch (x k).seq (x k).content).hose = h →
          (∀ j < k, (x j).kind = 1 → (decodeIssue (x j).epoch (x j).seq (x j).content).hose ≠ h) →
          totals.get h = (decodeIssue (x k).epoch (x k).seq (x k).content).totalizer) ∧
        (∀ h, (∀ k < n, (x k).kind = 1 → (decodeIssue (x k).epoch (x k).seq (x k).content).hose ≠ h) →
          totals.get h = 0)) ∧
    ((∀ q y, q < s.cfg.nj → q ∉ failed.ring → decodeSlot (memReadBytes m (1280 + 128 * q) 128) = some y →
        y.serial < hd.baseSerial) →
      ((∀ h, failed.openSlot.get h = true ∨ decodeOpen (memReadBytes m (openAddress h) 128) = .clear) →
        ∃ t, exec (.journalScan outside failed) s = .next t ∧
          t.journal = { Journal.reset with header := hd, nextSerial := hd.baseSerial, nextSeq := 1 } ∧
          (∀ h, t.hose h = { s.hose h with totalizer := 0 }) ∧ t.line.siteTime = s.line.siteTime) ∧
      (∀ h i r rec, failed.openSlot.get h = false → decodeOpen (memReadBytes m (openAddress h) 128) = i →
        (failed.openSlot.get h.other = true ∨
          decodeOpen (memReadBytes m (openAddress h.other) 128) = .clear) →
        ((i = .opened r ∧ rec = { r with
            hose := h, form := .recoveredLower, endReason := none, snapshot := none,
            flags := { r.flags with recovered := true } }) ∨
          (i = .final r ∧ rec = { r with
            hose := h, form := .recoveredFinal,
            flags := { r.flags with tagNotUpdated := false, tagUpdateUnknown := true } })) →
        hd.baseSerial ≤ 4294967295 → 0 < s.cfg.nj →
        (r.epoch ≠ hd.epoch ∨ r.seq < 16777215 → ∃ t, exec (.journalScan outside failed) s = .next t ∧
          t.journal = { Journal.reset with
            header := hd, unsent := 1, nextSerial := hd.baseSerial + 1,
            nextSeq := if r.epoch = hd.epoch then r.seq + 1 else 1, claims := 1,
            openImages := Pair.set ⟨.clear, .clear⟩ h
              (if i = .opened r then .opened { r with hose := h } else .final { r with hose := h }),
            inService := some (.append .scan 0 hd.baseSerial (.issue rec)),
            opTimer := some (s.elapsed + 100) } ∧
          (t.hose h).totalizer = rec.totalizer ∧ (t.hose h.other).totalizer = 0 ∧
          t.line.siteTime = max r.stop s.line.siteTime) ∧
        (r.epoch = hd.epoch → r.seq = 16777215 →
          ∃ t hd', exec (.journalScan outside failed) s = .next t ∧
          hd' = { hd with epoch := if hd.epoch = 65535 then 1 else hd.epoch + 1 } ∧
          t.journal = { Journal.reset with
            header := hd', unsent := 1, nextSerial := hd.baseSerial + 1, nextSeq := 1, claims := 1,
            openImages := Pair.set ⟨.clear, .clear⟩ h
              (if i = .opened r then .opened { r with hose := h } else .final { r with hose := h }),
            inService := some (.header (some hd')), opTimer := some (s.elapsed + 100),
            queue := [.append .scan 0 hd.baseSerial (.issue rec)] } ∧
          t.start = { s.start with scanEnd := some ⟨r.stop, Pair.set ⟨0, 0⟩ h rec.totalizer⟩ } ∧
          Only [.mem, .journal, .start] s t)))

/-- R7, R180: LISTEN ends in RUN; each fitted hose goes to IDLE where HUNG and to UNARMED where LIFTED, one not
fitted stays in START; the sender is released, and its first frame is a beacon (R130, R125). -/
def Obligations.ListenEndsInRun : Prop :=
  ∀ s : State, s.start.stage = .listen → s.start.listenTimer.isSome = true →
    ∃ t, exec .listenEnd s = .next t ∧
      t.start = { s.start with stage := .run, listenTimer := none } ∧
      (∀ h, t.hose h = if (s.hoseCfg h).present then
        { s.hose h with state := match (s.hose h).hook with
          | .hung => .idle
          | .lifted => .unarmed }
        else s.hose h) ∧
      t.line.held = false ∧ t.line.beaconDue = true ∧
      (s.line.sender = .idle → t.line.sender = .defer ∧ t.line.current = some .beacon ∧
        t.line.attempts = 0 ∧ t.line.k = none) ∧
      Only [.start, .hoses, .line] s t

/-- R177: the read-only pass of CONFIG FAULT places site time at the greatest record time found, or the value
held where that is later, UNCONFIRMED. -/
def Obligations.ReadOnlyPassPlacesSiteTime : Prop :=
  ∀ (outside : List Host.Cell) (failed : List Nat) (s : State), s.start.stage = .configFault →
    s.line.running = false → cellsInMemory outside = true →
    ∃ t, exec (.readOnlyPassEnd outside failed) s = .next t ∧
      t.mem = memSetCells s.mem outside ∧
      t.line = { s.line with
        siteTime := max (t.greatestTime failed 32768) s.line.siteTime, confirmed := false, running := true } ∧
      Only [.mem, .line] s t

/-- 12.5: the memory reads of a start stop with a fault where their operand names a cell outside the address
space of the journal memory (the model's own form of operand, notes/assumptions/10). -/
def Obligations.OutsideCellsMustExist : Prop :=
  ∀ (outside : List Host.Cell) (s : State), cellsInMemory outside = false →
    (s.start.stage = .config → s.start.recordGood = false →
      exec (.configAreaRead outside false) s = .fault .noSuchAddress) ∧
    (∀ failed, s.start.stage = .configFault → exec (.planAreaLoad outside failed) s = .fault .noSuchAddress) ∧
    (∀ failed, s.start.stage = .journalScan → exec (.journalScan outside failed) s = .fault .noSuchAddress) ∧
    (∀ failed, s.start.stage = .configFault → s.line.running = false →
      exec (.readOnlyPassEnd outside failed) s = .fault .noSuchAddress) ∧
    (∀ pos, s.journal.inService = some (.sendRead pos) →
      exec (.sendReadComplete outside) s = .fault .noSuchAddress)

/-! ### Hoses and the delivery cycle -/

/-- R6, R8: a lift taken in IDLE on a fitted hose starts a cycle: IDENTIFYING with the lift-wait timer, the
reason shown and the service state shown cleared (R114); a READ IDENTITY is begun at once where the tag unit
is READY with nothing ahead of it, waits behind a write where one is ahead, or else waits (R52, R53). That the
bound serial and the blocks held are cleared at the lift is the model's reading of R8 and R51
(notes/assumptions/32). -/
def Obligations.LiftInIdleStartsCycle : Prop :=
  ∀ (h : Side) (s : State), s.unfitted h = false → (s.hose h).state = .idle →
    ∃ t, exec (.lift h) s = .next t ∧
      t.hose h = { s.hose h with
        hook := .lifted, state := .identifying, reason := none, serviceShown := none,
        liftWait := some (s.elapsed + (s.hoseCfg h).liftWait * 1000) } ∧
      (t.tag h).bound = none ∧ (t.tag h).identity = none ∧ (t.tag h).hours = none ∧ (t.tag h).carry = none ∧
      ((s.tag h).state = .ready → (s.tag h).quiet = none → (s.tag h).waitingWriteBack = none →
        (s.tag h).waitingProgress = none →
        (t.tag h).state = .inFlight ∧ (t.tag h).waitingRead = none ∧ (t.tag h).window = some (s.elapsed + 60) ∧
        (t.tag h).current = some ⟨.read .identity, (s.tag h).nextNumber, 1, false⟩ ∧
        (t.tag h).nextNumber = (s.tag h).nextNumber + 1) ∧
      (∀ w, (s.tag h).state = .ready → (s.tag h).quiet = none →
        ((s.tag h).waitingWriteBack = some w ∨
          ((s.tag h).waitingWriteBack = none ∧ (s.tag h).waitingProgress = some w)) →
        (t.tag h).state = .inFlight ∧ (t.tag h).waitingRead = some .identity ∧
        (t.tag h).window = some (s.elapsed + 250) ∧ (t.tag h).waitingWriteBack = none ∧
        (t.tag h).current = some ⟨if (s.tag h).waitingWriteBack.isSome then .writeBack w else .progress w,
          (s.tag h).nextNumber, 1, false⟩) ∧
      ((s.tag h).state ≠ .ready ∨ (s.tag h).quiet ≠ none →
        (t.tag h).waitingRead = some .identity ∧ (t.tag h).state = (s.tag h).state ∧
        (t.tag h).current = (s.tag h).current) ∧
      OtherHoseKept h s t ∧ Only [.hoses, .tags] s t

/-- R4, R6: what a lift and a hang do where they neither start a cycle nor end a delivery nor touch a tag
exchange: the hook position is recorded; a hang takes UNARMED and REFUSED to IDLE and marks the tag absent
in CLOSING. A hose that is not fitted takes neither. R9, R54: IDENTIFYING is left by a hang to IDLE with no
reason shown anew, and by the lift-wait timer to REFUSED with TAG UNREADABLE; the reads are abandoned: the
waiting read, the bound serial and the blocks are gone, and an exchange in flight is ABANDONED. -/
def Obligations.HookOutsideDelivery : Prop :=
  (∀ (h : Side) (s : State),
    (s.unfitted h = true → exec (.lift h) s = .next s ∧ exec (.hang h) s = .next s) ∧
    (s.unfitted h = false → (s.hose h).state ≠ .idle → ∃ t, exec (.lift h) s = .next t ∧
      t.hose h = { s.hose h with hook := .lifted } ∧ OtherHoseKept h s t ∧ Only [.hoses] s t) ∧
    (s.unfitted h = false →
      ((s.hose h).state = .start ∨ (s.hose h).state = .idle ∨ (s.hose h).state = .recording ∨
        (s.hose h).state = .unarmed ∨ (s.hose h).state = .refused ∨ (s.hose h).state = .closing) →
      ∃ t, exec (.hang h) s = .next t ∧
        t.hose h = { s.hose h with
          hook := .hung,
          state := if (s.hose h).state = .unarmed ∨ (s.hose h).state = .refused then .idle else (s.hose h).state,
          tagAbsent := if (s.hose h).state = .closing then true else (s.hose h).tagAbsent } ∧
        OtherHoseKept h s t ∧ Only [.hoses] s t)) ∧
  (∀ (h : Side) (s : State), (s.hose h).state = .identifying →
    (s.unfitted h = false → ∃ t, exec (.hang h) s = .next t ∧
      t.hose h = { s.hose h with
        hook := .hung, state := .idle, liftWait := none, pinned := none, standIn := none } ∧
      t.tag h = { s.tag h with
        bound := none, identity := none, hours := none, carry := none, waitingRead := none,
        state := if (s.tag h).state = .inFlight then .abandoned else (s.tag h).state } ∧
      OtherHoseKept h s t ∧ Only [.hoses, .tags] s t) ∧
    ((s.hose h).liftWait.isSome = true → ∃ t, exec (.liftWaitExpiry h) s = .next t ∧
      t.hose h = { s.hose h with
        state := .refused, reason := some (.refusal .tagUnreadable), liftWait := none, pinned := none,
        standIn := none } ∧
      t.tag h = { s.tag h with
        bound := none, identity := none, hours := none, carry := none, waitingRead := none,
        state := if (s.tag h).state = .inFlight then .abandoned else (s.tag h).state } ∧
      OtherHoseKept h s t ∧ Only [.hoses, .tags, .notice] s t))

/-- R16, R17, R18, R58, R61: a cause of R17 taken in AUTHORISED, FLOWING or SLOWING with gross above 0 or a
journal step taken ends the delivery: CLOSING with the settle timer, the end reason and end time fixed, the
timers and polling stopped, the valves closed and the pump stopped, the reservation and the claim kept, the
tag absent mark as R16 gives, the waiting progress write discarded. R18, R96: a cause of R17 taken with
gross 0 and no journal step drops the delivery: no record, the reservation and the claim released, the
origin sequence not given back; the hose goes to IDLE or UNARMED by its hook. -/
def Obligations.LiveDeliveryEnds : Prop :=
  (∀ (h : Side) (s : State) (c : Instr) (r : EndReason) (d : Delivery),
    EndCause s h r c → (s.hose h).state.open = true → (s.hose h).delivery = some d →
    (0 < (s.meter h).gross ∨ 1 ≤ d.steps) →
    ∃ t, exec c s = .next t ∧
      t.hose h = { s.hose h with
        hook := if r = .nozzleHung then .hung else (s.hose h).hook,
        state := .closing, stage := .closed, pump := false,
        delivery := some { d with endReason := some r, endTime := some s.line.siteTime },
        reason := some (.ended r), noFlow := none, stall := none, tagLoss := none,
        settle := some (s.elapsed + 3000),
        tagAbsent := (s.hose h).tagAbsent || !(s.tag h).lastAnswered || decide (r = .tagLost) ||
          decide (r = .nozzleHung) } ∧
      (t.tag h).polling = false ∧ (t.tag h).pollTimer = none ∧ (t.tag h).pollDue = false ∧
      (t.tag h).waitingProgress = none ∧
      OtherHoseKept h s t ∧ Only [.hoses, .tags, .notice, .panel] s t) ∧
  (∀ (h : Side) (s : State) (c : Instr) (r : EndReason) (d : Delivery),
    EndCause s h r c → (s.hose h).state.open = true → (s.hose h).delivery = some d →
    (s.meter h).gross = 0 → d.steps = 0 →
    ∃ t, exec c s = .next t ∧
      t.hose h = { s.hose h with
        hook := if r = .nozzleHung then .hung else (s.hose h).hook,
        state := if r = .nozzleHung ∨ (s.hose h).hook = .hung then .idle else .unarmed,
        stage := .closed, pump := false, delivery := none, standIn := none, reason := some (.ended r),
        noFlow := none, stall := none, tagLoss := none,
        tagAbsent := (s.hose h).tagAbsent || !(s.tag h).lastAnswered || decide (r = .tagLost) ||
          decide (r = .nozzleHung) } ∧
      t.reservation h = none ∧ t.journal = { s.journal with claims := s.journal.claims - 1 } ∧
      (t.tag h).polling = false ∧ (t.tag h).waitingProgress = none ∧
      OtherHoseKept h s t ∧ Only [.hoses, .tags, .reservations, .journal, .notice, .panel] s t)

/-- R5, R25: the emergency stop line becoming active forces every valve and pump off and ends the live delivery
of each hose; the line becoming inactive resumes none. -/
def Obligations.EmergencyStopEndsDeliveries : Prop :=
  ∀ s : State, (∀ h, (s.hose h).state.open = true → (s.hose h).delivery.isSome = true) →
    (∃ t, exec .emergencyStopActive s = .next t ∧
      t.panel = { s.panel with emergency := true } ∧
      (∀ h, t.outputs h = ⟨false, false, false⟩) ∧
      (∀ h, (t.hose h).state.open = false) ∧
      (∀ h, (s.hose h).state.open = false → t.hose h = s.hose h) ∧
      (∀ h, (s.hose h).state.open = true → (t.hose h).reason = some (.ended .emergencyStop) ∧
        (t.hose h).stage = .closed ∧ (t.hose h).pump = false) ∧
      Only [.panel, .hoses, .tags, .reservations, .journal, .notice] s t) ∧
    (∃ t, exec .emergencyStopInactive s = .next t ∧ t.panel = { s.panel with emergency := false } ∧
      Only [.panel] s t)

/-- R20, R23, R26, R45 to R47, R96: the settle window's end: the FINAL image holds the final gross, net and mean
temperature, an overrun above the limit makes the pending fault VALVE OVERRUN unless METER FAULT is pending,
the reservation is released, the totalizer takes the final gross, the lead is adapted, the meter unit is
cleared, and the hose goes to FAULT with a pending fault, else to RECORDING where the tag is absent, else to
WRITEBACK. -/
def Obligations.SettleWindowEnds : Prop :=
  ∀ (h : Side) (s : State) (d : Delivery) (net : Nat) (fault : Option FaultCause),
    (s.hose h).state = .closing → (s.hose h).settle.isSome = true → (s.hose h).delivery = some d →
    net = s.netNow h →
    fault = (if d.pendingFault = some .meterFault then some .meterFault
      else if ((s.hoseCfg h).overrun : Int) < (net : Int) - d.target then some .valveOverrun else d.pendingFault) →
    ∃ t, exec (.settleExpiry h) s = .next t ∧
      (t.hose h).state = (if fault.isSome then .fault else if (s.hose h).tagAbsent then .recording else .writeback) ∧
      (∀ c, fault = some c → (t.hose h).faultCause = some c ∧ (t.hose h).reason = some (.faulted c)) ∧
      (fault = none → (t.hose h).faultCause = (s.hose h).faultCause ∧ (t.hose h).reason = (s.hose h).reason) ∧
      (t.hose h).settle = none ∧ (t.hose h).stage = (s.hose h).stage ∧ (t.hose h).pump = (s.hose h).pump ∧
      (t.hose h).totalizer = ((s.hose h).totalizer + (s.meter h).gross) % 100000000000 ∧
      (t.hose h).lead = (if d.endReason = some .targetReached ∧ d.watch = .intact then
        adaptLead (s.hose h).lead ((net : Int) - d.target) else (s.hose h).lead) ∧
      t.reservation h = none ∧
      t.meter h = { s.meter h with
        pulses := 0, gross := 0, weighted := 0, faultCount := 0, faultReported := false, uncompensated := false,
        lastNet := 0, lastGross := 0 } ∧
      (∃ d' img, (t.hose h).delivery = some d' ∧ d'.finalImage = some img ∧ d'.pendingFault = fault ∧
        d'.endReason = d.endReason ∧ d'.target = d.target ∧ img.gross = (s.meter h).gross ∧ img.net = net ∧
        img.temperature = s.meanNow h ∧ img.endReason = d.endReason ∧ img.target = d.target ∧
        img.totalizer = ((s.hose h).totalizer + (s.meter h).gross) % 100000000000) ∧
      t.hose h.other = s.hose h.other ∧ t.meter h.other = s.meter h.other ∧ t.tag h.other = s.tag h.other ∧
      t.reservation h.other = s.reservation h.other ∧ t.mem = s.mem

/-- R24, R26: a CLEAR press in RUN with the supervisor key on clears each hose in FAULT without a delivery
record: the stray gross joins the totalizer, the meter unit is cleared, the fault cause is absent, the
reason shown stays, and the hose goes to IDLE or UNARMED by its hook; a hose in another state keeps its
state, and the scan unit is left alone while it is not FAILED. R164: a scan unit in FAILED takes such a press
from the end of CONFIG on: the count of timeouts is 0 and a scan starts at once (R161). R183: each change of a
key or of the supervisor key is recorded from the end of HOLD; a release, a press already held, a CLEAR press
with the supervisor key off, and a STOP press at a hose outside AUTHORISED, FLOWING and SLOWING (R25) do
nothing more. -/
def Obligations.KeysAct : Prop :=
  (∀ (s : State), s.start.stage = .run → s.panel.supervisorOn = true → s.panel.clearPressed = false →
    s.scan.state ≠ .failed →
    ∃ t, exec (.clearKey true) s = .next t ∧
      t.panel = { s.panel with clearPressed := true } ∧
      (∀ h, (s.hose h).state = .fault → (s.hose h).delivery = none →
        t.hose h = { s.hose h with
          state := if (s.hose h).hook = .hung then .idle else .unarmed, faultCause := none,
          totalizer := ((s.hose h).totalizer + (s.meter h).gross) % 100000000000 } ∧
        (t.meter h).gross = 0 ∧ (t.meter h).pulses = 0 ∧ (t.meter h).faultCount = 0 ∧
        (t.meter h).faultTotal = (s.meter h).faultTotal) ∧
      (∀ h, ((s.hose h).state ≠ .fault ∨ (s.hose h).delivery ≠ none) →
        t.hose h = s.hose h ∧ t.meter h = s.meter h) ∧
      Only [.panel, .hoses, .meters, .notice] s t) ∧
  (∀ (h : Side) (s : State), s.start.stage ≠ .hold →
    (∀ on, ∃ t, exec (.supervisorKeyChange on) s = .next t ∧ t.panel = { s.panel with supervisorOn := on } ∧
      Only [.panel] s t) ∧
    (∃ t, exec (.clearKey false) s = .next t ∧ t.panel = { s.panel with clearPressed := false } ∧
      Only [.panel] s t) ∧
    ((s.panel.supervisorOn = false ∨ s.panel.clearPressed = true) →
      ∃ t, exec (.clearKey true) s = .next t ∧ t.panel = { s.panel with clearPressed := true } ∧
        Only [.panel] s t) ∧
    (∀ pressed, (pressed = false ∨ s.panel.stopPressed.get h = true ∨ (s.hose h).state.open = false) →
      ∃ t, exec (.stopKey h pressed) s = .next t ∧
        t.panel = { s.panel with stopPressed := s.panel.stopPressed.set h pressed } ∧ Only [.panel] s t)) ∧
  (∀ (s : State), (s.start.stage = .journalScan ∨ s.start.stage = .listen ∨ s.start.stage = .run) →
    s.panel.supervisorOn = true → s.panel.clearPressed = false → s.scan.state = .failed →
    (∀ h, (s.hose h).state ≠ .fault ∧ (s.hose h).state.open = false) →
    ∃ t, exec (.clearKey true) s = .next t ∧ t.panel = { s.panel with clearPressed := true } ∧
      (∀ e rest, s.scan.list = e :: rest → t.scan = { s.scan with
        timeouts := 0, timer := some (s.elapsed + 1000), timedOut := false, state := .running, current := some 0,
        sentNumber := s.scan.nextNumber, nextNumber := s.scan.nextNumber + 1,
        window := some (s.elapsed + s.cfg.responseWindow) }) ∧
      (s.scan.list = [] → t.scan = { s.scan with
        timeouts := 0, timer := some (s.elapsed + 1000), timedOut := false, state := .waiting, current := none,
        window := none }) ∧
      Only [.panel, .scan] s t)

/-! ### The meter unit -/

/-- R30 to R32: an edge taken while no configuration record is good (CONFIG or CONFIG FAULT, R177): the new
level and the last edge channel are recorded; a first edge is a reference; an edge on the channel of the
last one, and a reverse step at P = 0, are pulse faults; a forward step adds 1 to P and a reverse step takes
1 away; G is not formed (the model's choice, notes/assumptions/13). R31, R17, R19: under a good record a
fault count above the limit is reported once: METER FAULT ends a delivery in AUTHORISED, FLOWING or SLOWING,
in CLOSING, or in FAULT with no record where nothing has passed (R18), and is the pending fault in CLOSING.
R23: stray gross above the overrun limit in UNARMED, IDLE, IDENTIFYING, REFUSED, WRITEBACK or RECORDING is
VALVE LEAK: the totalizer takes it, the meter unit is cleared, the hose is in FAULT with its record kept; an
identification is abandoned (R54). -/
def Obligations.EdgeIsCounted : Prop :=
  (∀ (h : Side) (ch : Channel) (level : Bool) (s : State) (a b forward : Bool) (m m' : Meter),
    s.start.stage ≠ .hold → s.start.recordGood = false → m = s.meter h →
    a = (if ch = .a then level else m.levelA) → b = (if ch = .b then level else m.levelB) →
    forward = (if ch = .a then a != b else a == b) →
    m' = { m with levelA := a, levelB := b, lastEdge := some ch } →
    ∃ t, exec (.channelEdge h ch level) s = .next t ∧
      (m.lastEdge = none → t.meter h = m') ∧
      (m.lastEdge = some ch → t.meter h = { m' with
        faultCount := min 65535 (m.faultCount + 1), faultTotal := min 65535 (m.faultTotal + 1) }) ∧
      ((∃ l, m.lastEdge = some l ∧ l ≠ ch) →
        (forward = true → t.meter h = { m' with pulses := min 4294967295 (m.pulses + 1) }) ∧
        (forward = false → 0 < m.pulses → t.meter h = { m' with pulses := m.pulses - 1 }) ∧
        (forward = false → m.pulses = 0 → t.meter h = { m' with
          faultCount := min 65535 (m.faultCount + 1), faultTotal := min 65535 (m.faultTotal + 1) })) ∧
      t.meter h.other = s.meter h.other ∧ Only [.meters] s t) ∧
  (∀ (h : Side) (ch : Channel) (level : Bool) (s : State) (m : Meter),
    s.start.stage ≠ .hold → s.start.recordGood = true → (s.hoseCfg h).present = true →
    (s.meter h).lastEdge = some ch → (s.meter h).faultCount < 65535 →
    m = { s.meter h with
      levelA := if ch = .a then level else (s.meter h).levelA
      levelB := if ch = .a then (s.meter h).levelB else level
      faultCount := (s.meter h).faultCount + 1, faultTotal := min 65535 ((s.meter h).faultTotal + 1) } →
    ∃ t, exec (.channelEdge h ch level) s = .next t ∧ OtherHoseKept h s t ∧
      ((m.faultCount ≤ (s.hoseCfg h).faultLimit ∨ m.faultReported = true) →
        t.meter h = m ∧ Only [.meters] s t) ∧
      ((s.hoseCfg h).faultLimit < m.faultCount → m.faultReported = false →
        t.meter h = { m with faultReported := true } ∧
        (∀ d, (s.hose h).state.open = true → (s.hose h).delivery = some d →
          (0 < (s.meter h).gross ∨ 1 ≤ d.steps) → t.hose h = { s.hose h with
            state := .closing, stage := .closed, pump := false,
            delivery := some { d with endReason := some .meterFault, endTime := some s.line.siteTime },
            reason := some (.ended .meterFault), noFlow := none, stall := none, tagLoss := none,
            settle := some (s.elapsed + 3000),
            tagAbsent := (s.hose h).tagAbsent || !(s.tag h).lastAnswered } ∧
            Only [.meters, .hoses, .tags, .notice] s t) ∧
        (∀ d, (s.hose h).state.open = true → (s.hose h).delivery = some d → (s.meter h).gross = 0 →
          d.steps = 0 → t.hose h = { s.hose h with
            state := .fault, stage := .closed, pump := false, delivery := none, standIn := none,
            faultCause := some .meterFault, reason := some (.faulted .meterFault), noFlow := none,
            stall := none, tagLoss := none,
            tagAbsent := (s.hose h).tagAbsent || !(s.tag h).lastAnswered } ∧
            t.reservation h = none ∧ t.journal = { s.journal with claims := s.journal.claims - 1 } ∧
            Only [.meters, .hoses, .tags, .reservations, .journal, .notice] s t) ∧
        (∀ d, (s.hose h).state = .closing → (s.hose h).delivery = some d →
          t.hose h = { s.hose h with delivery := some { d with pendingFault := some .meterFault } } ∧
          Only [.meters, .hoses] s t) ∧
        ((s.hose h).state.live = false → t.hose h = s.hose h ∧ Only [.meters] s t))) ∧
  (∀ (h : Side) (ch : Channel) (level : Bool) (s : State) (g net : Nat), ForwardStep s h ch level g net →
    ((s.hose h).state = .unarmed ∨ (s.hose h).state = .idle ∨ (s.hose h).state = .identifying ∨
      (s.hose h).state = .refused ∨ (s.hose h).state = .writeback ∨ (s.hose h).state = .recording) →
    ∃ t, exec (.channelEdge h ch level) s = .next t ∧
      (g ≤ (s.hoseCfg h).overrun → t.meter h = s.meterAfterStep h ch level g net ∧
        t.meter h.other = s.meter h.other ∧ Only [.meters] s t) ∧
      ((s.hoseCfg h).overrun < g →
        t.meter h = { s.meterAfterStep h ch level g net with
          pulses := 0, gross := 0, weighted := 0, faultCount := 0, faultReported := false,
          uncompensated := false, lastNet := 0, lastGross := 0 } ∧
        ((s.hose h).state ≠ .identifying → t.hose h = { s.hose h with
          state := .fault, faultCause := some .valveLeak, reason := some (.faulted .valveLeak),
          totalizer := ((s.hose h).totalizer + g) % 100000000000 } ∧ t.tag h = s.tag h) ∧
        ((s.hose h).state = .identifying → t.hose h = { s.hose h with
          state := .fault, faultCause := some .valveLeak, reason := some (.faulted .valveLeak),
          totalizer := ((s.hose h).totalizer + g) % 100000000000, liftWait := none, pinned := none,
          standIn := none } ∧ t.tag h = { s.tag h with
            bound := none, identity := none, hours := none, carry := none, waitingRead := none,
            state := if (s.tag h).state = .inFlight then .abandoned else (s.tag h).state }) ∧
        OtherHoseKept h s t ∧ Only [.meters, .hoses, .tags, .notice] s t))

/-- R13, R33, R34, R36, R37, R40: the first increase of gross in AUTHORISED: a forward step that changes G =
floor(P · 1,000,000 / K_m), weighted at the temperature in force, starts the flow: FLOWING at the stage
FULL, the no-flow timer stopped and the stall timer started, where no journal step is due and neither
compare is met. R13, R14, R41: at the stage LOW it starts in SLOWING; a rise in FLOWING or SLOWING restarts
the stall timer, and the slow-down compare takes FLOWING to SLOWING at the stage LOW. R42, R17, R18: the lead
compare ends the delivery with TARGET REACHED. R15, R60, R74, R95, R149: a net that reaches the next journal
step sets the steps taken to those within it, requests the progress rewrite, absorbs the delivery as
PROVISIONAL into its entry, places the progress write, and raises the absorbed so far of the reservation. -/
def Obligations.FirstGrossStartsFlow : Prop :=
  (∀ (h : Side) (ch l : Channel) (level : Bool) (s : State) (d : Delivery) (m : Meter) (g net : Nat),
    s.start.stage = .run → s.start.recordGood = true → (s.hoseCfg h).present = true →
    (s.hose h).state = .authorised → (s.hose h).stage = .full → (s.hose h).delivery = some d →
    m = (s.meter h).record ch level → (s.meter h).lastEdge = some l → l ≠ ch →
    (if ch = .a then m.levelA ≠ m.levelB else m.levelA = m.levelB) → (s.meter h).pulses < 4294967295 →
    g = ((s.meter h).pulses + 1) * 1000000 / (s.hoseCfg h).km → (s.meter h).gross < g →
    net = netOf g (s.hoseCfg h).alpha
      (meanTemperature g ((s.meter h).weighted + ((g : Int) - (s.meter h).gross) * (s.temperature h).1)
        (s.temperature h).1) →
    net < (d.steps + 1) * (s.cfg.journalStep * 1000) →
    ((s.hose h).lead : Int) < (d.target : Int) - net → ((s.hoseCfg h).band : Int) * 1000 < (d.target : Int) - net →
    ∃ t, exec (.channelEdge h ch level) s = .next t ∧
      t.meter h = { m with
        pulses := (s.meter h).pulses + 1, gross := g,
        weighted := (s.meter h).weighted + ((g : Int) - (s.meter h).gross) * (s.temperature h).1,
        uncompensated := (s.meter h).uncompensated || (s.temperature h).2, lastNet := net, lastGross := g } ∧
      t.hose h = { s.hose h with
        state := .flowing, noFlow := none, stall := some (s.elapsed + (s.hoseCfg h).stall * 1000),
        delivery := some { d with flags := { d.flags with
          uncompensated := d.flags.uncompensated || (s.meter h).uncompensated || (s.temperature h).2 } } } ∧
      OtherHoseKept h s t ∧ Only [.meters, .hoses] s t) ∧
  (∀ (h : Side) (ch : Channel) (level : Bool) (s : State) (d d' : Delivery) (g net : Nat),
    ForwardStep s h ch level g net → (s.hose h).delivery = some d → d' = s.deliveryAfterStep h d →
    (s.hose h).state.open = true →
    (net < (d.steps + 1) * (s.cfg.journalStep * 1000) →
      ∃ t, exec (.channelEdge h ch level) s = .next t ∧ t.meter h = s.meterAfterStep h ch level g net ∧
        (((s.hose h).lead : Int) < (d.target : Int) - net →
          (((s.hose h).state = .authorised ∧ (s.hose h).stage = .low) ∨ (s.hose h).state = .slowing →
            t.hose h = { s.hose h with
              state := .slowing, noFlow := if (s.hose h).state = .authorised then none else (s.hose h).noFlow,
              stall := some (s.elapsed + (s.hoseCfg h).stall * 1000), delivery := some d' }) ∧
          ((s.hose h).state = .flowing → t.hose h = { s.hose h with
            state := if (d.target : Int) - net ≤ ((s.hoseCfg h).band : Int) * 1000 then .slowing else .flowing,
            stage := if (d.target : Int) - net ≤ ((s.hoseCfg h).band : Int) * 1000 then .low
              else (s.hose h).stage,
            stall := some (s.elapsed + (s.hoseCfg h).stall * 1000), delivery := some d' }) ∧
          Only [.meters, .hoses] s t) ∧
        ((d.target : Int) - net ≤ ((s.hose h).lead : Int) →
          t.hose h = { s.hose h with
            state := .closing, stage := .closed, pump := false,
            delivery := some { d' with endReason := some .targetReached, endTime := some s.line.siteTime },
            reason := some (.ended .targetReached), noFlow := none, stall := none, tagLoss := none,
            settle := some (s.elapsed + 3000),
            tagAbsent := (s.hose h).tagAbsent || !(s.tag h).lastAnswered } ∧
          (t.tag h).polling = false ∧ (t.tag h).pollTimer = none ∧ (t.tag h).waitingProgress = none ∧
          Only [.meters, .hoses, .tags, .notice] s t) ∧
        OtherHoseKept h s t) ∧
    (∀ (e : FleetEntry) (r : Reservation) (c : Carry) (v : Nat),
      (d.steps + 1) * (s.cfg.journalStep * 1000) ≤ net → 0 < s.cfg.journalStep →
      ((s.hose h).lead : Int) < (d.target : Int) - net →
      ((s.hose h).state = .slowing ∨ ((s.hose h).state = .flowing ∧
        ((s.hoseCfg h).band : Int) * 1000 < (d.target : Int) - net)) →
      d.flags.unknownVehicle = false → s.entry d.vehicle = some e → s.reservation h = some r →
      (s.tag h).state = .inFlight → s.journal.inService.isSome = true → s.journal.queue.length < 6 →
      (∀ op ∈ s.journal.queue, op.isProgressOf h = false) →
      c = (e.carry.absorb ⟨d.station, d.seq, d.start, s.line.siteTime, d.shift, net, false⟩).1 →
      v = (match (s.tag h).identity with
        | none => d.vehicle
        | some i => i.vehicle) →
      ∃ t img, exec (.channelEdge h ch level) s = .next t ∧ t.meter h = s.meterAfterStep h ch level g net ∧
        t.hose h = { s.hose h with
          stall := some (s.elapsed + (s.hoseCfg h).stall * 1000),
          delivery := some { d' with steps := net / (s.cfg.journalStep * 1000) } } ∧
        t.journal = { s.journal with queue := s.journal.queue ++ [.progress h img] } ∧
        img.epoch = d.epoch ∧ img.seq = d.seq ∧ img.hose = h ∧ img.vehicle = d.vehicle ∧ img.cls = d.cls ∧
        img.grade = d.grade ∧ img.start = d.start ∧ img.stop = s.line.siteTime ∧ img.shift = d.shift ∧
        img.target = d.target ∧ img.gross = g ∧ img.net = net ∧ img.endReason = none ∧ img.snapshot = none ∧
        img.flags = d'.flags ∧ img.totalizer = ((s.hose h).totalizer + g) % 100000000000 ∧
        t.entry d.vehicle = some { e with
          carry := c, touched := if c = e.carry then e.touched else s.line.siteTime } ∧
        t.tag h = { s.tag h with waitingProgress := some (carryBlock v c) } ∧
        t.reservation h = some { r with absorbed := max r.absorbed net } ∧
        OtherHoseKept h s t ∧ Only [.meters, .hoses, .journal, .fleet, .tags, .reservations] s t))

/-! ### Identification: the checks, the refusal and the grant -/

/-- R10, R11: the first of the vehicle checks 3 to 8 of R10 that fails gives the refusal: REFUSED with its reason
shown; no sequence, no claim, no reservation, no record, and the tag unit and the meter unit as they were. R8,
R10, R76, R78: where the reads of IDENTIFYING end, checks 1 and 2 come first: the stop line active refuses
STOP LINE ACTIVE, a known stock below the refuse level TANK LOW; a vehicle with an entry has been merged
and pinned no longer, and one for which no entry can be had refuses TABLE FULL under the policy REFUSE. That G0 is
the least significant bit of the grade set (notes/assumptions/53), and that compare and care bytes are paired bit
for bit with the attributes (notes/assumptions/54), is the model's choice. -/
def Obligations.FirstFailingCheckRefuses : Prop :=
  (∀ (h : Side) (s : State) (c : Candidate) (g : HoseConfig) (r : RefusalReason), g = s.hoseCfg h →
    ((c.grades.getLsbD g.grade = false ∧ r = .gradeMismatch) ∨
      (c.grades.getLsbD g.grade = true ∧ (c.attrs ^^^ g.compare) &&& g.care ≠ 0 ∧ r = .access) ∨
      (c.grades.getLsbD g.grade = true ∧ (c.attrs ^^^ g.compare) &&& g.care = 0 ∧ c.hold = true ∧ r = .held) ∨
      (c.grades.getLsbD g.grade = true ∧ (c.attrs ^^^ g.compare) &&& g.care = 0 ∧ c.hold = false ∧
        s.journal.claimAvailableFor s.cfg.nj h = false ∧ r = .journalFull) ∨
      (c.grades.getLsbD g.grade = true ∧ (c.attrs ^^^ g.compare) &&& g.care = 0 ∧ c.hold = false ∧
        s.journal.claimAvailableFor s.cfg.nj h = true ∧ c.service.state = .overdue ∧
        s.panel.supervisorOn = false ∧ c.returnQty = 0 ∧ r = .serviceOverdue) ∨
      (c.grades.getLsbD g.grade = true ∧ (c.attrs ^^^ g.compare) &&& g.care = 0 ∧ c.hold = false ∧
        s.journal.claimAvailableFor s.cfg.nj h = true ∧
        (c.service.state ≠ .overdue ∨ s.panel.supervisorOn = true ∨ c.returnQty ≠ 0) ∧
        (∃ n, s.remaining h c = some n ∧ n < (s.cfg.minIssue : Int) * 1000) ∧ r = .allowanceSpent)) →
    (s.judge h c).hose h = { s.hose h with
      state := .refused, reason := some (.refusal r), liftWait := none, pinned := none, standIn := none } ∧
    (s.judge h c).hose h.other = s.hose h.other ∧ Only [.hoses, .notice] s (s.judge h c)) ∧
  (∀ (h : Side) (s : State) (i : Identity) (c : Instr) (carry : Option Carry) (r : RefusalReason),
    CarryReadEnds s h i c carry → (∀ k, s.watches k i.vehicle = false) →
    ((s.panel.emergency = true ∧ r = .stopLineActive) ∨
      (s.panel.emergency = false ∧ s.stockKnown (s.hoseCfg h).tank = true ∧
        (∃ v, (s.tanks.get (s.hoseCfg h).tank).stock = some v ∧ v < (s.tankCfg (s.hoseCfg h).tank).refuse) ∧
        r = .tankLow) ∨
      (s.panel.emergency = false ∧ s.tankLow h = false ∧ s.entry i.vehicle = none ∧
        256 ≤ s.fleet.entries.length ∧ (∀ e ∈ s.fleet.entries, s.isPinned e = true) ∧
        s.cfg.classDefault = false ∧ r = .tableFull)) →
    ∃ t, exec c s = .next t ∧
      (t.hose h).state = .refused ∧ (t.hose h).reason = some (.refusal r) ∧ (t.hose h).pinned = none ∧
      (t.hose h).standIn = none ∧ (t.hose h).liftWait = none ∧ (t.hose h).delivery = (s.hose h).delivery ∧
      (∀ e, s.entry i.vehicle = some e → ∃ x, t.entry i.vehicle = some x ∧ x.source = .tag ∧
        x.tagClass = some i.cls ∧ x.grades = i.grades ∧ x.tagAttrs = some i.attrs ∧
        x.touched = s.line.siteTime) ∧
      (r = .tableFull → t.fleet = s.fleet) ∧
      OtherHoseKept h s t ∧ Only [.tags, .hoses, .fleet, .notice] s t)

/-- R12, R13, R58, R90, R94, R144: the grant, where no check fails: a claim and the next sequence are taken; the
target is the smallest of the remaining allowance, the maximum delivery and, for a capped vehicle, the
return quantity; the reservation and the delivery record name it; the stage is LOW where the target is
within the slow-down band, the pump runs, the no-flow timer and polling start; the stray gross joins the
totalizer and the meter unit is cleared. -/
def Obligations.GrantMakesDelivery : Prop :=
  ∀ (h : Side) (s : State) (c : Candidate) (most target : Nat) (capped : Bool),
    s.checkVehicle h c = none → capped = (decide (c.service.state = .overdue) && !s.panel.supervisorOn) →
    most = (s.hoseCfg h).maxDelivery * 1000 →
    ((s.remaining h c = none ∧ target = if capped then min most (c.returnQty * 1000) else most) ∨
      (∃ n, s.remaining h c = some n ∧
        target = if capped then min (min most n.toNat) (c.returnQty * 1000) else min most n.toNat)) →
    s.journal.nextSeq < 16777215 →
    (s.judge h c).journal = { s.journal with claims := s.journal.claims + 1, nextSeq := s.journal.nextSeq + 1 } ∧
    (∃ r, (s.judge h c).reservation h = some r ∧ r.vehicle = c.identity.vehicle ∧ r.watched = c.watched ∧
      r.station = s.cfg.station ∧ r.seq = s.journal.nextSeq ∧ r.shift = s.currentShift ∧ r.target = target ∧
      r.absorbed = 0 ∧ r.capped = capped ∧ r.watch = .intact ∧ r.causes = ⟨false, false, false⟩) ∧
    (∃ d, ((s.judge h c).hose h).delivery = some d ∧ d.station = s.cfg.station ∧
      d.epoch = s.journal.header.epoch ∧ d.seq = s.journal.nextSeq ∧ d.vehicle = c.identity.vehicle ∧
      d.start = s.line.siteTime ∧ d.shift = s.currentShift ∧ d.target = target ∧ d.steps = 0 ∧
      d.endReason = none ∧ d.watch = .intact ∧ d.pendingFault = none ∧ d.service = c.service ∧
      d.flags.supervised = (decide (c.service.state = .overdue) && s.panel.supervisorOn) ∧
      d.flags.unknownVehicle = !c.watched) ∧
    ((s.judge h c).hose h).state = .authorised ∧
    ((s.judge h c).hose h).stage =
      (if (target : Int) ≤ ((s.hoseCfg h).band : Int) * 1000 then .low else .full) ∧
    ((s.judge h c).hose h).pump = true ∧
    ((s.judge h c).hose h).noFlow = some (s.elapsed + (s.hoseCfg h).noFlow * 1000) ∧
    ((s.judge h c).hose h).tagAbsent = false ∧
    ((s.judge h c).hose h).totalizer = ((s.hose h).totalizer + (s.meter h).gross) % 100000000000 ∧
    ((s.judge h c).meter h).gross = 0 ∧ ((s.judge h c).meter h).pulses = 0 ∧
    ((s.judge h c).tag h).polling = true ∧ ((s.judge h c).tag h).pollTimer = some (s.elapsed + 250) ∧
    OtherHoseKept h s (s.judge h c) ∧
    Only [.journal, .reservations, .hoses, .meters, .tags] s (s.judge h c)

/-! ### Tag exchange units -/

/-- R8, R55: a BLOCK answer with valid identity content to the READ IDENTITY in flight stops the lift-wait
timer, binds the serial and stores the identity; the READ HOURS that follows is sent at once while no write
waits. R56: an hours block of the bound serial with a valid reading is stored, and a READ HOURS given up
leaves none; READ CARRY follows. R76, R78, R108, R113, R114: where the READ CARRY ends, or is given up, the
tag is merged into the vehicle's entry or makes one, the hours block is applied, the service is evaluated and
shown, the vehicle is pinned, and, checks 1 and 2 passed, the candidate of that entry is judged (R10, R12);
where no entry can be had and the policy is CLASS DEFAULT, that of a stand-in carry is. The premise that no
watched reservation names the vehicle leaves the merge's report without a taker (R97). -/
def Obligations.IdentityBlockIsRead : Prop :=
  (∀ (h : Side) (number : BitVec 8) (serial : Nat) (content : List Byte) (i : Identity) (s : State) (x : Exchange),
    (s.tag h).state = .inFlight → (s.tag h).current = some x → x.number = number → x.request = .read .identity →
    (s.tag h).polling = false → validIdentity content = some i → (s.hose h).state = .identifying →
    (s.tag h).quiet = none → (s.tag h).waitingWriteBack = none → (s.tag h).waitingProgress = none →
    ∃ t, exec (.readerBlock h number serial content) s = .next t ∧
      t.hose h = { s.hose h with liftWait := none } ∧
      t.tag h = { s.tag h with
        bound := some serial, identity := some i, state := .inFlight, waitingRead := none, pollDue := false,
        current := some ⟨.read .hours, (s.tag h).nextNumber, 1, false⟩,
        nextNumber := (s.tag h).nextNumber + 1, window := some (s.elapsed + 60) } ∧
      OtherHoseKept h s t ∧ Only [.tags, .hoses] s t) ∧
  (∀ (h : Side) (serial : Nat) (content : List Byte) (i : Identity) (s : State) (x : Exchange) (c : Instr)
    (hours : Option Nat),
    (s.tag h).state = .inFlight → (s.tag h).current = some x → x.request = .read .hours →
    (s.tag h).identity = some i → (s.tag h).bound = some serial →
    (s.tag h).polling = false → (s.hose h).state = .identifying → (s.tag h).window.isSome = true →
    (s.tag h).quiet = none → (s.tag h).waitingWriteBack = none → (s.tag h).waitingProgress = none →
    ((c = .readerBlock h x.number serial content ∧ hours.isSome = true ∧ hours = validHours i.vehicle content) ∨
      (x.attempts = 3 ∧ hours = none ∧
        (c = .readerNoTag h x.number ∨ c = .readerFault h x.number ∨ c = .readerWindowExpiry h ∨
          (c = .readerBlock h x.number serial content ∧ validHours i.vehicle content = none)))) →
    ∃ t, exec c s = .next t ∧
      t.tag h = { s.tag h with
        hours := hours, state := .inFlight, waitingRead := none, pollDue := false,
        current := some ⟨.read .carry, (s.tag h).nextNumber, 1, false⟩,
        nextNumber := (s.tag h).nextNumber + 1, window := some (s.elapsed + 60) } ∧
      OtherHoseKept h s t ∧ Only [.tags] s t) ∧
  (∀ (h : Side) (s : State) (i : Identity) (c : Instr) (carry : Option Carry),
    CarryReadEnds s h i c carry → (∀ k, s.watches k i.vehicle = false) →
    s.panel.emergency = false → s.tankLow h = false →
    (∀ (e e1 : FleetEntry) (c1 : Carry × HoursFlags),
      ((s.entry i.vehicle = some e ∧ e1 = { e with
          source := .tag, tagClass := some i.cls, grades := i.grades, tagAttrs := some i.attrs,
          carry := (match carry with
            | none => e.carry
            | some x => (e.carry.merge x).1),
          touched := s.line.siteTime }) ∨
        (s.entry i.vehicle = none ∧ s.fleet.entries.length < 256 ∧ e1 = {
          vehicle := i.vehicle, source := .tag, tagClass := some i.cls, grades := i.grades,
          tagAttrs := some i.attrs, allowanceOv := ⟨none, none⟩, classOv := ⟨none, none⟩,
          attrsOv := ⟨none, none⟩,
          carry := (match carry with
            | none => Carry.blank
            | some x => { x with levels := enforceLevels x.levels }),
          touched := s.line.siteTime })) →
      c1 = e1.carry.applyHours (s.tag h).hours s.line.siteTime →
      ∃ s3 cand, exec c s = .next (s3.judge h cand) ∧
        cand.identity = i ∧ cand.watched = true ∧ cand.carry = c1.1 ∧ cand.grades = i.grades ∧
        cand.attrs = e1.attrsOv.val.getD i.attrs ∧
        cand.recordClass = e1.classOv.val.getD i.cls ∧
        cand.cls = some (s.classRecord (e1.classOv.val.getD i.cls)) ∧
        cand.base = baseAllowance e1.allowanceOv.val cand.cls ∧
        cand.service = evaluate c1.1 (s.classRecord (e1.classOv.val.getD i.cls)) c1.2 ∧
        s3.entry i.vehicle = some { e1 with carry := c1.1 } ∧
        (∀ v, v ≠ i.vehicle → s3.entry v = s.entry v) ∧
        s3.hose h = { s.hose h with serviceShown := some cand.service, pinned := some i.vehicle } ∧
        (s3.tag h).state = .ready ∧ (s3.tag h).current = none ∧ (s3.tag h).carry = carry ∧
        OtherHoseKept h s s3 ∧ Only [.tags, .hoses, .fleet] s s3) ∧
    (∀ (c0 : Carry) (c1 : Carry × HoursFlags),
      s.entry i.vehicle = none → 256 ≤ s.fleet.entries.length → (∀ e ∈ s.fleet.entries, s.isPinned e = true) →
      s.cfg.classDefault = true →
      c0 = (match carry with
        | none => Carry.blank
        | some x => { x with levels := enforceLevels x.levels }) →
      c1 = c0.applyHours (s.tag h).hours s.line.siteTime →
      ∃ s3 cand, exec c s = .next (s3.judge h cand) ∧
        cand.identity = i ∧ cand.watched = false ∧ cand.carry = c1.1 ∧ cand.grades = i.grades ∧
        cand.attrs = i.attrs ∧ cand.recordClass = i.cls ∧
        cand.cls = some (s.classRecord s.cfg.unknownClass) ∧
        cand.base = (s.classRecord s.cfg.unknownClass).defaultAllowance ∧
        cand.service = evaluate c1.1 (s.classRecord s.cfg.unknownClass) c1.2 ∧
        s3.hose h = { s.hose h with serviceShown := some cand.service, standIn := some ⟨i, c1.1⟩ } ∧
        OtherHoseKept h s s3 ∧ Only [.tags, .hoses] s s3))

/-- R52: a failed attempt of a read (NO TAG, READER FAULT or the expiry of the window) is followed at once by
the next one with a new exchange number while fewer than three have been made; a third that fails gives a
READ IDENTITY up, which the hose asks for again (R8). -/
def Obligations.FailedReadIsTriedAgain : Prop :=
  ∀ (h : Side) (s : State) (x : Exchange) (k : ReadKind) (c : Instr),
    (s.tag h).state = .inFlight → (s.tag h).current = some x → x.request = .read k → x.noMore = false →
    (s.tag h).polling = false → (s.hose h).state = .identifying → (s.tag h).window.isSome = true →
    (c = .readerNoTag h x.number ∨ c = .readerFault h x.number ∨ c = .readerWindowExpiry h) →
    (x.attempts < 3 → ∃ t, exec c s = .next t ∧
      t.tag h = { s.tag h with
        current := some { x with number := (s.tag h).nextNumber, attempts := x.attempts + 1 },
        nextNumber := (s.tag h).nextNumber + 1, window := some (s.elapsed + 60), pollDue := false } ∧
      OtherHoseKept h s t ∧ Only [.tags] s t) ∧
    (x.attempts = 3 → k = .identity → (s.tag h).quiet = none → (s.tag h).waitingWriteBack = none →
      (s.tag h).waitingProgress = none → ∃ t, exec c s = .next t ∧
      (t.tag h).state = .inFlight ∧ (t.tag h).current = some ⟨.read .identity, (s.tag h).nextNumber, 1, false⟩ ∧
      OtherHoseKept h s t ∧ Only [.tags] s t)

/-- R16, R59: while polling is on, PRESENT with the bound serial is an answered poll: the tag-loss timer stops;
PRESENT with another serial, NO TAG, READER FAULT and the expiry of the window are unanswered: a stopped
tag-loss timer starts with the tag-loss window. Either way the PROBE exchange ends; R53: a poll that fell due
while it was in flight is not sent separately (that its mark is cleared as the exchange ends is the model's
reading, notes/assumptions/45). -/
def Obligations.PollResultSetsTagLossTimer : Prop :=
  ∀ (h : Side) (s : State) (x : Exchange) (c : Instr) (answered : Bool) (serial : Nat),
    (s.tag h).state = .inFlight → (s.tag h).current = some x → x.request = .poll → x.attempts = 1 →
    (s.tag h).polling = true → (s.tag h).window.isSome = true →
    (s.tag h).quiet = none → (s.tag h).waitingWriteBack = none → (s.tag h).waitingProgress = none →
    (s.tag h).waitingRead = none →
    ((c = .readerPresent h x.number serial ∧ answered = decide ((s.tag h).bound = some serial)) ∨
      (c = .readerNoTag h x.number ∧ answered = false) ∨ (c = .readerFault h x.number ∧ answered = false) ∨
      (c = .readerWindowExpiry h ∧ answered = false)) →
    ∃ t, exec c s = .next t ∧
      t.tag h = { s.tag h with
        lastAnswered := answered, state := .ready, current := none, window := none, pollDue := false } ∧
      t.hose h = { s.hose h with
        tagLoss := if answered then none
          else if (s.hose h).tagLoss.isSome then (s.hose h).tagLoss else some (s.elapsed + s.cfg.tagLoss * 1000) } ∧
      OtherHoseKept h s t ∧ Only [.tags, .hoses] s t

/-- R22, R63, R148: WRITTEN with the bound serial to the write-back in flight ends it as a success: the unit
forgets the tag and is READY, the hose goes to RECORDING, or stays in FAULT, and the append of its record, not
flagged TAG NOT UPDATED, is given the slot at the head and the next serial. A last attempt that fails gives
the write-back up: the same with the record flagged TAG NOT UPDATED; an earlier one is followed by the next
(R52). R21: a hang in WRITEBACK, and in FAULT on the way there (the model's reading, notes/assumptions/19),
drops a write-back that waits, which has then failed, and lets one in flight make no further attempt. -/
def Obligations.WriteBackSuccessRecordsDelivery : Prop :=
  (∀ (h : Side) (s : State) (x : Exchange) (content : List Byte) (c : Instr) (updated : Bool) (d : Delivery)
    (img : IssueRecord),
    (s.tag h).state = .inFlight → (s.tag h).current = some x → x.request = .writeBack content →
    (s.tag h).polling = false → (s.tag h).waitingWriteBack = none →
    (s.tag h).waitingProgress = none → (s.tag h).waitingRead = none → (s.tag h).window.isSome = true →
    ((∃ serial, updated = true ∧ (s.tag h).bound = some serial ∧ c = .readerWritten h x.number serial) ∨
      (updated = false ∧ (x.attempts = 3 ∨ x.noMore = true) ∧
        (c = .readerNoTag h x.number ∨ c = .readerFault h x.number ∨ c = .readerWindowExpiry h ∨
          ∃ other, (s.tag h).bound ≠ some other ∧ c = .readerWritten h x.number other))) →
    ((s.hose h).state = .writeback ∨ (s.hose h).state = .fault) →
    (s.hose h).delivery = some d → d.finalImage = some img → 0 < s.journal.free s.cfg.nj →
    s.journal.nextSerial ≤ 4294967295 → s.journal.inService.isSome = true →
    ∃ t, exec c s = .next t ∧
      t.hose h = { s.hose h with
        state := if (s.hose h).state = .fault then .fault else .recording,
        delivery := some { d with flags := { d.flags with tagNotUpdated := !updated } } } ∧
      t.tag h = { s.tag h with
        state := .ready, current := none, window := none, pollDue := false, bound := none, identity := none,
        hours := none, carry := none } ∧
      t.journal = { s.journal with
        unsent := s.journal.unsent + 1, nextSerial := s.journal.nextSerial + 1,
        queue := (s.journal.queue.filter fun op => !op.isFinalOf img.hose) ++
          [.append .hose (s.journal.head s.cfg.nj) s.journal.nextSerial
            (.issue { img with flags := { img.flags with tagNotUpdated := !updated } })] } ∧
      OtherHoseKept h s t ∧ Only [.tags, .hoses, .journal] s t) ∧
  (∀ (h : Side) (s : State) (x : Exchange) (content : List Byte) (c : Instr),
    (s.tag h).state = .inFlight → (s.tag h).current = some x → x.request = .writeBack content →
    (s.tag h).polling = false → x.attempts < 3 → x.noMore = false → (s.tag h).window.isSome = true →
    (c = .readerNoTag h x.number ∨ c = .readerFault h x.number ∨ c = .readerWindowExpiry h) →
    ∃ t, exec c s = .next t ∧
      t.tag h = { s.tag h with
        current := some { x with number := (s.tag h).nextNumber, attempts := x.attempts + 1 },
        nextNumber := (s.tag h).nextNumber + 1, window := some (s.elapsed + 250), pollDue := false } ∧
      OtherHoseKept h s t ∧ Only [.tags] s t) ∧
  (∀ (h : Side) (s : State) (d : Delivery) (x' : Hose), s.unfitted h = false → (s.hose h).delivery = some d →
    ((s.hose h).state = .writeback ∨ (s.hose h).state = .fault) →
    x' = { s.hose h with
      hook := .hung, tagAbsent := if (s.hose h).state = .writeback then true else (s.hose h).tagAbsent } →
    (∀ x, (s.tag h).waitingWriteBack = none → (s.tag h).current = some x →
      ∃ t, exec (.hang h) s = .next t ∧ t.hose h = x' ∧
        t.tag h = { s.tag h with
          current := some { x with noMore := x.noMore || x.request.isWriteBack } } ∧
        OtherHoseKept h s t ∧ Only [.hoses, .tags] s t) ∧
    (∀ img, (s.tag h).waitingWriteBack.isSome = true → d.finalImage = some img →
      0 < s.journal.free s.cfg.nj → s.journal.nextSerial ≤ 4294967295 → s.journal.inService.isSome = true →
      ∃ t, exec (.hang h) s = .next t ∧
        t.hose h = { x' with
          state := if (s.hose h).state = .fault then .fault else .recording,
          delivery := some { d with flags := { d.flags with tagNotUpdated := true } } } ∧
        t.tag h = { s.tag h with
          waitingWriteBack := none, bound := none, identity := none, hours := none, carry := none } ∧
        t.journal = { s.journal with
          unsent := s.journal.unsent + 1, nextSerial := s.journal.nextSerial + 1,
          queue := (s.journal.queue.filter fun op => !op.isFinalOf img.hose) ++
            [.append .hose (s.journal.head s.cfg.nj) s.journal.nextSerial
              (.issue { img with flags := { img.flags with tagNotUpdated := true } })] } ∧
        OtherHoseKept h s t ∧ Only [.hoses, .tags, .journal] s t))

/-- R51, R52, R58: an expiry of the poll timer restarts it with 250 ms and sends a PROBE where the unit is READY
with nothing waiting, else leaves the poll due; the expiry of the quiet timer lets a waiting read be served. -/
def Obligations.TagTimersExpire : Prop :=
  ∀ (h : Side) (s : State) (u : TagUnit), u = s.tag h →
    (u.polling = true → u.pollTimer.isSome = true → u.quiet = none → u.waitingWriteBack = none →
      u.waitingProgress = none → u.waitingRead = none → ∃ t, exec (.pollTimerExpiry h) s = .next t ∧
      (u.state = .ready → t.tag h = { u with
        pollTimer := some (s.elapsed + 250), pollDue := false, state := .inFlight,
        current := some ⟨.poll, u.nextNumber, 1, false⟩, nextNumber := u.nextNumber + 1,
        window := some (s.elapsed + 30) }) ∧
      (u.state ≠ .ready → t.tag h = { u with pollTimer := some (s.elapsed + 250), pollDue := true }) ∧
      t.tag h.other = s.tag h.other ∧ Only [.tags] s t) ∧
    (∀ k, u.quiet.isSome = true → u.state = .ready → u.waitingWriteBack = none → u.waitingProgress = none →
      u.waitingRead = some k → ∃ t, exec (.quietTimerExpiry h) s = .next t ∧
      t.tag h = { u with
        quiet := none, waitingRead := none, pollDue := false, state := .inFlight,
        current := some ⟨.read k, u.nextNumber, 1, false⟩, nextNumber := u.nextNumber + 1,
        window := some (s.elapsed + 60) } ∧
      t.tag h.other = s.tag h.other ∧ Only [.tags] s t)

/-! ### The carry: absorb, amounts, merge, adoption -/

/-- R72: an absorb made a second time changes nothing: a delivery counts once. R73: an amount applied for a
delivery: the shift and the use, each level's litres where it has no mark or the end time is later than the
mark's, and the litres since the reading; the levels stay in order. -/
def Obligations.AbsorbCountsOnce : Prop :=
  (∀ (c : Carry) (d : Item), ((c.absorb d).1.absorb d).1 = (c.absorb d).1) ∧
  (∀ (c : Carry) (shift stop a : Nat),
    (shift = c.shift → (c.apply shift stop a).shift = c.shift ∧
      (c.apply shift stop a).use = min 65000000 (c.use + a)) ∧
    (c.shift < shift → (c.apply shift stop a).shift = shift ∧ (c.apply shift stop a).use = min 65000000 a) ∧
    (shift < c.shift → (c.apply shift stop a).shift = c.shift ∧ (c.apply shift stop a).use = c.use) ∧
    (∀ l : Level, (l.mark = none ∨ ∃ m, l.mark = some m ∧ m.time < stop) →
      l.apply stop a = { l with litres := min 4000000000000 (l.litres + a) }) ∧
    (∀ (l : Level) (m : Mark), l.mark = some m → stop ≤ m.time → l.apply stop a = l) ∧
    (c.apply shift stop a).levels = ⟨c.levels.l1.apply stop a, c.levels.l2.apply stop a,
      c.levels.l3.apply stop a, c.levels.l4.apply stop a⟩ ∧
    (c.apply shift stop a).sinceReading = min 4000000000000 (c.sinceReading + a) ∧
    (c.apply shift stop a).reading = c.reading ∧ (c.apply shift stop a).hold = c.hold ∧
    (c.apply shift stop a).list = c.list ∧
    (c.ordered → c.levels.l4.litres ≤ 4000000000000 → (c.apply shift stop a).ordered))

/-- R75, R119: whatever the two carries, a carry merge and a SERVICE adoption leave the levels in order: no mark
newer than that of the level below, litres no smaller and hours no larger going up; an absorb keeps levels
that are in order, within the range of R66, in order. -/
def Obligations.LevelsStayInOrder : Prop :=
  ∀ (c x : Carry) (m : Mark) (level hours : Nat) (d : Item),
    (c.merge x).1.ordered ∧ (c.adopt m level hours).ordered ∧
      (c.ordered → c.levels.l4.litres ≤ 4000000000000 → (c.absorb d).1.ordered)

/-- R118: the reading of a carry under a SERVICE record: raised where the record's hours are greater or no
reading is held, with the service time, the source READ and no litres since; else left. The shift, its use,
the hold and the list are not moved (R119). -/
def Obligations.ServiceRaisesReading : Prop :=
  ∀ (c : Carry) (m : Mark) (level hours : Nat),
    ((c.reading = none ∨ ∃ r, c.reading = some r ∧ r.value < hours) →
      (c.adopt m level hours).reading = some ⟨hours, m.time, .read⟩ ∧
      (c.adopt m level hours).sinceReading = 0) ∧
    (∀ r, c.reading = some r → hours ≤ r.value →
      (c.adopt m level hours).reading = some r ∧ (c.adopt m level hours).sinceReading = c.sinceReading) ∧
    (c.adopt m level hours).shift = c.shift ∧ (c.adopt m level hours).use = c.use ∧
    (c.adopt m level hours).hold = c.hold ∧ (c.adopt m level hours).list = c.list

/-- R106, R110, R111: the state of a level in use: UNKNOWN with no mark, else OVERDUE, DUE or APPROACHING where
its hours since, where known, or its litres since reach that threshold of a limit in use, else CURRENT. R112,
R109: the vehicle state is the worst of the levels in use, the vehicle level the highest level that has it,
the unknown set the levels that are UNKNOWN, and the effective hours are the reading with its estimate; where
no level is in use the state is CURRENT with no level. -/
def Obligations.EvaluationTakesWorst : Prop :=
  (∀ (p : Plan) (l : Level) (hours : Option Nat) (reached : (Nat → Nat → Nat → Nat) → Prop),
    (∀ f, reached f ↔ ((p.ih ≠ 0 ∧ ∃ r, hours = some r ∧ f p.ih p.ah p.gh * 10 ≤ r - l.hours) ∨
      (p.il ≠ 0 ∧ f p.il p.al p.gl * 1000 ≤ l.litres))) →
    (levelState p l hours = none ↔ p.ih = 0 ∧ p.il = 0) ∧
    (¬ (p.ih = 0 ∧ p.il = 0) →
      (l.mark = none → levelState p l hours = some .unknown) ∧
      (l.mark ≠ none →
        (reached (fun i _ g => i + g) → levelState p l hours = some .overdue) ∧
        (¬ reached (fun i _ g => i + g) → reached (fun i _ _ => i) → levelState p l hours = some .due) ∧
        (¬ reached (fun i _ g => i + g) → ¬ reached (fun i _ _ => i) → reached (fun i a _ => i - a) →
          levelState p l hours = some .approaching) ∧
        (¬ reached (fun i _ g => i + g) → ¬ reached (fun i _ _ => i) → ¬ reached (fun i a _ => i - a) →
          levelState p l hours = some .current)))) ∧
  (∀ (c : Carry) (k : ClassRecord) (f : HoursFlags) (states : List (Option ServiceState)),
    states = [levelState k.plans.l1.val c.levels.l1 (evaluate c k f).hours,
      levelState k.plans.l2.val c.levels.l2 (evaluate c k f).hours,
      levelState k.plans.l3.val c.levels.l3 (evaluate c k f).hours,
      levelState k.plans.l4.val c.levels.l4 (evaluate c k f).hours] →
    (c.reading = none → (evaluate c k f).hours = none) ∧
    (∀ r, c.reading = some r → k.burn.val ≠ 0 → (evaluate c k f).hours =
      some (min 9999999 (r.value + (c.sinceReading + k.burn.val * 100 - 1) / (k.burn.val * 100)))) ∧
    (evaluate c k f).unknown.toList = states.map (fun x => decide (x = some .unknown)) ∧
    ((∀ x ∈ states, x = none) → (evaluate c k f).state = .current ∧ (evaluate c k f).level = none) ∧
    ((∃ x ∈ states, x ≠ none) → ∃ j, (evaluate c k f).level = some (j + 1) ∧
      states[j]? = some (some (evaluate c k f).state) ∧
      (∀ (i : Nat) (st : ServiceState), states[i]? = some (some st) → st.code ≤ (evaluate c k f).state.code) ∧
      (∀ i, j < i → states[i]? ≠ some (some (evaluate c k f).state))))

/-! ### The watch on a live delivery -/

/-- R98, R100 to R102, R104: a live delivery's entry examined on a report: the allowance and the hold in force
are set; where the use in force rose, the allowance fell or a hold was set it is DISTURBED with those causes,
and re-evaluated: a hold ends the delivery, an unlimited allowance leaves the target, else the target falls
to what is available, and at the live net or below it becomes the live net and the delivery ends. R103: in
CLOSING the entry and the delivery are marked and nothing more is done. R99: a report on a vehicle with two
watched entries is taken first by the entry granted earlier, then by the other as the first has left it. -/
def Obligations.DisturbedDeliveryIsReevaluated : Prop :=
  (∀ (h : Side) (s t : State) (e : FleetEntry) (before use : Nat) (r r' : Reservation) (d d' : Delivery)
    (q : Allowance) (hold : Bool) (found : Causes),
    s.reservation h = some r → (s.hose h).state.live = true → (s.hose h).delivery = some d →
    q = effectiveAllowance r.capped (baseAllowance e.allowanceOv.val (s.classOf e)) (s.classOf e) →
    hold = holdInForce e.carry (s.classOf e) → use = (if e.carry.shift = r.shift then e.carry.use else 0) →
    found = ⟨decide (before < use), q.lower r.allowance, hold && !r.hold⟩ →
    r' = { r with
      allowance := q, hold := hold, watch := .disturbed,
      causes := ⟨r.causes.useRaised || found.useRaised, r.causes.allowanceLowered || found.allowanceLowered,
        r.causes.holdSet || found.holdSet⟩ } →
    d' = { d with watch := .disturbed, causes := r'.causes, flags := { d.flags with disturbed := true } } →
    t = s.examine h e before →
    (found = ⟨false, false, false⟩ → t = s.setReservation h (some { r with allowance := q, hold := hold })) ∧
    (found ≠ ⟨false, false, false⟩ → (s.hose h).state = .closing → t.reservation h = some r' ∧
      t.hose h = { s.hose h with delivery := some d' } ∧ Only [.hoses, .reservations] s t) ∧
    (found ≠ ⟨false, false, false⟩ → (s.hose h).state.open = true →
      (hold = true → (t.hose h).state.open = false ∧ (t.hose h).reason = some (.ended .holdReceived)) ∧
      (hold = false → q = .unlimited → t.reservation h = some r' ∧
        t.hose h = { s.hose h with delivery := some d' } ∧ t.tag h = s.tag h) ∧
      (∀ (n : Nat) (target : Int), hold = false → q = .litres n →
        target = min (r.target : Int) ((n : Int) * 1000 - use + r.absorbed -
          outstandingFor r.vehicle (s.reservation h.other)) →
        (((s.meter h).lastNet : Int) < target → t.reservation h = some { r' with target := target.toNat } ∧
          t.hose h = { s.hose h with delivery := some { d' with target := target.toNat } } ∧
          t.tag h = s.tag h) ∧
        (target ≤ ((s.meter h).lastNet : Int) → (t.hose h).state.open = false ∧
          (t.hose h).reason = some (.ended .allowanceReduced) ∧
          ((t.hose h).state = .closing → t.reservation h = some { r' with target := (s.meter h).lastNet } ∧
            ∃ x, (t.hose h).delivery = some x ∧ x.target = (s.meter h).lastNet ∧ x.watch = .disturbed)))) ∧
    OtherHoseKept h s t ∧ Only [.hoses, .tags, .reservations, .journal, .notice] s t) ∧
  (∀ (h : Side) (s : State) (v : Nat) (e : FleetEntry) (old : ReportValues) (a b : Reservation),
    s.reservation h = some a → s.reservation h.other = some b → a.rank < b.rank → a.watched = true →
    b.watched = true → a.vehicle = v → b.vehicle = v → s.entry v = some e → s.reportValues e ≠ old →
    s.reportOther v old = (s.examine h e (if old.shift = a.shift then old.use else 0)).examine h.other e
      (if old.shift = b.shift then old.use else 0))

/-! ### Reception on the site line -/

/-- R77, R84, R134, R135: an ISSUE record heard in LISTEN or RUN from another station, accepted by the window,
is absorbed with its snapshot into the vehicle's entry; a HEARD entry takes its class, a changed entry is
touched now (where only the class changed, the model's choice, notes/assumptions/34), and a record turned away
as too old is counted late. The frame comes whole, where one can begin (the form, and that it is heard
outside SEND alone: notes/assumptions/11, R123). -/
def Obligations.HeardIssueIsAbsorbed : Prop :=
  ∀ (gap : Bool) (frame : List Byte) (s : State) (f : SiteFrame) (p : Peer) (e e1 e2 : FleetEntry) (r : IssueRecord)
    (c1 : Carry × Bool),
    s.listening = true → s.frameCanBegin gap → siteFrame .issue frame = some f →
    f.origin ≠ s.cfg.station →
    ((s.line.hear f s.elapsed).peer f.origin).bind (fun q => q.window f.seq) = some p →
    r = decodeIssue f.epoch f.seq f.content → s.entry r.vehicle = some e →
    c1 = e.carry.absorb ⟨f.origin, r.seq, r.start, r.stop, r.shift, r.net, true⟩ →
    e1 = { e with
      carry := (match r.snapshot with
        | none => c1.1
        | some x => (c1.1.merge { x with list := [] }).1)
      tagClass := if e.source = .heard then some r.cls else e.tagClass } →
    e2 = (if e1 = e then e else { e1 with touched := s.line.siteTime }) →
    ∃ t, exec (.issueFrame ⟨gap, frame⟩) s = .next t ∧ t.entry r.vehicle = some e2 ∧
      (∀ v, v ≠ r.vehicle → t.entry v = s.entry v) ∧
      t.fleet.late = min 65535 (s.fleet.late + if c1.2 then 1 else 0) ∧
      t.fleet.notApplied = s.fleet.notApplied ∧ t.fleet.unauthorised = s.fleet.unauthorised ∧
      Only (touched (.issueFrame ⟨gap, frame⟩)) s t

/-- R80, R85: a SERVICE record, VEHICLE NOTICE or CLASS NOTICE accepted by the window from an origin that is not
on the authority list is ignored but for the unauthorised count: no entry and no class record changes. The frame
comes whole, where one can begin (the form: notes/assumptions/11). -/
def Obligations.UnauthorisedRecordsAreIgnored : Prop :=
  ∀ (k : Kind) (gap : Bool) (frame : List Byte) (s : State) (f : SiteFrame) (p : Peer) (c : Instr),
    ((k = .service ∧ c = .serviceFrame ⟨gap, frame⟩) ∨ (k = .vehicleNotice ∧ c = .vehicleNoticeFrame ⟨gap, frame⟩) ∨
      (k = .classNotice ∧ c = .classNoticeFrame ⟨gap, frame⟩)) →
    s.listening = true → s.frameCanBegin gap → siteFrame k frame = some f → f.origin ≠ s.cfg.station →
    s.cfg.authority.contains f.origin = false →
    ((s.line.hear f s.elapsed).peer f.origin).bind (fun q => q.window f.seq) = some p →
    ∃ t, exec c s = .next t ∧
      t.fleet = { s.fleet with unauthorised := min 65535 (s.fleet.unauthorised + 1) } ∧
      Only [.line, .fleet, .notice] s t

/-- R80, R81, R116 to R119: a VEHICLE NOTICE or SERVICE record in range, accepted by the window from an origin
on the authority list, is taken by the vehicle's entry: each masked field by the stamped-write test, or the
adoption of the service; a changed entry is touched now. R79, R81: a field that the mask names is written, with
the stamp, where the notice's stamp is newer than the field's, and else stands. R117: each level up to the
record's whose mark is older takes the service mark, its hours, and the sum of the nets of the list's items
that ended later, and the levels are then put in order (R119); R118: the reading. That any value of the USE TAG byte
but 0 takes the override away is the model's reading (notes/assumptions/21). The frame comes whole, where one can
begin (the form: notes/assumptions/11). -/
def Obligations.HeardNoticeAndServiceAreTaken : Prop :=
  (∀ (gap : Bool) (frame : List Byte) (s : State) (f : SiteFrame) (p : Peer) (e e1 e2 : FleetEntry) (c : Instr) (v : Nat),
    s.listening = true → s.frameCanBegin gap → f.origin ≠ s.cfg.station →
    s.cfg.authority.contains f.origin = true →
    ((s.line.hear f s.elapsed).peer f.origin).bind (fun q => q.window f.seq) = some p →
    s.entry v = some e →
    ((∃ n : VehicleNotice, siteFrame .vehicleNotice frame = some f ∧ c = .vehicleNoticeFrame ⟨gap, frame⟩ ∧
        n = decodeVehicleNotice f.content ∧ n.inRange = true ∧ v = n.vehicle ∧
        e1 = e.takeNotice ⟨n.stamp, f.origin⟩ n) ∨
      (∃ r : ServiceRecord, siteFrame .service frame = some f ∧ c = .serviceFrame ⟨gap, frame⟩ ∧
        r = decodeService f.content ∧ r.inRange = true ∧ v = r.vehicle ∧
        e1 = { e with carry := e.carry.adopt ⟨r.time, f.origin, f.epoch, f.seq⟩ r.level r.hours })) →
    e2 = (if e1 = e then e else { e1 with touched := s.line.siteTime }) →
    ∃ t, exec c s = .next t ∧ t.entry v = some e2 ∧ (∀ w, w ≠ v → t.entry w = s.entry w) ∧
      t.fleet.notApplied = s.fleet.notApplied ∧ t.fleet.unauthorised = s.fleet.unauthorised ∧
      Only (touched c) s t) ∧
  (∀ (e x : FleetEntry) (st : Stamp) (n : VehicleNotice), x = e.takeNotice st n →
    (n.mask.getLsbD 7 = true → StampBeats st e.allowanceOv.stamp →
      x.allowanceOv = ⟨if n.allowance = 65535 then none else some n.allowance, some st⟩) ∧
    (n.mask.getLsbD 7 = false ∨ ¬ StampBeats st e.allowanceOv.stamp → x.allowanceOv = e.allowanceOv) ∧
    (n.mask.getLsbD 6 = true → StampBeats st e.carry.hold.stamp →
      x.carry = { e.carry with hold := if n.hold = 1 then .set st else .cleared st }) ∧
    (n.mask.getLsbD 6 = false ∨ ¬ StampBeats st e.carry.hold.stamp → x.carry = e.carry) ∧
    (n.mask.getLsbD 5 = true → StampBeats st e.classOv.stamp →
      x.classOv = ⟨if n.cls = 255 then none else some n.cls, some st⟩) ∧
    (n.mask.getLsbD 5 = false ∨ ¬ StampBeats st e.classOv.stamp → x.classOv = e.classOv) ∧
    (n.mask.getLsbD 4 = true → StampBeats st e.attrsOv.stamp →
      x.attrsOv = ⟨if n.useTag = 0 then some n.attrs else none, some st⟩) ∧
    (n.mask.getLsbD 4 = false ∨ ¬ StampBeats st e.attrsOv.stamp → x.attrsOv = e.attrsOv) ∧
    x.vehicle = e.vehicle ∧ x.source = e.source ∧ x.tagClass = e.tagClass ∧ x.grades = e.grades ∧
    x.tagAttrs = e.tagAttrs ∧ x.touched = e.touched) ∧
  (∀ (c x : Carry) (m : Mark) (level hours sum : Nat), x = c.adopt m level hours →
    sum = min 4000000000000 ((c.list.filter fun i => decide (m.time < i.stop)).map Item.net).sum →
    ∃ l1 l2 l3 l4 : Level, x.levels = enforceLevels ⟨l1, l2, l3, l4⟩ ∧
      (∀ (j : Nat) (old new : Level), (j, old, new) ∈ [(1, c.levels.l1, l1), (2, c.levels.l2, l2),
          (3, c.levels.l3, l3), (4, c.levels.l4, l4)] →
        (j ≤ level → (∀ k, old.mark = some k → k.time < m.time ∨ (k.time = m.time ∧ (k.origin < m.origin ∨
            (k.origin = m.origin ∧ (k.epoch < m.epoch ∨ (k.epoch = m.epoch ∧ k.seq < m.seq)))))) →
          new = ⟨some m, hours, sum⟩) ∧
        ((level < j ∨ ∃ k, old.mark = some k ∧ (m.time < k.time ∨ (k.time = m.time ∧ (m.origin < k.origin ∨
            (k.origin = m.origin ∧ (m.epoch < k.epoch ∨ (k.epoch = m.epoch ∧ m.seq ≤ k.seq))))))) →
          new = old)))

/-- R82, R83: a CLASS NOTICE in range, accepted by the window from an origin on the authority list, with at
least one item written, replaces that class record alone and has its plan write served at once, queued, or
held back while one waits, one for each class (R150). R79, R82: an item that the mask names is written, with
the stamp, where the notice's stamp is newer than the item's, and else stands; where no item is, nothing is
written, and a notice out of range is counted not applied (R85). R84, R97: a class hold so set ends the live
delivery of a watched entry of that class. The frame comes whole, where one can begin
(the form: notes/assumptions/11). -/
def Obligations.ClassNoticeWritesClassRecord : Prop :=
  (∀ (gap : Bool) (frame : List Byte) (s : State) (f : SiteFrame) (p : Peer) (n : ClassNotice) (new : ClassRecord),
    s.listening = true → s.frameCanBegin gap → siteFrame .classNotice frame = some f →
    f.origin ≠ s.cfg.station → s.cfg.authority.contains f.origin = true →
    ((s.line.hear f s.elapsed).peer f.origin).bind (fun q => q.window f.seq) = some p →
    n = decodeClassNotice f.content → new = (s.classRecord n.cls).takeNotice ⟨n.stamp, f.origin⟩ n →
    (n.inRange = false → ∃ t, exec (.classNoticeFrame ⟨gap, frame⟩) s = .next t ∧
      t.fleet = { s.fleet with notApplied := min 65535 (s.fleet.notApplied + 1) } ∧
      Only [.line, .fleet, .notice] s t) ∧
    (n.inRange = true → new = s.classRecord n.cls → ∃ t, exec (.classNoticeFrame ⟨gap, frame⟩) s = .next t ∧
      Only [.line, .notice] s t) ∧
    (n.inRange = true → new ≠ s.classRecord n.cls → s.classes.records.length = 8 →
      (∀ h r e, s.reservation h = some r → r.watched = true → s.entry r.vehicle = some e →
        e.effectiveClass ≠ some n.cls) →
      ∃ t, exec (.classNoticeFrame ⟨gap, frame⟩) s = .next t ∧ t.classRecord n.cls = new ∧
        (∀ k, k ≠ n.cls → t.classRecord k = s.classRecord k) ∧
        (s.journal.inService = none → s.journal.queue = [] → s.classes.heldPlans = [] →
          t.journal = { s.journal with
            inService := some (.plan n.cls new), ringWritten := false, opTimer := some (s.elapsed + 100) } ∧
          t.classes.heldPlans = []) ∧
        (s.journal.inService.isSome = true → (∀ k r, .plan k r ∉ s.journal.queue) →
          t.journal = { s.journal with queue := s.journal.queue ++ [.plan n.cls new] } ∧
          t.classes.heldPlans = s.classes.heldPlans) ∧
        ((∃ k r, .plan k r ∈ s.journal.queue) → t.journal = s.journal ∧
          ((∀ r, (n.cls, r) ∉ s.classes.heldPlans) →
            t.classes.heldPlans = s.classes.heldPlans ++ [(n.cls, new)]) ∧
          ((∃ r, (n.cls, r) ∈ s.classes.heldPlans) →
            t.classes.heldPlans = s.classes.heldPlans.map fun p => if p.1 = n.cls then (n.cls, new) else p)) ∧
        Only [.line, .classes, .journal, .notice] s t) ∧
    (∀ (h : Side) (r : Reservation) (e : FleetEntry) (d : Delivery), n.inRange = true →
      s.classes.records.length = 8 → n.mask.getLsbD 6 = true → n.hold = 1 →
      StampBeats ⟨n.stamp, f.origin⟩ (s.classRecord n.cls).hold.stamp →
      (s.classRecord n.cls).hold.val ≠ .set → s.reservation h = some r → s.reservation h.other = none →
      r.watched = true → r.hold = false → s.entry r.vehicle = some e → e.effectiveClass = some n.cls →
      (s.hose h).state.open = true → (s.hose h).delivery = some d →
      ∃ t, exec (.classNoticeFrame ⟨gap, frame⟩) s = .next t ∧ (t.classRecord n.cls).hold = ⟨.set, some ⟨n.stamp, f.origin⟩⟩ ∧
        (t.hose h).state.open = false ∧ (t.hose h).reason = some (.ended .holdReceived) ∧
        OtherHoseKept h s t)) ∧
  (∀ (c x : ClassRecord) (st : Stamp) (n : ClassNotice), x = c.takeNotice st n →
    (n.mask.getLsbD 7 = true → StampBeats st c.allowance.stamp → x.allowance = ⟨n.allowance, some st⟩) ∧
    (n.mask.getLsbD 7 = false ∨ ¬ StampBeats st c.allowance.stamp → x.allowance = c.allowance) ∧
    (n.mask.getLsbD 6 = true → StampBeats st c.hold.stamp → x.hold.stamp = some st ∧
      (n.hold = 0 → x.hold.val = .none) ∧ (n.hold = 1 → x.hold.val = .set) ∧ (n.hold = 2 → x.hold.val = .cleared)) ∧
    (n.mask.getLsbD 6 = false ∨ ¬ StampBeats st c.hold.stamp → x.hold = c.hold) ∧
    (n.mask.getLsbD 5 = true → StampBeats st c.returnQty.stamp → x.returnQty = ⟨n.returnQty, some st⟩) ∧
    (n.mask.getLsbD 5 = false ∨ ¬ StampBeats st c.returnQty.stamp → x.returnQty = c.returnQty) ∧
    (n.mask.getLsbD 4 = true → StampBeats st c.burn.stamp → x.burn = ⟨n.burn, some st⟩) ∧
    (n.mask.getLsbD 4 = false ∨ ¬ StampBeats st c.burn.stamp → x.burn = c.burn) ∧
    (∀ (i : Nat) (old new : Stamped Plan) (v : Plan), (i, old, new, v) ∈
        [(3, c.plans.l1, x.plans.l1, n.plans.l1), (2, c.plans.l2, x.plans.l2, n.plans.l2),
          (1, c.plans.l3, x.plans.l3, n.plans.l3), (0, c.plans.l4, x.plans.l4, n.plans.l4)] →
      (n.mask.getLsbD i = true → StampBeats st old.stamp → new = ⟨v, some st⟩) ∧
      (n.mask.getLsbD i = false ∨ ¬ StampBeats st old.stamp → new = old)))

/-- R136, R137: a beacon of another station in LISTEN or RUN: a time at least 2 s ahead becomes site time, one
less than 2 s away leaves it, and either confirms it where the beacon's time is confirmed; an earlier one
does neither. R123, R139: a frame begun that the gap before the beacon ends is counted bad. The beacon comes whole,
where a frame can begin (the form: notes/assumptions/11). -/
def Obligations.BeaconMergesSiteTime : Prop :=
  ∀ (gap : Bool) (frame : List Byte) (s : State) (f : SiteFrame) (b : BeaconBody),
    s.listening = true → s.frameCanBegin gap → siteFrame .beacon frame = some f →
    f.origin ≠ s.cfg.station → b = decodeBeacon f.body →
    ∃ t, exec (.beaconFrame ⟨gap, frame⟩) s = .next t ∧
      (s.line.siteTime + 2 ≤ b.time → t.line.siteTime = b.time ∧
        t.line.confirmed = (s.line.confirmed || b.confirmed)) ∧
      (b.time < s.line.siteTime + 2 → s.line.siteTime < b.time + 2 →
        t.line.siteTime = s.line.siteTime ∧ t.line.confirmed = (s.line.confirmed || b.confirmed)) ∧
      (b.time + 2 ≤ s.line.siteTime → t.line.siteTime = s.line.siteTime ∧ t.line.confirmed = s.line.confirmed) ∧
      (∀ q ∈ t.line.peers, q.station = f.origin → q.live = true ∧ q.lastHeard = some s.elapsed ∧
        q.epoch = f.epoch ∧ q.unsent = some b.unsent) ∧
      t.line.queue = s.line.queue ∧ t.line.clash = s.line.clash ∧
      t.line.badCrc = (if s.line.receiveBuffer = [] then s.line.badCrc else min 65535 (s.line.badCrc + 1)) ∧
      Only [.line, .notice] s t

/-- R123, R139: where reception runs (LISTEN, RUN, CONFIG FAULT) and the station is not itself in SEND, bytes where
a frame can begin that do not begin with the start mark are skipped; a length above 128 ends the frame at once; a
receive gap before the last CRC byte ends it as truncated; a frame that so ends, or that is whole and fails its
checks, is dropped and counted, the count saturating. Once a frame has ended so, or bytes are skipped, every byte is
skipped up to the next receive gap. No byte has an effect in SEND, nor before reception begins. That a command
brings bytes and whether a gap stands before them, that those of a frame begun stand in the receive buffer and the
next bytes go on with them, and that a whole frame which passes its checks is taken by its own kind's command
alone, is the model's form (notes/assumptions/11, notes/assumptions/8). R133: an entry unheard for 30 s is STALE.
R131: a frame that bears this station's number is dropped in LISTEN and RUN, and raises the number clash count
where its epoch is another. -/
def Obligations.BadFramesAreCounted : Prop :=
  ∀ s : State,
    ((s.start.stage = .listen ∨ s.start.stage = .run ∨ s.start.stage = .configFault) → s.line.sender ≠ .send →
      (∀ bytes : List Byte,
        (s.line.skipping = false → s.line.receiveBuffer = [] →
          (∀ b rest, bytes = b :: rest → b ≠ 0x5A → ∃ t, exec (.badFrame ⟨false, bytes⟩) s = .next t ∧
            t.line = { s.line with skipping := true } ∧ Only [.line] s t) ∧
          (∀ len rest, bytes = 0x5A :: len :: rest → 128 < len.toNat →
            ∃ t, exec (.badFrame ⟨false, bytes⟩) s = .next t ∧
              t.line = { s.line with skipping := true, badCrc := min 65535 (s.line.badCrc + 1) } ∧
              Only [.line] s t) ∧
          (bytes = [0x5A] ∨ (∃ len rest, bytes = 0x5A :: len :: rest ∧ len.toNat ≤ 128 ∧
              rest.length < len.toNat + 4) →
            ∃ t, exec (.badFrame ⟨false, bytes⟩) s = .next t ∧ t.line = { s.line with receiveBuffer := bytes } ∧
              Only [.line] s t) ∧
          (∀ len rest skipped, bytes = 0x5A :: len :: (rest ++ skipped) → len.toNat ≤ 128 →
            rest.length = len.toNat + 4 →
            ∃ t, exec (.badFrame ⟨false, bytes⟩) s = .next t ∧ Only [.line] s t ∧
              ((∀ k, siteFrame k (0x5A :: len :: rest) = none) →
                t.line = { s.line with skipping := true, badCrc := min 65535 (s.line.badCrc + 1) }) ∧
              (∀ k f, siteFrame k (0x5A :: len :: rest) = some f → t.line = { s.line with skipping := true }))) ∧
        (s.line.skipping = false → ∀ s', s' = s.setLine { s.line with receiveBuffer := [] } →
          exec (.badFrame ⟨false, bytes⟩) s = exec (.badFrame ⟨false, s.line.receiveBuffer ++ bytes⟩) s' ∧
          exec (.issueFrame ⟨false, bytes⟩) s = exec (.issueFrame ⟨false, s.line.receiveBuffer ++ bytes⟩) s' ∧
          exec (.serviceFrame ⟨false, bytes⟩) s = exec (.serviceFrame ⟨false, s.line.receiveBuffer ++ bytes⟩) s' ∧
          exec (.vehicleNoticeFrame ⟨false, bytes⟩) s =
            exec (.vehicleNoticeFrame ⟨false, s.line.receiveBuffer ++ bytes⟩) s' ∧
          exec (.classNoticeFrame ⟨false, bytes⟩) s =
            exec (.classNoticeFrame ⟨false, s.line.receiveBuffer ++ bytes⟩) s' ∧
          exec (.beaconFrame ⟨false, bytes⟩) s = exec (.beaconFrame ⟨false, s.line.receiveBuffer ++ bytes⟩) s') ∧
        (s.line.skipping = true → ∀ c, c ∈ [Instr.badFrame ⟨false, bytes⟩, .issueFrame ⟨false, bytes⟩,
          .serviceFrame ⟨false, bytes⟩, .vehicleNoticeFrame ⟨false, bytes⟩, .classNoticeFrame ⟨false, bytes⟩,
          .beaconFrame ⟨false, bytes⟩] → exec c s = .next s)) ∧
      (∃ t, exec .receiveGap s = .next t ∧
        t.line = { s.line with
          receiveBuffer := [], skipping := false,
          badCrc := if s.line.receiveBuffer = [] then s.line.badCrc else min 65535 (s.line.badCrc + 1) } ∧
        Only [.line] s t)) ∧
    (∀ (bytes : List Byte) (g : State), exec .receiveGap s = .next g →
      exec (.badFrame ⟨true, bytes⟩) s = exec (.badFrame ⟨false, bytes⟩) g ∧
      exec (.issueFrame ⟨true, bytes⟩) s = exec (.issueFrame ⟨false, bytes⟩) g ∧
      exec (.serviceFrame ⟨true, bytes⟩) s = exec (.serviceFrame ⟨false, bytes⟩) g ∧
      exec (.vehicleNoticeFrame ⟨true, bytes⟩) s = exec (.vehicleNoticeFrame ⟨false, bytes⟩) g ∧
      exec (.classNoticeFrame ⟨true, bytes⟩) s = exec (.classNoticeFrame ⟨false, bytes⟩) g ∧
      exec (.beaconFrame ⟨true, bytes⟩) s = exec (.beaconFrame ⟨false, bytes⟩) g) ∧
    ((s.line.sender = .send ∨
        (s.start.stage ≠ .listen ∧ s.start.stage ≠ .run ∧ s.start.stage ≠ .configFault)) →
      ∀ (gap : Bool) (bytes : List Byte) (c : Instr), c ∈ [Instr.badFrame ⟨gap, bytes⟩, .issueFrame ⟨gap, bytes⟩,
        .serviceFrame ⟨gap, bytes⟩, .vehicleNoticeFrame ⟨gap, bytes⟩, .classNoticeFrame ⟨gap, bytes⟩,
        .beaconFrame ⟨gap, bytes⟩, .receiveGap] → exec c s = .next s) ∧
    (∀ station, ∃ t, exec (.peerStale station) s = .next t ∧
      t.line = { s.line with
        peers := s.line.peers.map fun p => if p.station = station then
          { p with live := p.live && (match p.lastHeard with
            | none => true
            | some x => decide (s.elapsed < x + 30000)) } else p } ∧
      Only [.line] s t) ∧
    (∀ (k : Kind) (gap : Bool) (frame : List Byte) (f : SiteFrame) (c : Instr), s.listening = true →
      s.frameCanBegin gap → siteFrame k frame = some f → f.origin = s.cfg.station →
      ((k = .issue ∧ c = .issueFrame ⟨gap, frame⟩) ∨ (k = .service ∧ c = .serviceFrame ⟨gap, frame⟩) ∨
        (k = .vehicleNotice ∧ c = .vehicleNoticeFrame ⟨gap, frame⟩) ∨
        (k = .classNotice ∧ c = .classNoticeFrame ⟨gap, frame⟩) ∨ (k = .beacon ∧ c = .beaconFrame ⟨gap, frame⟩)) →
      ∃ t, exec c s = .next t ∧
        t.line = { s.line with
          receiveBuffer := [], skipping := true,
          badCrc := if s.line.receiveBuffer = [] then s.line.badCrc else min 65535 (s.line.badCrc + 1),
          clash := if f.epoch = s.journal.header.epoch then s.line.clash else min 65535 (s.line.clash + 1) } ∧
        Only [.line] s t)

/-- R134: the window accepts no sequence twice: a sequence just accepted is refused, one that is refused stays
refused after any further acceptances, whatever their order, and none lowers H. Every step of the machine
keeps it so: an origin's entry that refuses a sequence refuses it after the step, while the entry stands with
its epoch. -/
def Obligations.WindowAcceptsOnce : Prop :=
  (∀ (p q : Peer) (seq : Nat), p.window seq = some q →
    q.window seq = none ∧ (∃ high, q.high = some high ∧ seq ≤ high ∧ ∀ old, p.high = some old → old ≤ high)) ∧
  (∀ (p q : Peer) (seq later : Nat), p.window seq = none → p.window later = some q → q.window seq = none) ∧
  (∀ (p q r : Peer) (seq : Nat) (later : List Nat), p.window seq = some q →
    later.foldlM (fun p n => p.window n) q = some r → r.window seq = none) ∧
  (∀ (s t : State) (station seq : Nat) (p q : Peer), step s = .next t → s.line.peer station = some p →
    p.window seq = none → t.line.peer station = some q → q.epoch = p.epoch → q.window seq = none)

/-! ### The sender of the site line -/

/-- R126: carrier takes BACKOFF back to DEFER with k kept, and changes nothing elsewhere; the guard time in
DEFER leads to BACKOFF, or to SEND at once where k is 0, drawing k below W only where it is absent. R126,
R130: a slot counted in BACKOFF lowers k by 1; at 0 SEND is entered with the current frame, a beacon formed
from the values now held. R127, R128: a collision in SEND raises the attempt count and doubles W up to 512;
the eighth enters CONGESTED with the congestion timer and the frame parked, any other DEFER with k absent (that k
stays as it stands in CONGESTED is the model's choice, notes/assumptions/48). R123: with SEND the receiver skips up
to the first receive gap after it, no byte read back in SEND being handed to reception (notes/assumptions/11). -/
def Obligations.BackoffAndCollision : Prop :=
  (∀ s : State,
    (∃ t, exec .carrier s = .next t ∧
      t.line = { s.line with sender := if s.line.sender = .backoff then .defer else s.line.sender } ∧
      Only [.line] s t) ∧
    (s.line.sender = .defer → ∀ k, s.line.k = some k → ∃ t, exec .guardTimePassed s = .next t ∧
      t.line.k = some k ∧ t.line.sender = (if k = 0 then .send else .backoff) ∧
      t.line.skipping = (s.line.skipping || decide (k = 0)) ∧ t.line.receiveBuffer = s.line.receiveBuffer ∧
      t.line.window = s.line.window ∧ t.line.current = s.line.current ∧ t.line.queue = s.line.queue ∧
      t.line.attempts = s.line.attempts ∧ Only [.line] s t) ∧
    (s.line.sender = .defer → s.line.k = none → 0 < s.line.window → ∃ t k, exec .guardTimePassed s = .next t ∧
      k < s.line.window ∧ t.line.k = some k ∧ t.line.sender = (if k = 0 then .send else .backoff) ∧
      t.line.skipping = (s.line.skipping || decide (k = 0)) ∧ t.line.receiveBuffer = s.line.receiveBuffer ∧
      t.line.window = s.line.window ∧ t.line.current = s.line.current ∧ t.line.queue = s.line.queue ∧
      t.line.attempts = s.line.attempts ∧ t.draws = s.draws + 1 ∧ Only [.line, .draws] s t)) ∧
  (∀ (s : State) (k : Nat), s.line.sender = .backoff → s.line.k = some k →
    ∃ t, exec .slotCounted s = .next t ∧ t.line.k = some (k - 1) ∧
      (1 < k → t.line = { s.line with k := some (k - 1) }) ∧
      (k ≤ 1 → t.line = { s.line with
        k := some 0, sender := .send, sending := t.line.sending, skipping := true } ∧
        (s.line.current = some .beacon → t.line.sending = frameOf 5 s.cfg.station s.beaconBody) ∧
        (∀ r rest, s.line.current = some .record → s.line.queue = r :: rest →
          t.line.sending = frameOf r.kind s.cfg.station r.body)) ∧
      Only [.line] s t) ∧
  (∀ s : State, s.line.sender = .send → ∃ t, exec .readBackCollision s = .next t ∧
    t.line = { s.line with
      attempts := s.line.attempts + 1, window := min (2 * s.line.window) 512, sending := [],
      sender := if s.line.attempts + 1 = 8 then .congested else .defer,
      k := if s.line.attempts + 1 = 8 then s.line.k else none,
      congestion := if s.line.attempts + 1 = 8 then some (s.elapsed + 10000) else s.line.congestion } ∧
    Only [.line] s t)

/-- R125, R128, R129, R130: each choice of the sender, made after a clean end, a congestion's end, or a beacon
falling due in IDLE while not held: a due beacon first, else the record at the head of the queue where a
peer is LIVE, else IDLE; a chosen frame has no attempts, W = clamp(4 · (live + 1), 4, 128), DEFER and no k. -/
def Obligations.SenderChooses : Prop :=
  ∀ (s : State) (c : Instr) (due : Bool) (queue : List SendRecord),
    ((c = .congestionExpiry ∧ s.line.sender = .congested ∧ due = s.line.beaconDue ∧ queue = s.line.queue) ∨
      (c = .beaconTimerExpiry ∧ s.line.sender = .idle ∧ s.line.held = false ∧ s.line.beaconTimer.isSome = true ∧
        due = true ∧ queue = s.line.queue) ∨
      (c = .cleanReadBack ∧ s.line.sender = .send ∧ s.line.current = some .beacon ∧ due = false ∧
        queue = s.line.queue) ∨
      (c = .cleanReadBack ∧ s.line.sender = .send ∧ s.line.current = some .record ∧ due = s.line.beaconDue ∧
        queue = s.line.queue.drop 1)) →
    ∃ t, exec c s = .next t ∧
      t.line.beaconDue = due ∧ t.line.queue = queue ∧
      (due = true → t.line.current = some .beacon) ∧
      (due = false → queue ≠ [] → 1 ≤ s.line.liveCount → t.line.current = some .record) ∧
      (due = false → (queue = [] ∨ s.line.liveCount = 0) → t.line.current = none ∧ t.line.sender = .idle) ∧
      (t.line.current ≠ none → t.line.sender = .defer ∧ t.line.attempts = 0 ∧ t.line.k = none ∧
        t.line.window = max 4 (min 128 (4 * (s.line.liveCount + 1)))) ∧
      t.line.peers = s.line.peers ∧ t.line.siteTime = s.line.siteTime ∧ Only (touched c) s t

/-! ### The journal unit -/

/-- R129, R153: a record sent cleanly leaves the send queue and becomes SENT: the send mark advances by one,
sent since save rises by 1, and the sixteenth saves the mark's serial in the header and requests a header
write (where no record is UNSENT after it, that serial is next serial: the model's choice,
notes/assumptions/49). -/
def Obligations.SentRecordAdvancesMark : Prop :=
  ∀ (s : State), s.line.sender = .send → s.line.current = some .record → 0 < s.journal.unsent →
    s.journal.loadHold = none → s.journal.pendingRecoveries = [] → s.journal.inService.isSome = true →
    s.journal.operations.any MemOp.isSendRead = true →
    ∃ t, exec .cleanReadBack s = .next t ∧ t.line.queue = s.line.queue.drop 1 ∧
      t.journal.sent = s.journal.sent + 1 ∧ t.journal.unsent = s.journal.unsent - 1 ∧
      t.journal.tail = s.journal.tail ∧ t.journal.nextSerial = s.journal.nextSerial ∧
      (s.journal.sentSinceSave + 1 ≠ 16 → t.journal.sentSinceSave = s.journal.sentSinceSave + 1 ∧
        t.journal.header = s.journal.header ∧ t.journal.queue = s.journal.queue) ∧
      (s.journal.sentSinceSave + 1 = 16 → t.journal.sentSinceSave = 0 ∧
        t.journal.header = { s.journal.header with savedMark := s.journal.nextSerial - (s.journal.unsent - 1) } ∧
        t.journal.queue.any MemOp.isHeader = true) ∧
      Only [.line, .journal] s t

/-- R147, R148: the two writes of an ISSUE append: the ring slot first, which leaves every byte outside it as it
was and holds the record under its serial; then the CLEAR of the open slot, whose completion ends the append
and its claim. -/
def Obligations.IssueAppendWritesSlotThenClears : Prop :=
  ∀ (s : State) (src : AppendSource) (pos serial : Nat) (r : IssueRecord), s.memoryOk →
    s.journal.inService = some (.append src pos serial (.issue r)) →
    (s.journal.ringWritten = false → ∃ t, exec .ringSlotWritten s = .next t ∧
      memReadBytes t.mem (1280 + 128 * pos) 128 = encodeSlot serial (.issue r) ∧
      SameOutside (1280 + 128 * pos) 128 s.mem t.mem ∧
      t.journal = { s.journal with ringWritten := true, opTimer := some (s.elapsed + 100) } ∧
      Only [.mem, .journal] s t) ∧
    (s.journal.ringWritten = true → src = .hose → s.journal.queue = [] → (s.hose r.hose).state = .recording →
      (s.line.queue.length < 4 → s.journal.unsentAt s.cfg.nj s.journal.nextToLoad = false) →
      ∃ t, exec .appendComplete s = .next t ∧
      memReadBytes t.mem (openAddress r.hose) 128 = encodeOpen .clear ∧
      SameOutside (openAddress r.hose) 128 s.mem t.mem ∧
      t.journal.openImages.get r.hose = .clear ∧ t.journal.claims = s.journal.claims - 1 ∧
      t.journal.inService = none ∧ (t.hose r.hose).delivery = none ∧
      (t.hose r.hose).state = (if (s.hose r.hose).hook = .hung then .idle else .unarmed) ∧
      t.hose r.hose.other = s.hose r.hose.other ∧ Only [.mem, .journal, .hoses, .notice] s t)

/-- R149, R83, R150, R154, R157, 12.5: an open-slot write, a CLEAR write of the start scan, a plan write and a
header write that complete put the bytes of their structure at its place, leave every other byte of the memory
as it was, and end the operation in service; the open slot image follows. R178, R179: the header write that a
start scan waits for (of a formatting or an epoch advance) ends JOURNAL SCAN in LISTEN, with site time placed at
the time the scan found, or the value held where that is later (R137), and the totalizers restored (R26); that
the stage waits for it is the model's form, notes/assumptions/14. R188: the COUNTS timer starts at that entry where the
port is enabled; that it stands as it is elsewhere is the model's choice, notes/assumptions/42. -/
def Obligations.WriteCompletionsStore : Prop :=
  (∀ (s : State), s.memoryOk → s.journal.queue = [] → (s.line.queue.length < 4 →
      s.journal.unsentAt s.cfg.nj s.journal.nextToLoad = false) →
    (∀ h img, (s.journal.inService = some (.progress h img) ∨ s.journal.inService = some (.final h img)) →
      ∃ t i, exec .openSlotWriteComplete s = .next t ∧
        i = (if s.journal.inService = some (.progress h img) then OpenImage.opened img else .final img) ∧
        memReadBytes t.mem (openAddress h) 128 = encodeOpen i ∧ SameOutside (openAddress h) 128 s.mem t.mem ∧
        t.journal.openImages = s.journal.openImages.set h i ∧ t.journal.inService = none ∧
        Only [.mem, .journal] s t) ∧
    (∀ h, s.journal.inService = some (.clearSlot h) →
      ∃ t, exec .openSlotWriteComplete s = .next t ∧
        memReadBytes t.mem (openAddress h) 128 = encodeOpen .clear ∧
        SameOutside (openAddress h) 128 s.mem t.mem ∧
        t.journal.openImages = s.journal.openImages.set h .clear ∧ t.journal.inService = none ∧
        Only [.mem, .journal] s t) ∧
    (∀ k r, s.journal.inService = some (.plan k r) → ∃ t, exec .planWriteComplete s = .next t ∧
      memReadBytes t.mem (256 + 64 * k) 64 = encodePlan r ∧ SameOutside (256 + 64 * k) 64 s.mem t.mem ∧
      t.journal.inService = none ∧ Only [.mem, .journal] s t) ∧
    (∀ img, s.journal.inService = some (.header (some img)) → ∃ t, exec .headerWriteComplete s = .next t ∧
      memReadBytes t.mem 768 14 = encodeHeader img ∧ SameOutside 768 14 s.mem t.mem ∧
      t.journal.inService = none ∧
      (s.start.scanEnd = none → Only [.mem, .journal] s t) ∧
      (∀ e, s.start.stage = .journalScan → s.start.scanEnd = some e →
        t.start = { s.start with
          stage := .listen, listenTimer := some (s.elapsed + 30000), scanEnd := none } ∧
        t.line = { s.line with
          siteTime := max e.time s.line.siteTime, confirmed := false, running := true } ∧
        (∀ h, t.hose h = { s.hose h with totalizer := e.totals.get h }) ∧
        t.notice = { s.notice with
          countsTimer := if s.cfg.noticeEnable then some (s.elapsed + 10000) else s.notice.countsTimer } ∧
        Only [.mem, .journal, .start, .line, .hoses, .notice] s t))) ∧
  (∀ (s : State) (h : Side) (op : MemOp) (rest : List MemOp), s.memoryOk →
    s.journal.inService = some (.clearSlot h) → s.journal.queue = op :: rest → (∀ k r, op ≠ .plan k r) →
    s.journal.unsent = 0 → ∃ t, exec .openSlotWriteComplete s = .next t ∧
      memReadBytes t.mem (openAddress h) 128 = encodeOpen .clear ∧ SameOutside (openAddress h) 128 s.mem t.mem ∧
      t.journal = { s.journal with
        openImages := s.journal.openImages.set h .clear, queue := rest, ringWritten := false,
        opTimer := some (s.elapsed + 100),
        inService := some (match op with
          | .header _ => .header (some s.journal.header)
          | op => op) } ∧
      Only [.mem, .journal] s t) ∧
  (∀ (s : State) (img : Header) (e : ScanEnd) (op : MemOp) (rest : List MemOp), s.memoryOk →
    s.journal.inService = some (.header (some img)) → s.journal.queue = op :: rest →
    (op :: rest).any MemOp.isHeader = false → (∀ k r, op ≠ .plan k r) →
    s.start.stage = .journalScan → s.start.scanEnd = some e → ∃ t, exec .headerWriteComplete s = .next t ∧
      memReadBytes t.mem 768 14 = encodeHeader img ∧ SameOutside 768 14 s.mem t.mem ∧
      t.start = { s.start with stage := .listen, listenTimer := some (s.elapsed + 30000), scanEnd := none } ∧
      t.line = { s.line with siteTime := max e.time s.line.siteTime, confirmed := false, running := true } ∧
      (∀ h, t.hose h = { s.hose h with totalizer := e.totals.get h }) ∧
      t.journal.inService = some op ∧ t.journal.opTimer = some (s.elapsed + 100) ∧
      t.journal.header = s.journal.header ∧ t.journal.openImages = s.journal.openImages ∧
      Only [.mem, .journal, .start, .line, .hoses, .notice] s t)

/-- R152: a send read that finds the record of the expected serial puts it at the back of the send queue, and
next to load advances; an unreadable slot, found (its check value wrong or its serial another) or failed
(R151), sets load hold on its position, and where the send mark stands there it is passed over: the mark
advances, load hold clears and next to load is the new mark (R153). A further send read is requested while the
conditions hold. R151: a failed write is repeated at once, in service, with its 100 ms anew; R175: a failed
read of the configuration area is counted, and the third ends CONFIG in CONFIG FAULT with READ FAILED (that
these commands count one read each is the model's form, notes/assumptions/26). -/
def Obligations.SendReadsAndFailures : Prop :=
  (∀ (s : State) (pos : Nat) (outside m : List Host.Cell) (c : Instr), s.journal.inService = some (.sendRead pos) →
    s.journal.queue = [] → s.line.sender ≠ .idle → pos < s.cfg.nj → cellsInMemory outside = true →
    (∀ (x : RingSlot) (next : Nat), m = memSetCells s.mem outside →
      decodeSlot (memReadBytes m (1280 + 128 * pos) 128) = some x →
      x.serial = s.journal.expectedSerial s.cfg.nj pos → next = (pos + 1) % s.cfg.nj →
      ∃ t, exec (.sendReadComplete outside) s = .next t ∧ t.mem = m ∧
        t.line = { s.line with queue := s.line.queue ++ [⟨pos, x.kind, x.body⟩] } ∧
        (3 ≤ s.line.queue.length ∨ s.journal.loadHold ≠ none ∨ s.journal.unsentAt s.cfg.nj next = false →
          t.journal = { s.journal with
            nextToLoad := next, inService := none, ringWritten := false, opTimer := none }) ∧
        (s.line.queue.length < 3 → s.journal.loadHold = none → s.journal.unsentAt s.cfg.nj next = true →
          t.journal = { s.journal with
            nextToLoad := next, inService := some (.sendRead next), ringWritten := false,
            opTimer := some (s.elapsed + 100) }) ∧
        Only [.mem, .line, .journal] s t) ∧
    (((c = .sendReadComplete outside ∧ m = memSetCells s.mem outside ∧
        (∀ x, decodeSlot (memReadBytes m (1280 + 128 * pos) 128) = some x →
          x.serial ≠ s.journal.expectedSerial s.cfg.nj pos)) ∨
        (s.start.stage ≠ .config ∧ m = s.mem ∧ (c = .memoryOpFailed ∨ c = .memoryOpTimeout))) →
      (s.journal.sendMark s.cfg.nj ≠ pos → ∃ t, exec c s = .next t ∧ t.mem = m ∧
        t.journal = { s.journal with
          loadHold := some pos, inService := none, ringWritten := false, opTimer := none } ∧
        Only [.mem, .journal] s t) ∧
      (s.journal.sendMark s.cfg.nj = pos → 0 < s.journal.unsent → s.journal.sentSinceSave + 1 ≠ 16 →
        s.journal.pendingRecoveries = [] → s.journal.sent + s.journal.unsent ≤ s.cfg.nj →
        ∃ t, exec c s = .next t ∧ t.mem = m ∧
          t.journal.sent = s.journal.sent + 1 ∧ t.journal.unsent = s.journal.unsent - 1 ∧
          t.journal.sentSinceSave = s.journal.sentSinceSave + 1 ∧ t.journal.loadHold = none ∧
          t.journal.nextToLoad = (pos + 1) % s.cfg.nj ∧ t.journal.tail = s.journal.tail ∧
          t.journal.header = s.journal.header ∧ t.journal.claims = s.journal.claims ∧
          t.journal.inService = (if 1 < s.journal.unsent ∧ s.line.queue.length < 4 then
            some (.sendRead ((pos + 1) % s.cfg.nj)) else none) ∧
          Only [.mem, .journal] s t))) ∧
  (∀ (s : State) (c : Instr), (c = .memoryOpFailed ∨ c = .memoryOpTimeout) →
    (∀ op, s.start.stage ≠ .config → s.journal.inService = some op → op.isSendRead = false →
      ∃ t, exec c s = .next t ∧ t.journal = { s.journal with opTimer := some (s.elapsed + 100) } ∧
        Only [.journal] s t) ∧
    (s.start.stage = .config → s.start.recordGood = false → s.start.failedReads < 2 →
      ∃ t, exec c s = .next t ∧ t.start = { s.start with failedReads := s.start.failedReads + 1 } ∧
        Only [.start] s t) ∧
    (s.start.stage = .config → s.start.recordGood = false → s.start.failedReads = 2 →
      ∃ t, exec c s = .next t ∧ t.start.stage = .configFault ∧ t.start.fault = some .readFailed ∧
        Only [.start, .line] s t))

/-! ### The converter scan unit and the tank units -/

/-- R161, R162: an expiry of the scan timer starts a scan: the timer restarts with 1 s and the first list entry
is requested, or with an empty list the scan ends at once; R163, R164: a timeout ends the scan, and the
third failing scan in a row enters FAILED with the timer stopped. R169: a hose in AUTHORISED, FLOWING or
SLOWING whose tank's stock is UNKNOWN is flagged STOCK UNKNOWN by the test that is made each second while
the scan unit is FAILED. -/
def Obligations.ScanTimerTimeoutAndTest : Prop :=
  (∀ s : State,
    (s.scan.timer.isSome = true → (∀ h, (s.hose h).state.open = false) →
      ∃ t, exec .scanTimerExpiry s = .next t ∧
        (∀ e rest, s.scan.list = e :: rest → t.scan = { s.scan with
          timer := some (s.elapsed + 1000), timedOut := false, state := .running, current := some 0,
          sentNumber := s.scan.nextNumber, nextNumber := s.scan.nextNumber + 1,
          window := some (s.elapsed + s.cfg.responseWindow) }) ∧
        (s.scan.list = [] → t.scan = { s.scan with
          timer := some (s.elapsed + 1000), timedOut := false, state := .waiting, current := none,
          window := none, timeouts := 0 }) ∧
        Only [.scan] s t) ∧
    (s.scan.state = .running → s.scan.window.isSome = true → ∃ t, exec .converterWindowExpiry s = .next t ∧
      t.scan = { s.scan with
        timedOut := true, current := none, window := none, timeouts := s.scan.timeouts + 1,
        state := if 3 ≤ s.scan.timeouts + 1 then .failed else .waiting,
        timer := if 3 ≤ s.scan.timeouts + 1 then none else s.scan.timer } ∧
      Only [.scan] s t)) ∧
  (∀ (s : State), s.scan.state = .failed → ∃ t, exec .failedStockTest s = .next t ∧
    (∀ h d, (s.hose h).delivery = some d → (s.hose h).state.open = true →
      s.stockKnown (s.hoseCfg h).tank = false →
      t.hose h = { s.hose h with delivery := some { d with flags := { d.flags with stockUnknown := true } } }) ∧
    (∀ h, ((s.hose h).delivery = none ∨ (s.hose h).state.open = false ∨
      s.stockKnown (s.hoseCfg h).tank = true) → t.hose h = s.hose h) ∧
    Only [.hoses] s t)

/-- R162, R165, R167, R168: a good response to the last list entry, a TANK LEVEL: the sample holds the code, the
level floor(code · span / 4,095) and the time, the tank its stock by the strapping table, and the scan ends
with no timeout; with the stock above the cut-off no delivery ends. A response with another number or
channel has no effect. R165: a METER TEMP code gives floor(code · 2,000 / 4,095) − 500 tenths, clamped to
−200..700, where it then is out of range. R169, R17, R18: a stock at or below the cut-off ends a delivery in
AUTHORISED, FLOWING or SLOWING at each fitted hose that names the tank with TANK CUT-OFF. -/
def Obligations.TankLevelIsSampled : Prop :=
  (∀ (s : State) (pos : Nat) (e : ScanEntry) (k : Side) (code : BitVec 12) (level : Nat) (x : Sample),
    s.scan.state = .running → s.scan.current = some pos → s.scan.window.isSome = true →
    s.scan.list[pos]? = some e → e.purpose = .tankLevel k → pos + 1 = s.scan.list.length →
    s.scan.samples[pos]? = some x → x.purpose = e.purpose →
    level = code.toNat * (s.tankCfg k).span / 4095 → (s.tankCfg k).cutOff < stockOf (s.tankCfg k).points level →
    (∃ t, exec (.converterResponse s.scan.sentNumber e.channel code) s = .next t ∧
      t.scan.samples[pos]? = some { x with
        code := some code, value := some (level : Int), lastGood := some s.elapsed } ∧
      t.scan.state = .waiting ∧ t.scan.current = none ∧ t.scan.window = none ∧ t.scan.timeouts = 0 ∧
      t.scan.list = s.scan.list ∧ (∀ i, i ≠ pos → t.scan.samples[i]? = s.scan.samples[i]?) ∧
      t.tanks.get k = ⟨some (stockOf (s.tankCfg k).points level)⟩ ∧ t.tanks.get k.other = s.tanks.get k.other ∧
      Only [.scan, .tanks] s t) ∧
    (∀ number channel, (number ≠ s.scan.sentNumber ∨ channel ≠ e.channel) →
      exec (.converterResponse number channel code) s = .next s)) ∧
  (∀ (s : State) (pos : Nat) (e : ScanEntry) (k : Side) (code : BitVec 12) (raw : Int) (x : Sample),
    s.scan.state = .running → s.scan.current = some pos → s.scan.window.isSome = true →
    s.scan.list[pos]? = some e → e.purpose = .meterTemp k → s.scan.samples[pos]? = some x →
    x.purpose = e.purpose → raw = ((code.toNat * 2000 / 4095 : Nat) : Int) - 500 →
    ∃ t, exec (.converterResponse s.scan.sentNumber e.channel code) s = .next t ∧
      t.scan.samples[pos]? = some { x with
        code := some code, value := some (max (-200) (min 700 raw)),
        outOfRange := decide (raw < -200 ∨ 700 < raw), lastGood := some s.elapsed } ∧
      (∀ i, i ≠ pos → t.scan.samples[i]? = s.scan.samples[i]?) ∧
      (pos + 1 < s.scan.list.length → t.scan.state = .running ∧ t.scan.current = some (pos + 1) ∧
        t.scan.sentNumber = s.scan.nextNumber ∧ t.scan.nextNumber = s.scan.nextNumber + 1 ∧
        t.scan.window = some (s.elapsed + s.cfg.responseWindow)) ∧
      (pos + 1 = s.scan.list.length → t.scan.state = .waiting ∧ t.scan.current = none ∧ t.scan.window = none ∧
        t.scan.timeouts = 0) ∧
      Only [.scan] s t) ∧
  (∀ (s : State) (pos : Nat) (e : ScanEntry) (k h : Side) (code : BitVec 12) (level : Nat) (d : Delivery),
    s.scan.state = .running → s.scan.current = some pos → s.scan.window.isSome = true →
    s.scan.list[pos]? = some e → e.purpose = .tankLevel k →
    level = code.toNat * (s.tankCfg k).span / 4095 → stockOf (s.tankCfg k).points level ≤ (s.tankCfg k).cutOff →
    (s.hoseCfg h).tank = k → s.unfitted h = false → (s.hose h).state.open = true →
    (s.hose h).delivery = some d →
    ∃ t, exec (.converterResponse s.scan.sentNumber e.channel code) s = .next t ∧
      t.tanks.get k = ⟨some (stockOf (s.tankCfg k).points level)⟩ ∧
      (0 < (s.meter h).gross ∨ 1 ≤ d.steps → t.hose h = { s.hose h with
        state := .closing, stage := .closed, pump := false,
        delivery := some { d with endReason := some .tankCutOff, endTime := some s.line.siteTime },
        reason := some (.ended .tankCutOff), noFlow := none, stall := none, tagLoss := none,
        settle := some (s.elapsed + 3000),
        tagAbsent := (s.hose h).tagAbsent || !(s.tag h).lastAnswered }) ∧
      ((s.meter h).gross = 0 → d.steps = 0 → t.hose h = { s.hose h with
        state := if (s.hose h).hook = .hung then .idle else .unarmed, stage := .closed, pump := false,
        delivery := none, standIn := none, reason := some (.ended .tankCutOff), noFlow := none, stall := none,
        tagLoss := none, tagAbsent := (s.hose h).tagAbsent || !(s.tag h).lastAnswered } ∧
        t.reservation h = none) ∧
      ((s.hoseCfg h.other).tank ≠ k → OtherHoseKept h s t) ∧
      Only [.scan, .tanks, .hoses, .tags, .reservations, .journal, .notice] s t)

/-! ### The panel port -/

/-- R182: an update request from the end of HOLD on is answered at once with one status frame of the values
held, or waits in the latch while a frame is being sent, to be answered when that frame ends. -/
def Obligations.StatusFrameIsAnswered : Prop :=
  ∀ s : State,
    (s.start.stage ≠ .hold → ∃ t, exec .updateRequest s = .next t ∧
      (s.panel.frame = none → t.panel = { s.panel with latch := false, frame := some s.statusFrame }) ∧
      (∀ f, s.panel.frame = some f → t.panel = { s.panel with latch := true }) ∧ Only [.panel] s t) ∧
    (∃ t, exec .statusFrameEnd s = .next t ∧
      (s.panel.latch = true → t.panel = { s.panel with latch := false, frame := some s.statusFrame }) ∧
      (s.panel.latch = false → t.panel = { s.panel with frame := none }) ∧ Only [.panel] s t) ∧
    s.statusFrame.length = 50

/-! ### The notice port -/

/-- R123, R184, R185: where the bytes that arrive make a frame, a VEHICLE NOTICE, CLASS NOTICE or SERVICE submission
that passes the tests is in hand, takes the next origin sequence, and its append is given the slot at the head, the
oldest SENT slot where none is FREE, and the next serial, and enters the request queue at the back, or service where
the journal unit is idle (R148, R150); no reply is made yet. R144: after the sequence 16,777,215 the epoch advances,
and a header write is requested ahead of the append where none waits. That the bytes of one command stand between
two gaps and so make the frame is the model's form (notes/assumptions/11), that the frame taken stands in the input
buffer the model's choice (notes/assumptions/52); tail and sizes stand for the ring positions
(notes/assumptions/16). -/
def Obligations.SubmissionIsAccepted : Prop :=
  ∀ (s : State) (bytes frame body : List Byte) (c : Instr) (x : Submission) (append : MemOp) (j : Journal)
    (ahead : List MemOp),
    s.takesSubmission = true → frameTaken bytes = some frame →
    ((c = .submitVehicleNotice bytes ∧ submissionBody .vehicleNotice frame = some body ∧
        x = vehicleSubmission s.line.siteTime body) ∨
      (c = .submitClassNotice bytes ∧ submissionBody .classNotice frame = some body ∧
        x = classSubmission s.line.siteTime body) ∨
      (c = .submitService bytes ∧ submissionBody .service frame = some body ∧
        x = serviceSubmission s.line.siteTime body)) →
    s.cfg.authority.contains s.cfg.station = true → x.inRange s.line.siteTime = true →
    s.journal.claimAvailable s.cfg.nj = true → s.journal.nextSeq ≤ 16777215 →
    append = .append .notice (s.journal.head s.cfg.nj) s.journal.nextSerial
      (x.record s.journal.header.epoch s.journal.nextSeq) →
    j = { s.journal with
      tail := if 0 < s.journal.free s.cfg.nj then s.journal.tail else (s.journal.tail + 1) % s.cfg.nj,
      sent := if 0 < s.journal.free s.cfg.nj then s.journal.sent else s.journal.sent - 1,
      unsent := s.journal.unsent + 1, nextSerial := s.journal.nextSerial + 1,
      nextSeq := if s.journal.nextSeq = 16777215 then 1 else s.journal.nextSeq + 1,
      header := if s.journal.nextSeq = 16777215 then
          { s.journal.header with epoch := if s.journal.header.epoch = 65535 then 1 else s.journal.header.epoch + 1 }
        else s.journal.header } →
    ahead = (if s.journal.nextSeq = 16777215 ∧ s.journal.queue.any MemOp.isHeader = false then [.header none] else []) →
    (s.journal.inService.isSome = true → ∃ t, exec c s = .next t ∧
      t.notice = { s.notice with inHand := true, inputBuffer := frame } ∧
      t.journal = { j with queue := s.journal.queue ++ ahead ++ [append] } ∧ Only [.notice, .journal] s t) ∧
    (s.journal.inService = none → s.journal.queue = [] → ∃ t, exec c s = .next t ∧
      t.notice = { s.notice with inHand := true, inputBuffer := frame } ∧
      t.journal = { j with
        inService := some (if s.journal.nextSeq = 16777215 then .header (some j.header) else append),
        queue := if s.journal.nextSeq = 16777215 then [append] else [], ringWritten := false,
        opTimer := some (s.elapsed + 100) } ∧ Only [.notice, .journal] s t)

/-- R123, R184: how bytes at the notice port make a frame: without the start mark at their head they are skipped
and have no effect; one is taken with its last CRC byte, whatever stands behind it, with a length above 128, or
truncated by the receive gap (that the bytes of one command stand between two gaps is the model's form,
notes/assumptions/11). R184: a submission that fails a test is refused with the reason of the first that fails,
and leaves the journal, the fleet table and the class table as they were: MALFORMED for a frame that is
truncated, fails its CRC or is not of the kind and length of a submission, or a notice with an empty mask; for a
VEHICLE NOTICE, a CLASS NOTICE and a SERVICE, NOT AUTHORISED, OUT OF RANGE, JOURNAL FULL in that order; for a SET
TIME, OUT OF RANGE where its time is earlier than site time. One that arrives while the port does not take it is
discarded. The reply goes at once, or next where a monitor item is on the line (R187). That a frame which passes
test 1 as another kind's submission has no effect here, and belongs to its own kind's command, is the model's choice
(notes/assumptions/8), and so is that the frame taken, one cut at its length included, stands in the input buffer
(notes/assumptions/52). -/
def Obligations.SubmissionIsRefused : Prop :=
  (∀ bytes : List Byte,
    (bytes.head? ≠ some 0x5A → frameTaken bytes = none) ∧
    (∀ len rest, bytes = 0x5A :: len :: rest → 128 < len.toNat → frameTaken bytes = some [0x5A, len]) ∧
    (∀ len rest, bytes = 0x5A :: len :: rest → len.toNat ≤ 128 → rest.length < len.toNat + 4 →
      frameTaken bytes = some bytes) ∧
    (bytes = [0x5A] → frameTaken bytes = some bytes) ∧
    (∀ len rest skipped, bytes = 0x5A :: len :: (rest ++ skipped) → len.toNat ≤ 128 →
      rest.length = len.toNat + 4 → frameTaken bytes = some (0x5A :: len :: rest)) ∧
    (∀ frame k, frame.length < 6 + (frame.getD 1 0).toNat → submissionBody k frame = none)) ∧
  ∀ (s : State) (bytes : List Byte),
    (frameTaken bytes = none → ∀ c, c ∈ [Instr.submitService bytes, .submitVehicleNotice bytes,
      .submitClassNotice bytes, .setTime bytes, .malformedSubmission bytes] → exec c s = .next s) ∧
    (∀ frame, s.takesSubmission = true → frameTaken bytes = some frame →
      (∀ k, submissionBody k frame = none) → ∀ c, c ∈ [Instr.submitService bytes, .submitVehicleNotice bytes,
        .submitClassNotice bytes, .setTime bytes, .malformedSubmission bytes] →
      ∃ t, exec c s = .next t ∧
        t.notice.inHand = true ∧ t.notice.inputBuffer = frame ∧ ReplyGiven s t (replyFrame (some .malformed)) ∧
        t.notice.monitor = s.notice.monitor ∧ Only [.notice] s t) ∧
    (∀ frame k body, frameTaken bytes = some frame → submissionBody k frame = some body →
      exec (.malformedSubmission bytes) s = .next s ∧
      (k ≠ .service → exec (.submitService bytes) s = .next s) ∧
      (k ≠ .vehicleNotice → exec (.submitVehicleNotice bytes) s = .next s) ∧
      (k ≠ .classNotice → exec (.submitClassNotice bytes) s = .next s) ∧
      (k ≠ .setTime → exec (.setTime bytes) s = .next s)) ∧
    (∀ frame body c x, s.takesSubmission = true → frameTaken bytes = some frame →
      ((c = .submitVehicleNotice bytes ∧ submissionBody .vehicleNotice frame = some body ∧
          x = vehicleSubmission s.line.siteTime body) ∨
        (c = .submitClassNotice bytes ∧ submissionBody .classNotice frame = some body ∧
          x = classSubmission s.line.siteTime body) ∨
        (c = .submitService bytes ∧ submissionBody .service frame = some body ∧
          x = serviceSubmission s.line.siteTime body)) →
      (s.cfg.authority.contains s.cfg.station = false → ∃ t, exec c s = .next t ∧ t.notice.inHand = true ∧
        ReplyGiven s t (replyFrame (some .notAuthorised)) ∧ Only [.notice] s t) ∧
      (s.cfg.authority.contains s.cfg.station = true → x.inRange s.line.siteTime = false →
        ∃ t, exec c s = .next t ∧ t.notice.inHand = true ∧
        ReplyGiven s t (replyFrame (some .outOfRange)) ∧ Only [.notice] s t) ∧
      (s.cfg.authority.contains s.cfg.station = true → x.inRange s.line.siteTime = true →
        s.journal.claimAvailable s.cfg.nj = false → ∃ t, exec c s = .next t ∧ t.notice.inHand = true ∧
        ReplyGiven s t (replyFrame (some .journalFull)) ∧ Only [.notice] s t)) ∧
    (∀ frame body, s.takesSubmission = true → frameTaken bytes = some frame →
      submissionBody .setTime frame = some body →
      bytesToNat body < s.line.siteTime → ∃ t, exec (.setTime bytes) s = .next t ∧ t.notice.inHand = true ∧
        ReplyGiven s t (replyFrame (some .outOfRange)) ∧ Only [.notice] s t) ∧
    (s.takesSubmission = false → ∀ c, c ∈ [Instr.submitService bytes, .submitVehicleNotice bytes,
      .submitClassNotice bytes, .setTime bytes, .malformedSubmission bytes] → exec c s = .next s)

/-- R186: a SET TIME that passes R184 sets site time to the time given and makes it CONFIRMED; it takes no claim
and no sequence and nothing is journalled or sent; ACCEPTED is sent at once, or next where a monitor item is on
the line (R187). That the bytes of one command stand between two gaps and so make the frame is the model's form
(notes/assumptions/11), that the frame taken stands in the input buffer the model's choice
(notes/assumptions/52). -/
def Obligations.SetTimeIsAccepted : Prop :=
  ∀ (s : State) (bytes frame body : List Byte), s.takesSubmission = true → frameTaken bytes = some frame →
    submissionBody .setTime frame = some body → s.line.siteTime ≤ bytesToNat body →
    ∃ t, exec (.setTime bytes) s = .next t ∧
      t.line = { s.line with siteTime := bytesToNat body, confirmed := true } ∧
      (s.notice.output = none → t.notice = { s.notice with
        inHand := true, inputBuffer := frame, reply := none, output := some (.reply (replyFrame none)) }) ∧
      (s.notice.output ≠ none → t.notice = { s.notice with
        inHand := true, inputBuffer := frame, reply := some (replyFrame none) }) ∧
      Only [.line, .notice] s t

/-- R184, R187: what follows on the output line: after a reply no submission is in hand (that the input buffer is
then empty is the model's choice, notes/assumptions/52); a waiting reply goes before the monitor items, which go in
the order they entered. R187: each expiry of the COUNTS timer restarts it with 10 s and makes the COUNTS item and one
PEERS item for every 8 peers held, the last holding the rest, with none held no such item: each enters the monitor
queue, or is counted lost while 16 items stand there; with a free line the COUNTS item is sent at once. That an item
put on the line has left the queue, and so does not count among the 16, and the order of the PEERS entries,
and that the COUNTS item enters before its PEERS items, is the model's reading (notes/assumptions/24). -/
def Obligations.NoticeOutputAndCounts : Prop :=
  (∀ s : State, ∃ t, exec .noticeOutputEnd s = .next t ∧
    (∀ f, s.notice.output = some (.reply f) → t.notice.inHand = false ∧ t.notice.inputBuffer = []) ∧
    (∀ f, s.notice.output = some (.item f) → t.notice.inHand = s.notice.inHand) ∧
    (∀ r, s.notice.output ≠ none → s.notice.reply = some r → t.notice.output = some (.reply r) ∧
      t.notice.reply = none ∧ t.notice.monitor = s.notice.monitor) ∧
    (∀ m rest, s.notice.output ≠ none → s.notice.reply = none → s.notice.monitor = m :: rest →
      t.notice.output = some (.item (frameOf 8 0 m)) ∧ t.notice.monitor = rest) ∧
    (s.notice.output ≠ none → s.notice.reply = none → s.notice.monitor = [] → t.notice.output = none) ∧
    Only [.notice] s t) ∧
  (∀ (s : State) (groups : List (List Peer)) (peers : List (List Byte)) (room : Nat),
    s.notice.countsTimer.isSome = true → s.cfg.noticeEnable = true → s.listening = true →
    s.line.peers = groups.flatten → s.line.peers.length ≤ 32 → (∀ g ∈ groups, 1 ≤ g.length ∧ g.length ≤ 8) →
    (∀ g ∈ groups.dropLast, g.length = 8) →
    peers = groups.map (fun g => [6, BitVec.ofNat 8 g.length] ++ g.flatMap (fun p =>
      natToBytes 1 p.station ++ [if p.live then 1 else 2] ++ natToBytes 2 p.epoch ++
        natToBytes 3 (p.high.getD 0) ++ natToBytes 2 p.gap ++ natToBytes 2 (p.unsent.getD 65535))) →
    room = 16 - s.notice.monitor.length →
    ∃ t, exec .countsTimer s = .next t ∧ t.notice.countsTimer = some (s.elapsed + 10000) ∧
      (s.notice.output ≠ none ∨ room = 0 →
        t.notice.monitor = s.notice.monitor ++ (s.countsBody :: peers).take room ∧
        (1 + peers.length ≤ room → t.notice.loss = s.notice.loss) ∧
        (room < 1 + peers.length → t.notice.loss = min 65535 (s.notice.loss + (1 + peers.length - room)))) ∧
      (s.notice.output = none → s.notice.reply = none → s.notice.monitor = [] →
        t.notice.output = some (.item (frameOf 8 0 s.countsBody)) ∧ t.notice.monitor = peers ∧
        t.notice.loss = s.notice.loss) ∧
      Only [.notice] s t)

/-! ### Formats -/

/-- 12.2, R189: a frame reads back as what was framed. 12.2, 12.4, 12.5, 12.6: the contents of the records and of
the two notices, the header, a plan record, an open slot and a tag's carry block read back as they were
written, with every field at every value that its width holds and the range of its item allows; a ring slot
gives back its serial, the record's kind, identity and time (R141), and the frame body the record has. A snapshot reads back
as the carry that its bytes hold, absent where they are all zero (12.2); the items of a plan record take its
stamp time with station 254 (R67, R191); a tag's list keeps its 4 newest items (R62). 12.3, R190: a carry reads
back with its volumes cut to whole litres, where each field lies in its range and each mark has an epoch; the
list is not part of the encoding. -/
def Obligations.RecordsReadBack : Prop :=
  (∀ (kind origin : Nat) (body : List Byte), kind < 256 → origin < 256 → body.length ≤ 128 →
    parseFrame (frameOf kind origin body) = some ⟨kind, origin, body⟩) ∧
  (∀ r : ServiceRecord, r.vehicle < 2 ^ 16 → r.level < 2 ^ 8 → r.time < 2 ^ 32 → r.hours < 2 ^ 24 →
    r.stamp < 2 ^ 32 → decodeService (encodeService r) = r) ∧
  (∀ n : VehicleNotice, n.vehicle < 2 ^ 16 → n.stamp < 2 ^ 32 → n.allowance < 2 ^ 16 → n.hold < 2 ^ 8 →
    n.cls < 2 ^ 8 → n.useTag < 2 ^ 8 → decodeVehicleNotice (encodeVehicleNotice n) = n) ∧
  (∀ n : ClassNotice, n.cls < 2 ^ 8 → n.stamp < 2 ^ 32 → n.allowance < 2 ^ 16 → n.hold < 2 ^ 8 →
    n.returnQty < 2 ^ 16 → n.burn < 2 ^ 16 →
    (∀ p ∈ n.plans.toList, p.ih < 2 ^ 16 ∧ p.ah < 2 ^ 16 ∧ p.gh < 2 ^ 16 ∧ p.il < 2 ^ 24 ∧ p.al < 2 ^ 24 ∧
      p.gl < 2 ^ 24) → decodeClassNotice (encodeClassNotice n) = n) ∧
  (∀ h : Header, h.epoch < 2 ^ 16 → h.slotCount < 2 ^ 16 → h.baseSerial < 2 ^ 32 → h.savedMark < 2 ^ 32 →
    decodeHeader (encodeHeader h) = some h) ∧
  (∀ (serial : Nat) (r : Record), serial < 2 ^ 32 → r.epoch < 2 ^ 16 → r.seq < 2 ^ 24 →
    ∃ x, decodeSlot (encodeSlot serial r) = some x ∧ x.serial = serial ∧ x.kind = r.kind ∧ x.epoch = r.epoch ∧
      x.seq = r.seq ∧ x.body = r.body ∧
      (∀ i, r = .issue i → i.start < 2 ^ 32 → i.start ≤ i.stop → i.stop ≤ i.start + 65535 → x.time = i.stop) ∧
      (∀ e q v, r = .service e q v → v.stamp < 2 ^ 32 → x.time = v.stamp) ∧
      (∀ e q v, r = .vehicle e q v → v.stamp < 2 ^ 32 → x.time = v.stamp) ∧
      (∀ e q v, r = .cls e q v → v.stamp < 2 ^ 32 → x.time = v.stamp)) ∧
  (∀ r x : IssueRecord, r.shift < 2 ^ 19 → r.cls < 8 → r.grade < 4 → r.vehicle < 2 ^ 16 → r.start < 2 ^ 32 →
    r.start ≤ r.stop → r.stop ≤ r.start + 65535 → r.target < 2 ^ 26 → r.gross < 2 ^ 26 → r.net < 2 ^ 26 →
    r.totalizer < 2 ^ 37 → -1024 ≤ r.temperature → r.temperature < 1024 →
    (∀ l, r.level = some l → 1 ≤ l ∧ l < 8) →
    x = { r with snapshot := match r.snapshot with
      | none => none
      | some c => if ∀ b ∈ encodeCarry c, b = 0 then none else some (decodeCarry (encodeCarry c)) } →
    decodeIssue r.epoch r.seq (encodeIssue r) = x ∧
    (r.epoch < 2 ^ 16 → r.seq < 2 ^ 24 →
      decodeOpen (encodeOpen (.opened r)) = .opened x ∧ decodeOpen (encodeOpen (.final r)) = .final x)) ∧
  decodeOpen (encodeOpen .clear) = .clear ∧
  (∀ (k : ClassRecord) (st : Option Stamp), st = k.newestStamp.map (fun x => ⟨x.time, 254⟩) →
    k.allowance.val < 2 ^ 16 → k.returnQty.val < 2 ^ 11 → k.burn.val < 2 ^ 9 →
    (∀ x, k.newestStamp = some x → x.time < 2 ^ 32) →
    (∀ p ∈ k.plans.toList, p.val.ih < 2 ^ 15 ∧ p.val.ah < 2 ^ 15 ∧ p.val.gh < 2 ^ 15 ∧ p.val.il < 2 ^ 20 ∧
      p.val.al < 2 ^ 20 ∧ p.val.gl < 2 ^ 20) →
    decodePlan (encodePlan k) = {
      allowance := ⟨k.allowance.val, st⟩, hold := ⟨k.hold.val, st⟩, returnQty := ⟨k.returnQty.val, st⟩,
      burn := ⟨k.burn.val, st⟩, plans := k.plans.map fun p => ⟨p.val, st⟩ }) ∧
  (∀ (v : Nat) (c x : Carry), v < 2 ^ 16 → x = { decodeCarry (encodeCarry c) with list := c.list.take 4 } →
    carryInRange x = true → itemsDistinct x.list = true → itemsOrdered x.list = true →
    (∀ i ∈ x.list, i.start < 2 ^ 32 ∧ i.stop < 2 ^ 32) → usableCarry v (carryBlock v c) = some x) ∧
  (∀ c : Carry, c.shift < 2 ^ 19 → c.use < 65536000 → c.sinceReading < 16777216000 →
    (∀ l ∈ c.levels.toList, l.hours < 2 ^ 24 ∧ l.litres < 16777216000 ∧
      ∀ m, l.mark = some m → m.time < 2 ^ 32 ∧ m.origin < 2 ^ 8 ∧ 1 ≤ m.epoch ∧ m.epoch < 2 ^ 16 ∧
        m.seq < 2 ^ 24) →
    (∀ r, c.reading = some r → r.value < 2 ^ 24 ∧ r.time < 2 ^ 32) →
    (∀ st, c.hold.stamp = some st → st.time < 2 ^ 32 ∧ st.station < 2 ^ 8) →
    decodeCarry (encodeCarry c) = { c with
      use := c.use / 1000 * 1000, sinceReading := c.sinceReading / 1000 * 1000,
      levels := c.levels.map fun l => { l with litres := l.litres / 1000 * 1000 }, list := [] })
end

