-- ==== Sys2Proof/Laws/State.lean ====
section
/-! SUPPORT. One lemma for each field under each update of the state, and for each accessor of a
duplicated block. -/

namespace Sys2Proof.Machine

variable (s : State)

@[simp] theorem State.setHose_start (h : Side) (x : Hose) : (s.setHose h x).start = s.start := rfl
@[simp] theorem State.setHose_elapsed (h : Side) (x : Hose) : (s.setHose h x).elapsed = s.elapsed := rfl
@[simp] theorem State.setHose_cfg (h : Side) (x : Hose) : (s.setHose h x).cfg = s.cfg := rfl
@[simp] theorem State.setHose_hoses (h : Side) (x : Hose) : (s.setHose h x).hoses = s.hoses.set h x := rfl
@[simp] theorem State.setHose_meters (h : Side) (x : Hose) : (s.setHose h x).meters = s.meters := rfl
@[simp] theorem State.setHose_tags (h : Side) (x : Hose) : (s.setHose h x).tags = s.tags := rfl
@[simp] theorem State.setHose_fleet (h : Side) (x : Hose) : (s.setHose h x).fleet = s.fleet := rfl
@[simp] theorem State.setHose_classes (h : Side) (x : Hose) : (s.setHose h x).classes = s.classes := rfl
@[simp] theorem State.setHose_reservations (h : Side) (x : Hose) : (s.setHose h x).reservations = s.reservations := rfl
@[simp] theorem State.setHose_line (h : Side) (x : Hose) : (s.setHose h x).line = s.line := rfl
@[simp] theorem State.setHose_journal (h : Side) (x : Hose) : (s.setHose h x).journal = s.journal := rfl
@[simp] theorem State.setHose_mem (h : Side) (x : Hose) : (s.setHose h x).mem = s.mem := rfl
@[simp] theorem State.setHose_scan (h : Side) (x : Hose) : (s.setHose h x).scan = s.scan := rfl
@[simp] theorem State.setHose_tanks (h : Side) (x : Hose) : (s.setHose h x).tanks = s.tanks := rfl
@[simp] theorem State.setHose_panel (h : Side) (x : Hose) : (s.setHose h x).panel = s.panel := rfl
@[simp] theorem State.setHose_notice (h : Side) (x : Hose) : (s.setHose h x).notice = s.notice := rfl
@[simp] theorem State.setHose_draws (h : Side) (x : Hose) : (s.setHose h x).draws = s.draws := rfl
@[simp] theorem State.setHose_pending (h : Side) (x : Hose) : (s.setHose h x).pending = s.pending := rfl
@[simp] theorem State.setHose_hose_self (h : Side) (x : Hose) : (s.setHose h x).hose h = x := by cases h <;> rfl
@[simp] theorem State.setHose_hose_other (h : Side) (x : Hose) : (s.setHose h x).hose h.other = s.hose h.other := by cases h <;> rfl
@[simp] theorem State.setHose_other_hose (h : Side) (x : Hose) : (s.setHose h.other x).hose h = s.hose h := by cases h <;> rfl
theorem State.setHose_hose (h : Side) (x : Hose) (k : Side) : (s.setHose h x).hose k = if k = h then x else s.hose k := by
  cases h <;> cases k <;> rfl
@[simp] theorem State.setHose_setHose (h : Side) (x : Hose) (y : Hose) : (s.setHose h x).setHose h y = s.setHose h y := by cases h <;> rfl
@[simp] theorem State.setHose_meter (h : Side) (x : Hose) (k : Side) : (s.setHose h x).meter k = s.meter k := rfl
@[simp] theorem State.setHose_tag (h : Side) (x : Hose) (k : Side) : (s.setHose h x).tag k = s.tag k := rfl
@[simp] theorem State.setHose_reservation (h : Side) (x : Hose) (k : Side) : (s.setHose h x).reservation k = s.reservation k := rfl
@[simp] theorem State.setHose_hoseCfg (h : Side) (x : Hose) (k : Side) : (s.setHose h x).hoseCfg k = s.hoseCfg k := rfl
@[simp] theorem State.setHose_tankCfg (h : Side) (x : Hose) (k : Side) : (s.setHose h x).tankCfg k = s.tankCfg k := rfl
@[simp] theorem State.setMeter_start (h : Side) (x : Meter) : (s.setMeter h x).start = s.start := rfl
@[simp] theorem State.setMeter_elapsed (h : Side) (x : Meter) : (s.setMeter h x).elapsed = s.elapsed := rfl
@[simp] theorem State.setMeter_cfg (h : Side) (x : Meter) : (s.setMeter h x).cfg = s.cfg := rfl
@[simp] theorem State.setMeter_hoses (h : Side) (x : Meter) : (s.setMeter h x).hoses = s.hoses := rfl
@[simp] theorem State.setMeter_meters (h : Side) (x : Meter) : (s.setMeter h x).meters = s.meters.set h x := rfl
@[simp] theorem State.setMeter_tags (h : Side) (x : Meter) : (s.setMeter h x).tags = s.tags := rfl
@[simp] theorem State.setMeter_fleet (h : Side) (x : Meter) : (s.setMeter h x).fleet = s.fleet := rfl
@[simp] theorem State.setMeter_classes (h : Side) (x : Meter) : (s.setMeter h x).classes = s.classes := rfl
@[simp] theorem State.setMeter_reservations (h : Side) (x : Meter) : (s.setMeter h x).reservations = s.reservations := rfl
@[simp] theorem State.setMeter_line (h : Side) (x : Meter) : (s.setMeter h x).line = s.line := rfl
@[simp] theorem State.setMeter_journal (h : Side) (x : Meter) : (s.setMeter h x).journal = s.journal := rfl
@[simp] theorem State.setMeter_mem (h : Side) (x : Meter) : (s.setMeter h x).mem = s.mem := rfl
@[simp] theorem State.setMeter_scan (h : Side) (x : Meter) : (s.setMeter h x).scan = s.scan := rfl
@[simp] theorem State.setMeter_tanks (h : Side) (x : Meter) : (s.setMeter h x).tanks = s.tanks := rfl
@[simp] theorem State.setMeter_panel (h : Side) (x : Meter) : (s.setMeter h x).panel = s.panel := rfl
@[simp] theorem State.setMeter_notice (h : Side) (x : Meter) : (s.setMeter h x).notice = s.notice := rfl
@[simp] theorem State.setMeter_draws (h : Side) (x : Meter) : (s.setMeter h x).draws = s.draws := rfl
@[simp] theorem State.setMeter_pending (h : Side) (x : Meter) : (s.setMeter h x).pending = s.pending := rfl
@[simp] theorem State.setMeter_hose (h : Side) (x : Meter) (k : Side) : (s.setMeter h x).hose k = s.hose k := rfl
@[simp] theorem State.setMeter_meter_self (h : Side) (x : Meter) : (s.setMeter h x).meter h = x := by cases h <;> rfl
@[simp] theorem State.setMeter_meter_other (h : Side) (x : Meter) : (s.setMeter h x).meter h.other = s.meter h.other := by cases h <;> rfl
@[simp] theorem State.setMeter_other_meter (h : Side) (x : Meter) : (s.setMeter h.other x).meter h = s.meter h := by cases h <;> rfl
theorem State.setMeter_meter (h : Side) (x : Meter) (k : Side) : (s.setMeter h x).meter k = if k = h then x else s.meter k := by
  cases h <;> cases k <;> rfl
@[simp] theorem State.setMeter_setMeter (h : Side) (x : Meter) (y : Meter) : (s.setMeter h x).setMeter h y = s.setMeter h y := by cases h <;> rfl
@[simp] theorem State.setMeter_tag (h : Side) (x : Meter) (k : Side) : (s.setMeter h x).tag k = s.tag k := rfl
@[simp] theorem State.setMeter_reservation (h : Side) (x : Meter) (k : Side) : (s.setMeter h x).reservation k = s.reservation k := rfl
@[simp] theorem State.setMeter_hoseCfg (h : Side) (x : Meter) (k : Side) : (s.setMeter h x).hoseCfg k = s.hoseCfg k := rfl
@[simp] theorem State.setMeter_tankCfg (h : Side) (x : Meter) (k : Side) : (s.setMeter h x).tankCfg k = s.tankCfg k := rfl
@[simp] theorem State.setTag_start (h : Side) (x : TagUnit) : (s.setTag h x).start = s.start := rfl
@[simp] theorem State.setTag_elapsed (h : Side) (x : TagUnit) : (s.setTag h x).elapsed = s.elapsed := rfl
@[simp] theorem State.setTag_cfg (h : Side) (x : TagUnit) : (s.setTag h x).cfg = s.cfg := rfl
@[simp] theorem State.setTag_hoses (h : Side) (x : TagUnit) : (s.setTag h x).hoses = s.hoses := rfl
@[simp] theorem State.setTag_meters (h : Side) (x : TagUnit) : (s.setTag h x).meters = s.meters := rfl
@[simp] theorem State.setTag_tags (h : Side) (x : TagUnit) : (s.setTag h x).tags = s.tags.set h x := rfl
@[simp] theorem State.setTag_fleet (h : Side) (x : TagUnit) : (s.setTag h x).fleet = s.fleet := rfl
@[simp] theorem State.setTag_classes (h : Side) (x : TagUnit) : (s.setTag h x).classes = s.classes := rfl
@[simp] theorem State.setTag_reservations (h : Side) (x : TagUnit) : (s.setTag h x).reservations = s.reservations := rfl
@[simp] theorem State.setTag_line (h : Side) (x : TagUnit) : (s.setTag h x).line = s.line := rfl
@[simp] theorem State.setTag_journal (h : Side) (x : TagUnit) : (s.setTag h x).journal = s.journal := rfl
@[simp] theorem State.setTag_mem (h : Side) (x : TagUnit) : (s.setTag h x).mem = s.mem := rfl
@[simp] theorem State.setTag_scan (h : Side) (x : TagUnit) : (s.setTag h x).scan = s.scan := rfl
@[simp] theorem State.setTag_tanks (h : Side) (x : TagUnit) : (s.setTag h x).tanks = s.tanks := rfl
@[simp] theorem State.setTag_panel (h : Side) (x : TagUnit) : (s.setTag h x).panel = s.panel := rfl
@[simp] theorem State.setTag_notice (h : Side) (x : TagUnit) : (s.setTag h x).notice = s.notice := rfl
@[simp] theorem State.setTag_draws (h : Side) (x : TagUnit) : (s.setTag h x).draws = s.draws := rfl
@[simp] theorem State.setTag_pending (h : Side) (x : TagUnit) : (s.setTag h x).pending = s.pending := rfl
@[simp] theorem State.setTag_hose (h : Side) (x : TagUnit) (k : Side) : (s.setTag h x).hose k = s.hose k := rfl
@[simp] theorem State.setTag_meter (h : Side) (x : TagUnit) (k : Side) : (s.setTag h x).meter k = s.meter k := rfl
@[simp] theorem State.setTag_tag_self (h : Side) (x : TagUnit) : (s.setTag h x).tag h = x := by cases h <;> rfl
@[simp] theorem State.setTag_tag_other (h : Side) (x : TagUnit) : (s.setTag h x).tag h.other = s.tag h.other := by cases h <;> rfl
@[simp] theorem State.setTag_other_tag (h : Side) (x : TagUnit) : (s.setTag h.other x).tag h = s.tag h := by cases h <;> rfl
theorem State.setTag_tag (h : Side) (x : TagUnit) (k : Side) : (s.setTag h x).tag k = if k = h then x else s.tag k := by
  cases h <;> cases k <;> rfl
@[simp] theorem State.setTag_setTag (h : Side) (x : TagUnit) (y : TagUnit) : (s.setTag h x).setTag h y = s.setTag h y := by cases h <;> rfl
@[simp] theorem State.setTag_reservation (h : Side) (x : TagUnit) (k : Side) : (s.setTag h x).reservation k = s.reservation k := rfl
@[simp] theorem State.setTag_hoseCfg (h : Side) (x : TagUnit) (k : Side) : (s.setTag h x).hoseCfg k = s.hoseCfg k := rfl
@[simp] theorem State.setTag_tankCfg (h : Side) (x : TagUnit) (k : Side) : (s.setTag h x).tankCfg k = s.tankCfg k := rfl
@[simp] theorem State.setReservation_start (h : Side) (x : Option Reservation) : (s.setReservation h x).start = s.start := rfl
@[simp] theorem State.setReservation_elapsed (h : Side) (x : Option Reservation) : (s.setReservation h x).elapsed = s.elapsed := rfl
@[simp] theorem State.setReservation_cfg (h : Side) (x : Option Reservation) : (s.setReservation h x).cfg = s.cfg := rfl
@[simp] theorem State.setReservation_hoses (h : Side) (x : Option Reservation) : (s.setReservation h x).hoses = s.hoses := rfl
@[simp] theorem State.setReservation_meters (h : Side) (x : Option Reservation) : (s.setReservation h x).meters = s.meters := rfl
@[simp] theorem State.setReservation_tags (h : Side) (x : Option Reservation) : (s.setReservation h x).tags = s.tags := rfl
@[simp] theorem State.setReservation_fleet (h : Side) (x : Option Reservation) : (s.setReservation h x).fleet = s.fleet := rfl
@[simp] theorem State.setReservation_classes (h : Side) (x : Option Reservation) : (s.setReservation h x).classes = s.classes := rfl
@[simp] theorem State.setReservation_reservations (h : Side) (x : Option Reservation) : (s.setReservation h x).reservations = s.reservations.set h x := rfl
@[simp] theorem State.setReservation_line (h : Side) (x : Option Reservation) : (s.setReservation h x).line = s.line := rfl
@[simp] theorem State.setReservation_journal (h : Side) (x : Option Reservation) : (s.setReservation h x).journal = s.journal := rfl
@[simp] theorem State.setReservation_mem (h : Side) (x : Option Reservation) : (s.setReservation h x).mem = s.mem := rfl
@[simp] theorem State.setReservation_scan (h : Side) (x : Option Reservation) : (s.setReservation h x).scan = s.scan := rfl
@[simp] theorem State.setReservation_tanks (h : Side) (x : Option Reservation) : (s.setReservation h x).tanks = s.tanks := rfl
@[simp] theorem State.setReservation_panel (h : Side) (x : Option Reservation) : (s.setReservation h x).panel = s.panel := rfl
@[simp] theorem State.setReservation_notice (h : Side) (x : Option Reservation) : (s.setReservation h x).notice = s.notice := rfl
@[simp] theorem State.setReservation_draws (h : Side) (x : Option Reservation) : (s.setReservation h x).draws = s.draws := rfl
@[simp] theorem State.setReservation_pending (h : Side) (x : Option Reservation) : (s.setReservation h x).pending = s.pending := rfl
@[simp] theorem State.setReservation_hose (h : Side) (x : Option Reservation) (k : Side) : (s.setReservation h x).hose k = s.hose k := rfl
@[simp] theorem State.setReservation_meter (h : Side) (x : Option Reservation) (k : Side) : (s.setReservation h x).meter k = s.meter k := rfl
@[simp] theorem State.setReservation_tag (h : Side) (x : Option Reservation) (k : Side) : (s.setReservation h x).tag k = s.tag k := rfl
@[simp] theorem State.setReservation_reservation_self (h : Side) (x : Option Reservation) : (s.setReservation h x).reservation h = x := by cases h <;> rfl
@[simp] theorem State.setReservation_reservation_other (h : Side) (x : Option Reservation) : (s.setReservation h x).reservation h.other = s.reservation h.other := by cases h <;> rfl
@[simp] theorem State.setReservation_other_reservation (h : Side) (x : Option Reservation) : (s.setReservation h.other x).reservation h = s.reservation h := by cases h <;> rfl
theorem State.setReservation_reservation (h : Side) (x : Option Reservation) (k : Side) : (s.setReservation h x).reservation k = if k = h then x else s.reservation k := by
  cases h <;> cases k <;> rfl
@[simp] theorem State.setReservation_setReservation (h : Side) (x : Option Reservation) (y : Option Reservation) : (s.setReservation h x).setReservation h y = s.setReservation h y := by cases h <;> rfl
@[simp] theorem State.setReservation_hoseCfg (h : Side) (x : Option Reservation) (k : Side) : (s.setReservation h x).hoseCfg k = s.hoseCfg k := rfl
@[simp] theorem State.setReservation_tankCfg (h : Side) (x : Option Reservation) (k : Side) : (s.setReservation h x).tankCfg k = s.tankCfg k := rfl
@[simp] theorem State.setTank_start (h : Side) (x : Tank) : (s.setTank h x).start = s.start := rfl
@[simp] theorem State.setTank_elapsed (h : Side) (x : Tank) : (s.setTank h x).elapsed = s.elapsed := rfl
@[simp] theorem State.setTank_cfg (h : Side) (x : Tank) : (s.setTank h x).cfg = s.cfg := rfl
@[simp] theorem State.setTank_hoses (h : Side) (x : Tank) : (s.setTank h x).hoses = s.hoses := rfl
@[simp] theorem State.setTank_meters (h : Side) (x : Tank) : (s.setTank h x).meters = s.meters := rfl
@[simp] theorem State.setTank_tags (h : Side) (x : Tank) : (s.setTank h x).tags = s.tags := rfl
@[simp] theorem State.setTank_fleet (h : Side) (x : Tank) : (s.setTank h x).fleet = s.fleet := rfl
@[simp] theorem State.setTank_classes (h : Side) (x : Tank) : (s.setTank h x).classes = s.classes := rfl
@[simp] theorem State.setTank_reservations (h : Side) (x : Tank) : (s.setTank h x).reservations = s.reservations := rfl
@[simp] theorem State.setTank_line (h : Side) (x : Tank) : (s.setTank h x).line = s.line := rfl
@[simp] theorem State.setTank_journal (h : Side) (x : Tank) : (s.setTank h x).journal = s.journal := rfl
@[simp] theorem State.setTank_mem (h : Side) (x : Tank) : (s.setTank h x).mem = s.mem := rfl
@[simp] theorem State.setTank_scan (h : Side) (x : Tank) : (s.setTank h x).scan = s.scan := rfl
@[simp] theorem State.setTank_tanks (h : Side) (x : Tank) : (s.setTank h x).tanks = s.tanks.set h x := rfl
@[simp] theorem State.setTank_panel (h : Side) (x : Tank) : (s.setTank h x).panel = s.panel := rfl
@[simp] theorem State.setTank_notice (h : Side) (x : Tank) : (s.setTank h x).notice = s.notice := rfl
@[simp] theorem State.setTank_draws (h : Side) (x : Tank) : (s.setTank h x).draws = s.draws := rfl
@[simp] theorem State.setTank_pending (h : Side) (x : Tank) : (s.setTank h x).pending = s.pending := rfl
@[simp] theorem State.setTank_hose (h : Side) (x : Tank) (k : Side) : (s.setTank h x).hose k = s.hose k := rfl
@[simp] theorem State.setTank_meter (h : Side) (x : Tank) (k : Side) : (s.setTank h x).meter k = s.meter k := rfl
@[simp] theorem State.setTank_tag (h : Side) (x : Tank) (k : Side) : (s.setTank h x).tag k = s.tag k := rfl
@[simp] theorem State.setTank_reservation (h : Side) (x : Tank) (k : Side) : (s.setTank h x).reservation k = s.reservation k := rfl
@[simp] theorem State.setTank_hoseCfg (h : Side) (x : Tank) (k : Side) : (s.setTank h x).hoseCfg k = s.hoseCfg k := rfl
@[simp] theorem State.setTank_tankCfg (h : Side) (x : Tank) (k : Side) : (s.setTank h x).tankCfg k = s.tankCfg k := rfl
@[simp] theorem State.setJournal_start (x : Journal) : (s.setJournal x).start = s.start := rfl
@[simp] theorem State.setJournal_elapsed (x : Journal) : (s.setJournal x).elapsed = s.elapsed := rfl
@[simp] theorem State.setJournal_cfg (x : Journal) : (s.setJournal x).cfg = s.cfg := rfl
@[simp] theorem State.setJournal_hoses (x : Journal) : (s.setJournal x).hoses = s.hoses := rfl
@[simp] theorem State.setJournal_meters (x : Journal) : (s.setJournal x).meters = s.meters := rfl
@[simp] theorem State.setJournal_tags (x : Journal) : (s.setJournal x).tags = s.tags := rfl
@[simp] theorem State.setJournal_fleet (x : Journal) : (s.setJournal x).fleet = s.fleet := rfl
@[simp] theorem State.setJournal_classes (x : Journal) : (s.setJournal x).classes = s.classes := rfl
@[simp] theorem State.setJournal_reservations (x : Journal) : (s.setJournal x).reservations = s.reservations := rfl
@[simp] theorem State.setJournal_line (x : Journal) : (s.setJournal x).line = s.line := rfl
@[simp] theorem State.setJournal_journal (x : Journal) : (s.setJournal x).journal = x := rfl
@[simp] theorem State.setJournal_mem (x : Journal) : (s.setJournal x).mem = s.mem := rfl
@[simp] theorem State.setJournal_scan (x : Journal) : (s.setJournal x).scan = s.scan := rfl
@[simp] theorem State.setJournal_tanks (x : Journal) : (s.setJournal x).tanks = s.tanks := rfl
@[simp] theorem State.setJournal_panel (x : Journal) : (s.setJournal x).panel = s.panel := rfl
@[simp] theorem State.setJournal_notice (x : Journal) : (s.setJournal x).notice = s.notice := rfl
@[simp] theorem State.setJournal_draws (x : Journal) : (s.setJournal x).draws = s.draws := rfl
@[simp] theorem State.setJournal_pending (x : Journal) : (s.setJournal x).pending = s.pending := rfl
@[simp] theorem State.setJournal_hose (x : Journal) (k : Side) : (s.setJournal x).hose k = s.hose k := rfl
@[simp] theorem State.setJournal_meter (x : Journal) (k : Side) : (s.setJournal x).meter k = s.meter k := rfl
@[simp] theorem State.setJournal_tag (x : Journal) (k : Side) : (s.setJournal x).tag k = s.tag k := rfl
@[simp] theorem State.setJournal_reservation (x : Journal) (k : Side) : (s.setJournal x).reservation k = s.reservation k := rfl
@[simp] theorem State.setJournal_hoseCfg (x : Journal) (k : Side) : (s.setJournal x).hoseCfg k = s.hoseCfg k := rfl
@[simp] theorem State.setJournal_tankCfg (x : Journal) (k : Side) : (s.setJournal x).tankCfg k = s.tankCfg k := rfl
@[simp] theorem State.setMem_start (x : List Host.Cell) : (s.setMem x).start = s.start := rfl
@[simp] theorem State.setMem_elapsed (x : List Host.Cell) : (s.setMem x).elapsed = s.elapsed := rfl
@[simp] theorem State.setMem_cfg (x : List Host.Cell) : (s.setMem x).cfg = s.cfg := rfl
@[simp] theorem State.setMem_hoses (x : List Host.Cell) : (s.setMem x).hoses = s.hoses := rfl
@[simp] theorem State.setMem_meters (x : List Host.Cell) : (s.setMem x).meters = s.meters := rfl
@[simp] theorem State.setMem_tags (x : List Host.Cell) : (s.setMem x).tags = s.tags := rfl
@[simp] theorem State.setMem_fleet (x : List Host.Cell) : (s.setMem x).fleet = s.fleet := rfl
@[simp] theorem State.setMem_classes (x : List Host.Cell) : (s.setMem x).classes = s.classes := rfl
@[simp] theorem State.setMem_reservations (x : List Host.Cell) : (s.setMem x).reservations = s.reservations := rfl
@[simp] theorem State.setMem_line (x : List Host.Cell) : (s.setMem x).line = s.line := rfl
@[simp] theorem State.setMem_journal (x : List Host.Cell) : (s.setMem x).journal = s.journal := rfl
@[simp] theorem State.setMem_mem (x : List Host.Cell) : (s.setMem x).mem = x := rfl
@[simp] theorem State.setMem_scan (x : List Host.Cell) : (s.setMem x).scan = s.scan := rfl
@[simp] theorem State.setMem_tanks (x : List Host.Cell) : (s.setMem x).tanks = s.tanks := rfl
@[simp] theorem State.setMem_panel (x : List Host.Cell) : (s.setMem x).panel = s.panel := rfl
@[simp] theorem State.setMem_notice (x : List Host.Cell) : (s.setMem x).notice = s.notice := rfl
@[simp] theorem State.setMem_draws (x : List Host.Cell) : (s.setMem x).draws = s.draws := rfl
@[simp] theorem State.setMem_pending (x : List Host.Cell) : (s.setMem x).pending = s.pending := rfl
@[simp] theorem State.setMem_hose (x : List Host.Cell) (k : Side) : (s.setMem x).hose k = s.hose k := rfl
@[simp] theorem State.setMem_meter (x : List Host.Cell) (k : Side) : (s.setMem x).meter k = s.meter k := rfl
@[simp] theorem State.setMem_tag (x : List Host.Cell) (k : Side) : (s.setMem x).tag k = s.tag k := rfl
@[simp] theorem State.setMem_reservation (x : List Host.Cell) (k : Side) : (s.setMem x).reservation k = s.reservation k := rfl
@[simp] theorem State.setMem_hoseCfg (x : List Host.Cell) (k : Side) : (s.setMem x).hoseCfg k = s.hoseCfg k := rfl
@[simp] theorem State.setMem_tankCfg (x : List Host.Cell) (k : Side) : (s.setMem x).tankCfg k = s.tankCfg k := rfl
@[simp] theorem State.setLine_start (x : SiteLine) : (s.setLine x).start = s.start := rfl
@[simp] theorem State.setLine_elapsed (x : SiteLine) : (s.setLine x).elapsed = s.elapsed := rfl
@[simp] theorem State.setLine_cfg (x : SiteLine) : (s.setLine x).cfg = s.cfg := rfl
@[simp] theorem State.setLine_hoses (x : SiteLine) : (s.setLine x).hoses = s.hoses := rfl
@[simp] theorem State.setLine_meters (x : SiteLine) : (s.setLine x).meters = s.meters := rfl
@[simp] theorem State.setLine_tags (x : SiteLine) : (s.setLine x).tags = s.tags := rfl
@[simp] theorem State.setLine_fleet (x : SiteLine) : (s.setLine x).fleet = s.fleet := rfl
@[simp] theorem State.setLine_classes (x : SiteLine) : (s.setLine x).classes = s.classes := rfl
@[simp] theorem State.setLine_reservations (x : SiteLine) : (s.setLine x).reservations = s.reservations := rfl
@[simp] theorem State.setLine_line (x : SiteLine) : (s.setLine x).line = x := rfl
@[simp] theorem State.setLine_journal (x : SiteLine) : (s.setLine x).journal = s.journal := rfl
@[simp] theorem State.setLine_mem (x : SiteLine) : (s.setLine x).mem = s.mem := rfl
@[simp] theorem State.setLine_scan (x : SiteLine) : (s.setLine x).scan = s.scan := rfl
@[simp] theorem State.setLine_tanks (x : SiteLine) : (s.setLine x).tanks = s.tanks := rfl
@[simp] theorem State.setLine_panel (x : SiteLine) : (s.setLine x).panel = s.panel := rfl
@[simp] theorem State.setLine_notice (x : SiteLine) : (s.setLine x).notice = s.notice := rfl
@[simp] theorem State.setLine_draws (x : SiteLine) : (s.setLine x).draws = s.draws := rfl
@[simp] theorem State.setLine_pending (x : SiteLine) : (s.setLine x).pending = s.pending := rfl
@[simp] theorem State.setLine_hose (x : SiteLine) (k : Side) : (s.setLine x).hose k = s.hose k := rfl
@[simp] theorem State.setLine_meter (x : SiteLine) (k : Side) : (s.setLine x).meter k = s.meter k := rfl
@[simp] theorem State.setLine_tag (x : SiteLine) (k : Side) : (s.setLine x).tag k = s.tag k := rfl
@[simp] theorem State.setLine_reservation (x : SiteLine) (k : Side) : (s.setLine x).reservation k = s.reservation k := rfl
@[simp] theorem State.setLine_hoseCfg (x : SiteLine) (k : Side) : (s.setLine x).hoseCfg k = s.hoseCfg k := rfl
@[simp] theorem State.setLine_tankCfg (x : SiteLine) (k : Side) : (s.setLine x).tankCfg k = s.tankCfg k := rfl
@[simp] theorem State.setFleet_start (x : Fleet) : (s.setFleet x).start = s.start := rfl
@[simp] theorem State.setFleet_elapsed (x : Fleet) : (s.setFleet x).elapsed = s.elapsed := rfl
@[simp] theorem State.setFleet_cfg (x : Fleet) : (s.setFleet x).cfg = s.cfg := rfl
@[simp] theorem State.setFleet_hoses (x : Fleet) : (s.setFleet x).hoses = s.hoses := rfl
@[simp] theorem State.setFleet_meters (x : Fleet) : (s.setFleet x).meters = s.meters := rfl
@[simp] theorem State.setFleet_tags (x : Fleet) : (s.setFleet x).tags = s.tags := rfl
@[simp] theorem State.setFleet_fleet (x : Fleet) : (s.setFleet x).fleet = x := rfl
@[simp] theorem State.setFleet_classes (x : Fleet) : (s.setFleet x).classes = s.classes := rfl
@[simp] theorem State.setFleet_reservations (x : Fleet) : (s.setFleet x).reservations = s.reservations := rfl
@[simp] theorem State.setFleet_line (x : Fleet) : (s.setFleet x).line = s.line := rfl
@[simp] theorem State.setFleet_journal (x : Fleet) : (s.setFleet x).journal = s.journal := rfl
@[simp] theorem State.setFleet_mem (x : Fleet) : (s.setFleet x).mem = s.mem := rfl
@[simp] theorem State.setFleet_scan (x : Fleet) : (s.setFleet x).scan = s.scan := rfl
@[simp] theorem State.setFleet_tanks (x : Fleet) : (s.setFleet x).tanks = s.tanks := rfl
@[simp] theorem State.setFleet_panel (x : Fleet) : (s.setFleet x).panel = s.panel := rfl
@[simp] theorem State.setFleet_notice (x : Fleet) : (s.setFleet x).notice = s.notice := rfl
@[simp] theorem State.setFleet_draws (x : Fleet) : (s.setFleet x).draws = s.draws := rfl
@[simp] theorem State.setFleet_pending (x : Fleet) : (s.setFleet x).pending = s.pending := rfl
@[simp] theorem State.setFleet_hose (x : Fleet) (k : Side) : (s.setFleet x).hose k = s.hose k := rfl
@[simp] theorem State.setFleet_meter (x : Fleet) (k : Side) : (s.setFleet x).meter k = s.meter k := rfl
@[simp] theorem State.setFleet_tag (x : Fleet) (k : Side) : (s.setFleet x).tag k = s.tag k := rfl
@[simp] theorem State.setFleet_reservation (x : Fleet) (k : Side) : (s.setFleet x).reservation k = s.reservation k := rfl
@[simp] theorem State.setFleet_hoseCfg (x : Fleet) (k : Side) : (s.setFleet x).hoseCfg k = s.hoseCfg k := rfl
@[simp] theorem State.setFleet_tankCfg (x : Fleet) (k : Side) : (s.setFleet x).tankCfg k = s.tankCfg k := rfl
@[simp] theorem State.setClasses_start (x : Classes) : (s.setClasses x).start = s.start := rfl
@[simp] theorem State.setClasses_elapsed (x : Classes) : (s.setClasses x).elapsed = s.elapsed := rfl
@[simp] theorem State.setClasses_cfg (x : Classes) : (s.setClasses x).cfg = s.cfg := rfl
@[simp] theorem State.setClasses_hoses (x : Classes) : (s.setClasses x).hoses = s.hoses := rfl
@[simp] theorem State.setClasses_meters (x : Classes) : (s.setClasses x).meters = s.meters := rfl
@[simp] theorem State.setClasses_tags (x : Classes) : (s.setClasses x).tags = s.tags := rfl
@[simp] theorem State.setClasses_fleet (x : Classes) : (s.setClasses x).fleet = s.fleet := rfl
@[simp] theorem State.setClasses_classes (x : Classes) : (s.setClasses x).classes = x := rfl
@[simp] theorem State.setClasses_reservations (x : Classes) : (s.setClasses x).reservations = s.reservations := rfl
@[simp] theorem State.setClasses_line (x : Classes) : (s.setClasses x).line = s.line := rfl
@[simp] theorem State.setClasses_journal (x : Classes) : (s.setClasses x).journal = s.journal := rfl
@[simp] theorem State.setClasses_mem (x : Classes) : (s.setClasses x).mem = s.mem := rfl
@[simp] theorem State.setClasses_scan (x : Classes) : (s.setClasses x).scan = s.scan := rfl
@[simp] theorem State.setClasses_tanks (x : Classes) : (s.setClasses x).tanks = s.tanks := rfl
@[simp] theorem State.setClasses_panel (x : Classes) : (s.setClasses x).panel = s.panel := rfl
@[simp] theorem State.setClasses_notice (x : Classes) : (s.setClasses x).notice = s.notice := rfl
@[simp] theorem State.setClasses_draws (x : Classes) : (s.setClasses x).draws = s.draws := rfl
@[simp] theorem State.setClasses_pending (x : Classes) : (s.setClasses x).pending = s.pending := rfl
@[simp] theorem State.setClasses_hose (x : Classes) (k : Side) : (s.setClasses x).hose k = s.hose k := rfl
@[simp] theorem State.setClasses_meter (x : Classes) (k : Side) : (s.setClasses x).meter k = s.meter k := rfl
@[simp] theorem State.setClasses_tag (x : Classes) (k : Side) : (s.setClasses x).tag k = s.tag k := rfl
@[simp] theorem State.setClasses_reservation (x : Classes) (k : Side) : (s.setClasses x).reservation k = s.reservation k := rfl
@[simp] theorem State.setClasses_hoseCfg (x : Classes) (k : Side) : (s.setClasses x).hoseCfg k = s.hoseCfg k := rfl
@[simp] theorem State.setClasses_tankCfg (x : Classes) (k : Side) : (s.setClasses x).tankCfg k = s.tankCfg k := rfl
@[simp] theorem State.setScan_start (x : ScanUnit) : (s.setScan x).start = s.start := rfl
@[simp] theorem State.setScan_elapsed (x : ScanUnit) : (s.setScan x).elapsed = s.elapsed := rfl
@[simp] theorem State.setScan_cfg (x : ScanUnit) : (s.setScan x).cfg = s.cfg := rfl
@[simp] theorem State.setScan_hoses (x : ScanUnit) : (s.setScan x).hoses = s.hoses := rfl
@[simp] theorem State.setScan_meters (x : ScanUnit) : (s.setScan x).meters = s.meters := rfl
@[simp] theorem State.setScan_tags (x : ScanUnit) : (s.setScan x).tags = s.tags := rfl
@[simp] theorem State.setScan_fleet (x : ScanUnit) : (s.setScan x).fleet = s.fleet := rfl
@[simp] theorem State.setScan_classes (x : ScanUnit) : (s.setScan x).classes = s.classes := rfl
@[simp] theorem State.setScan_reservations (x : ScanUnit) : (s.setScan x).reservations = s.reservations := rfl
@[simp] theorem State.setScan_line (x : ScanUnit) : (s.setScan x).line = s.line := rfl
@[simp] theorem State.setScan_journal (x : ScanUnit) : (s.setScan x).journal = s.journal := rfl
@[simp] theorem State.setScan_mem (x : ScanUnit) : (s.setScan x).mem = s.mem := rfl
@[simp] theorem State.setScan_scan (x : ScanUnit) : (s.setScan x).scan = x := rfl
@[simp] theorem State.setScan_tanks (x : ScanUnit) : (s.setScan x).tanks = s.tanks := rfl
@[simp] theorem State.setScan_panel (x : ScanUnit) : (s.setScan x).panel = s.panel := rfl
@[simp] theorem State.setScan_notice (x : ScanUnit) : (s.setScan x).notice = s.notice := rfl
@[simp] theorem State.setScan_draws (x : ScanUnit) : (s.setScan x).draws = s.draws := rfl
@[simp] theorem State.setScan_pending (x : ScanUnit) : (s.setScan x).pending = s.pending := rfl
@[simp] theorem State.setScan_hose (x : ScanUnit) (k : Side) : (s.setScan x).hose k = s.hose k := rfl
@[simp] theorem State.setScan_meter (x : ScanUnit) (k : Side) : (s.setScan x).meter k = s.meter k := rfl
@[simp] theorem State.setScan_tag (x : ScanUnit) (k : Side) : (s.setScan x).tag k = s.tag k := rfl
@[simp] theorem State.setScan_reservation (x : ScanUnit) (k : Side) : (s.setScan x).reservation k = s.reservation k := rfl
@[simp] theorem State.setScan_hoseCfg (x : ScanUnit) (k : Side) : (s.setScan x).hoseCfg k = s.hoseCfg k := rfl
@[simp] theorem State.setScan_tankCfg (x : ScanUnit) (k : Side) : (s.setScan x).tankCfg k = s.tankCfg k := rfl
@[simp] theorem State.setNotice_start (x : NoticePort) : (s.setNotice x).start = s.start := rfl
@[simp] theorem State.setNotice_elapsed (x : NoticePort) : (s.setNotice x).elapsed = s.elapsed := rfl
@[simp] theorem State.setNotice_cfg (x : NoticePort) : (s.setNotice x).cfg = s.cfg := rfl
@[simp] theorem State.setNotice_hoses (x : NoticePort) : (s.setNotice x).hoses = s.hoses := rfl
@[simp] theorem State.setNotice_meters (x : NoticePort) : (s.setNotice x).meters = s.meters := rfl
@[simp] theorem State.setNotice_tags (x : NoticePort) : (s.setNotice x).tags = s.tags := rfl
@[simp] theorem State.setNotice_fleet (x : NoticePort) : (s.setNotice x).fleet = s.fleet := rfl
@[simp] theorem State.setNotice_classes (x : NoticePort) : (s.setNotice x).classes = s.classes := rfl
@[simp] theorem State.setNotice_reservations (x : NoticePort) : (s.setNotice x).reservations = s.reservations := rfl
@[simp] theorem State.setNotice_line (x : NoticePort) : (s.setNotice x).line = s.line := rfl
@[simp] theorem State.setNotice_journal (x : NoticePort) : (s.setNotice x).journal = s.journal := rfl
@[simp] theorem State.setNotice_mem (x : NoticePort) : (s.setNotice x).mem = s.mem := rfl
@[simp] theorem State.setNotice_scan (x : NoticePort) : (s.setNotice x).scan = s.scan := rfl
@[simp] theorem State.setNotice_tanks (x : NoticePort) : (s.setNotice x).tanks = s.tanks := rfl
@[simp] theorem State.setNotice_panel (x : NoticePort) : (s.setNotice x).panel = s.panel := rfl
@[simp] theorem State.setNotice_notice (x : NoticePort) : (s.setNotice x).notice = x := rfl
@[simp] theorem State.setNotice_draws (x : NoticePort) : (s.setNotice x).draws = s.draws := rfl
@[simp] theorem State.setNotice_pending (x : NoticePort) : (s.setNotice x).pending = s.pending := rfl
@[simp] theorem State.setNotice_hose (x : NoticePort) (k : Side) : (s.setNotice x).hose k = s.hose k := rfl
@[simp] theorem State.setNotice_meter (x : NoticePort) (k : Side) : (s.setNotice x).meter k = s.meter k := rfl
@[simp] theorem State.setNotice_tag (x : NoticePort) (k : Side) : (s.setNotice x).tag k = s.tag k := rfl
@[simp] theorem State.setNotice_reservation (x : NoticePort) (k : Side) : (s.setNotice x).reservation k = s.reservation k := rfl
@[simp] theorem State.setNotice_hoseCfg (x : NoticePort) (k : Side) : (s.setNotice x).hoseCfg k = s.hoseCfg k := rfl
@[simp] theorem State.setNotice_tankCfg (x : NoticePort) (k : Side) : (s.setNotice x).tankCfg k = s.tankCfg k := rfl
@[simp] theorem State.setPanel_start (x : Panel) : (s.setPanel x).start = s.start := rfl
@[simp] theorem State.setPanel_elapsed (x : Panel) : (s.setPanel x).elapsed = s.elapsed := rfl
@[simp] theorem State.setPanel_cfg (x : Panel) : (s.setPanel x).cfg = s.cfg := rfl
@[simp] theorem State.setPanel_hoses (x : Panel) : (s.setPanel x).hoses = s.hoses := rfl
@[simp] theorem State.setPanel_meters (x : Panel) : (s.setPanel x).meters = s.meters := rfl
@[simp] theorem State.setPanel_tags (x : Panel) : (s.setPanel x).tags = s.tags := rfl
@[simp] theorem State.setPanel_fleet (x : Panel) : (s.setPanel x).fleet = s.fleet := rfl
@[simp] theorem State.setPanel_classes (x : Panel) : (s.setPanel x).classes = s.classes := rfl
@[simp] theorem State.setPanel_reservations (x : Panel) : (s.setPanel x).reservations = s.reservations := rfl
@[simp] theorem State.setPanel_line (x : Panel) : (s.setPanel x).line = s.line := rfl
@[simp] theorem State.setPanel_journal (x : Panel) : (s.setPanel x).journal = s.journal := rfl
@[simp] theorem State.setPanel_mem (x : Panel) : (s.setPanel x).mem = s.mem := rfl
@[simp] theorem State.setPanel_scan (x : Panel) : (s.setPanel x).scan = s.scan := rfl
@[simp] theorem State.setPanel_tanks (x : Panel) : (s.setPanel x).tanks = s.tanks := rfl
@[simp] theorem State.setPanel_panel (x : Panel) : (s.setPanel x).panel = x := rfl
@[simp] theorem State.setPanel_notice (x : Panel) : (s.setPanel x).notice = s.notice := rfl
@[simp] theorem State.setPanel_draws (x : Panel) : (s.setPanel x).draws = s.draws := rfl
@[simp] theorem State.setPanel_pending (x : Panel) : (s.setPanel x).pending = s.pending := rfl
@[simp] theorem State.setPanel_hose (x : Panel) (k : Side) : (s.setPanel x).hose k = s.hose k := rfl
@[simp] theorem State.setPanel_meter (x : Panel) (k : Side) : (s.setPanel x).meter k = s.meter k := rfl
@[simp] theorem State.setPanel_tag (x : Panel) (k : Side) : (s.setPanel x).tag k = s.tag k := rfl
@[simp] theorem State.setPanel_reservation (x : Panel) (k : Side) : (s.setPanel x).reservation k = s.reservation k := rfl
@[simp] theorem State.setPanel_hoseCfg (x : Panel) (k : Side) : (s.setPanel x).hoseCfg k = s.hoseCfg k := rfl
@[simp] theorem State.setPanel_tankCfg (x : Panel) (k : Side) : (s.setPanel x).tankCfg k = s.tankCfg k := rfl
@[simp] theorem State.setStart_start (x : StartCtl) : (s.setStart x).start = x := rfl
@[simp] theorem State.setStart_elapsed (x : StartCtl) : (s.setStart x).elapsed = s.elapsed := rfl
@[simp] theorem State.setStart_cfg (x : StartCtl) : (s.setStart x).cfg = s.cfg := rfl
@[simp] theorem State.setStart_hoses (x : StartCtl) : (s.setStart x).hoses = s.hoses := rfl
@[simp] theorem State.setStart_meters (x : StartCtl) : (s.setStart x).meters = s.meters := rfl
@[simp] theorem State.setStart_tags (x : StartCtl) : (s.setStart x).tags = s.tags := rfl
@[simp] theorem State.setStart_fleet (x : StartCtl) : (s.setStart x).fleet = s.fleet := rfl
@[simp] theorem State.setStart_classes (x : StartCtl) : (s.setStart x).classes = s.classes := rfl
@[simp] theorem State.setStart_reservations (x : StartCtl) : (s.setStart x).reservations = s.reservations := rfl
@[simp] theorem State.setStart_line (x : StartCtl) : (s.setStart x).line = s.line := rfl
@[simp] theorem State.setStart_journal (x : StartCtl) : (s.setStart x).journal = s.journal := rfl
@[simp] theorem State.setStart_mem (x : StartCtl) : (s.setStart x).mem = s.mem := rfl
@[simp] theorem State.setStart_scan (x : StartCtl) : (s.setStart x).scan = s.scan := rfl
@[simp] theorem State.setStart_tanks (x : StartCtl) : (s.setStart x).tanks = s.tanks := rfl
@[simp] theorem State.setStart_panel (x : StartCtl) : (s.setStart x).panel = s.panel := rfl
@[simp] theorem State.setStart_notice (x : StartCtl) : (s.setStart x).notice = s.notice := rfl
@[simp] theorem State.setStart_draws (x : StartCtl) : (s.setStart x).draws = s.draws := rfl
@[simp] theorem State.setStart_pending (x : StartCtl) : (s.setStart x).pending = s.pending := rfl
@[simp] theorem State.setStart_hose (x : StartCtl) (k : Side) : (s.setStart x).hose k = s.hose k := rfl
@[simp] theorem State.setStart_meter (x : StartCtl) (k : Side) : (s.setStart x).meter k = s.meter k := rfl
@[simp] theorem State.setStart_tag (x : StartCtl) (k : Side) : (s.setStart x).tag k = s.tag k := rfl
@[simp] theorem State.setStart_reservation (x : StartCtl) (k : Side) : (s.setStart x).reservation k = s.reservation k := rfl
@[simp] theorem State.setStart_hoseCfg (x : StartCtl) (k : Side) : (s.setStart x).hoseCfg k = s.hoseCfg k := rfl
@[simp] theorem State.setStart_tankCfg (x : StartCtl) (k : Side) : (s.setStart x).tankCfg k = s.tankCfg k := rfl

end Sys2Proof.Machine
end

