-- ==== Sys2Proof/Laws/Frames.lean ====
section
/-! SUPPORT. For each shared operation, once, the blocks of the state that it can change: every other
block is left as it was. -/

namespace Sys2Proof.Machine

set_option Elab.async false

variable {s t u : State} {bs b1 b2 : List Block}

theorem Only.refl (bs : List Block) (s : State) : Only bs s s := by
  intro b _; cases b <;> rfl

theorem Only.mono (h : Only b1 s t) (m : ∀ b ∈ b1, b ∈ bs := by decide) : Only bs s t :=
  fun b hb => h b fun hm => hb (m b hm)

theorem Only.trans (h1 : Only bs s t) (h2 : Only bs t u) : Only bs s u := by
  intro b hb
  have e1 := h1 b hb
  have e2 := h2 b hb
  cases b <;> exact Eq.trans e1 e2

/-- Two changes one after the other. -/
theorem Only.next (h1 : Only b1 s t) (h2 : Only b2 t u) (m1 : ∀ b ∈ b1, b ∈ bs := by decide)
    (m2 : ∀ b ∈ b2, b ∈ bs := by decide) : Only bs s u :=
  (h1.mono m1).trans (h2.mono m2)

/-! ### Updates -/

theorem setHose_only (s : State) (h : Side) (x : Hose) : Only [.hoses] s (s.setHose h x) := by
  intro b hb; cases b <;> first | rfl | simp at hb
theorem setMeter_only (s : State) (h : Side) (x : Meter) : Only [.meters] s (s.setMeter h x) := by
  intro b hb; cases b <;> first | rfl | simp at hb
theorem setTag_only (s : State) (h : Side) (x : TagUnit) : Only [.tags] s (s.setTag h x) := by
  intro b hb; cases b <;> first | rfl | simp at hb
theorem setReservation_only (s : State) (h : Side) (x : Option Reservation) :
    Only [.reservations] s (s.setReservation h x) := by
  intro b hb; cases b <;> first | rfl | simp at hb
theorem setTank_only (s : State) (h : Side) (x : Tank) : Only [.tanks] s (s.setTank h x) := by
  intro b hb; cases b <;> first | rfl | simp at hb
theorem setJournal_only (s : State) (x : Journal) : Only [.journal] s (s.setJournal x) := by
  intro b hb; cases b <;> first | rfl | simp at hb
theorem setMem_only (s : State) (x : List Host.Cell) : Only [.mem] s (s.setMem x) := by
  intro b hb; cases b <;> first | rfl | simp at hb
theorem setLine_only (s : State) (x : SiteLine) : Only [.line] s (s.setLine x) := by
  intro b hb; cases b <;> first | rfl | simp at hb
theorem setFleet_only (s : State) (x : Fleet) : Only [.fleet] s (s.setFleet x) := by
  intro b hb; cases b <;> first | rfl | simp at hb
theorem setClasses_only (s : State) (x : Classes) : Only [.classes] s (s.setClasses x) := by
  intro b hb; cases b <;> first | rfl | simp at hb
theorem setScan_only (s : State) (x : ScanUnit) : Only [.scan] s (s.setScan x) := by
  intro b hb; cases b <;> first | rfl | simp at hb
theorem setNotice_only (s : State) (x : NoticePort) : Only [.notice] s (s.setNotice x) := by
  intro b hb; cases b <;> first | rfl | simp at hb
theorem setPanel_only (s : State) (x : Panel) : Only [.panel] s (s.setPanel x) := by
  intro b hb; cases b <;> first | rfl | simp at hb
theorem setStart_only (s : State) (x : StartCtl) : Only [.start] s (s.setStart x) := by
  intro b hb; cases b <;> first | rfl | simp at hb
theorem draw_only (s : State) (n : Nat) : Only [.draws] s (s.draw n).2 := by
  intro b hb; cases b <;> first | rfl | simp at hb

/-! ### The notice port's output -/

theorem monitor_only (s : State) (item : List Byte) : Only [.notice] s (s.monitor item) := by
  unfold State.monitor; split
  · exact setNotice_only _ _
  · exact Only.refl _ _
theorem reply_only (s : State) (r : Option SubmissionRefusal) : Only [.notice] s (s.reply r) := setNotice_only _ _
theorem hoseItem_only (s : State) (h : Side) : Only [.notice] s (s.hoseItem h) := monitor_only _ _
theorem heardItem_only (s : State) (f : SiteFrame) : Only [.notice] s (s.heardItem f) := monitor_only _ _
theorem ownItem_only (s : State) (r : Record) : Only [.notice] s (s.ownItem r) := monitor_only _ _
theorem beaconItem_only (s : State) (f : SiteFrame) : Only [.notice] s (s.beaconItem f) := monitor_only _ _
theorem monitorAll_only (bodies : List (List Byte)) (s : State) :
    Only [.notice] s (bodies.foldl (fun s b => s.monitor b) s) := by
  induction bodies generalizing s with
  | nil => exact Only.refl _ _
  | cons b bodies ih => exact (monitor_only s b).trans (ih _)
theorem countsItems_only (s : State) : Only [.notice] s s.countsItems :=
  (monitor_only _ _).trans (monitorAll_only _ _)

/-! ### The journal unit -/

theorem serveNext_only (s : State) : Only [.journal, .classes] s s.serveNext := by
  unfold State.serveNext
  dsimp only
  split
  · split
    · exact (setJournal_only _ _).next (setClasses_only _ _)
    · exact (setJournal_only _ _).mono
  · exact Only.refl _ _
theorem pushOp_only (s : State) (op : MemOp) : Only [.journal, .classes] s (s.pushOp op) :=
  (setJournal_only _ _).next (serveNext_only _)
theorem requestProgress_only (s : State) (h : Side) (img : IssueRecord) :
    Only [.journal, .classes] s (s.requestProgress h img) := by
  unfold State.requestProgress; dsimp only; split
  · exact (setJournal_only _ _).mono
  · split
    · exact Only.refl _ _
    · exact pushOp_only _ _
theorem requestFinal_only (s : State) (h : Side) (img : IssueRecord) :
    Only [.journal, .classes] s (s.requestFinal h img) := by
  unfold State.requestFinal; dsimp only; split
  · exact (setJournal_only _ _).mono
  · exact pushOp_only _ _
theorem requestHeader_only (s : State) : Only [.journal, .classes] s s.requestHeader := by
  unfold State.requestHeader; split
  · exact Only.refl _ _
  · exact pushOp_only _ _
theorem requestPlan_only (s : State) (c : Nat) (r : ClassRecord) :
    Only [.journal, .classes] s (s.requestPlan c r) := by
  unfold State.requestPlan; split
  · exact (setClasses_only _ _).mono
  · exact pushOp_only _ _
theorem requestSendRead_only (s : State) : Only [.journal, .classes] s s.requestSendRead := by
  unfold State.requestSendRead; dsimp only; split
  · exact pushOp_only _ _
  · exact Only.refl _ _
theorem passAppend_only (s : State) (src : AppendSource) (r : Record) :
    Only [.journal, .classes] s (s.passAppend src r) := by
  unfold State.passAppend; dsimp only; split
  · exact (setJournal_only _ _).next (pushOp_only _ _)
  · exact Only.refl _ _
theorem giveRecovery_only (s : State) : Only [.journal, .classes] s s.giveRecovery := by
  unfold State.giveRecovery; split
  · exact Only.refl _ _
  · split
    · exact (setJournal_only _ _).next (passAppend_only _ _ _)
    · exact Only.refl _ _
theorem takeSequence_only (s : State) : Only [.journal, .classes] s s.takeSequence := by
  unfold State.takeSequence; dsimp only; split
  · exact (setJournal_only _ _).next (requestHeader_only _)
  · exact (setJournal_only _ _).mono
theorem advanceMark_only (s : State) : Only [.journal, .classes] s s.advanceMark := by
  unfold State.advanceMark; dsimp only; split
  · exact Only.refl _ _
  · split
    · exact Only.next (bs := [.journal, .classes]) ((setJournal_only s _).next (bs := [.journal, .classes])
        (requestHeader_only _)) (giveRecovery_only _)
    · exact (setJournal_only _ _).next (giveRecovery_only _)
theorem passOver_only (s : State) : Only [.journal, .classes] s s.passOver := by
  unfold State.passOver; dsimp only; split
  · exact (advanceMark_only _).next (setJournal_only _ _)
  · exact Only.refl _ _
theorem recordSent_only (s : State) : Only [.journal, .classes] s s.recordSent :=
  (advanceMark_only _).trans (passOver_only _)
theorem sendReadDone_only (s : State) (pos : Nat) (x : Option RingSlot) :
    Only [.journal, .classes, .line] s (s.sendReadDone pos x) := by
  unfold State.sendReadDone; dsimp only; split
  · split
    · exact (setLine_only _ _).next (setJournal_only _ _)
    · exact (setJournal_only _ _).next (passOver_only _)
  · exact (setJournal_only _ _).next (passOver_only _)
theorem endService_only (s : State) : Only [.journal] s s.endService := setJournal_only _ _
theorem setOpenImage_only (s : State) (h : Side) (i : OpenImage) : Only [.journal] s (s.setOpenImage h i) :=
  setJournal_only _ _
theorem writeOpen_only (s : State) (h : Side) (i : OpenImage) : Only [.mem, .journal] s (s.writeOpen h i) :=
  (setMem_only _ _).next (setOpenImage_only _ _ _)

/-! ### The sender -/

theorem trySend_only (s : State) : Only [.line] s s.trySend := by
  unfold State.trySend; split
  · exact setLine_only _ _
  · exact Only.refl _ _
theorem sendAtZero_only (s : State) : Only [.line] s s.sendAtZero := by
  unfold State.sendAtZero; split
  · exact setLine_only _ _
  · exact Only.refl _ _
theorem guardPassed_only (s : State) : Only [.line, .draws] s s.guardPassed := by
  unfold State.guardPassed; split
  · exact (setLine_only _ _).next (sendAtZero_only _)
  · exact (draw_only s s.line.window).next (bs := [.line, .draws]) (t := (s.draw s.line.window).2)
      ((setLine_only _ _).trans (sendAtZero_only _))
theorem beaconSent_only (s : State) : Only [.line, .draws] s s.beaconSent :=
  (draw_only s 1001).next (t := (s.draw 1001).2) (setLine_only _ _)
theorem chooseNext_only (s : State) : Only [.line] s s.chooseNext := setLine_only _ _
theorem cleanEnd_only (s : State) : Only [.line, .draws, .journal, .classes] s s.cleanEnd := by
  unfold State.cleanEnd; split
  · exact Only.next (bs := [.line, .draws, .journal, .classes])
      (Only.next (bs := [.line, .draws, .journal, .classes])
        ((setLine_only s _).next (bs := [.line, .draws, .journal, .classes]) (recordSent_only _)) (chooseNext_only _))
      (requestSendRead_only _)
  · exact (beaconSent_only _).next (chooseNext_only _)
  · exact Only.refl _ _

/-! ### The fleet table -/

theorem setEntry_only (s : State) (e : FleetEntry) : Only [.fleet] s (s.setEntry e) := setFleet_only _ _
theorem countLate_only (s : State) (n : Nat) : Only [.fleet] s (s.countLate n) := setFleet_only _ _
theorem countNotApplied_only (s : State) : Only [.fleet] s s.countNotApplied := setFleet_only _ _
theorem countUnauthorised_only (s : State) : Only [.fleet] s s.countUnauthorised := setFleet_only _ _
theorem addEntry_only {s t : State} {ok : FleetEntry → Bool} {e : FleetEntry} (h : s.addEntry ok e = some t) :
    Only [.fleet] s t := by
  obtain ⟨es, _, rfl⟩ := Option.map_eq_some_iff.mp h
  exact setFleet_only _ _
theorem findOrMake_only {s t : State} {v : Nat} {src : EntrySource} {c : Option Nat}
    (h : s.findOrMake v src c = some t) : Only [.fleet] s t := by
  unfold State.findOrMake at h; split at h
  · cases h; exact Only.refl _ _
  · exact addEntry_only h

/-! ### Deliveries -/

theorem pollResult_only (s : State) (h : Side) (a : Bool) : Only [.tags, .hoses] s (s.pollResult h a) := by
  unfold State.pollResult; dsimp only; split
  · exact (setTag_only _ _ _).next (setHose_only _ _ _)
  · exact Only.refl _ _

/-- The blocks that the end of a delivery can change. -/
abbrev endBlocks : List Block := [.hoses, .tags, .reservations, .journal, .notice]

theorem dropDelivery_only (s : State) (h : Side) (r : EndReason) : Only endBlocks s (s.dropDelivery h r) := by
  unfold State.dropDelivery
  have a : Only endBlocks s ((s.setReservation h none).setJournal { s.journal with claims := s.journal.claims - 1 }) :=
    (setReservation_only _ _ _).next (setJournal_only _ _)
  dsimp only; split
  · exact (a.next (bs := endBlocks) (setHose_only _ _ _)).next (hoseItem_only _ _)
  · exact a.next (setHose_only _ _ _)
theorem endDelivery_only (s : State) (h : Side) (r : EndReason) : Only endBlocks s (s.endDelivery h r) := by
  unfold State.endDelivery
  dsimp only
  split
  · exact Only.refl _ _
  · split
    · split
      · exact Only.next (bs := endBlocks) (Only.next (bs := endBlocks)
          ((setTag_only s h _).next (bs := endBlocks) (setHose_only _ _ _)) (hoseItem_only _ _)) (setHose_only _ _ _)
      · exact Only.next (bs := endBlocks) (Only.next (bs := endBlocks)
          ((setTag_only s h _).next (bs := endBlocks) (setHose_only _ _ _)) (hoseItem_only _ _)) (dropDelivery_only _ _ _)
    · exact Only.refl _ _
theorem raiseAbsorbed_only (s : State) (h : Side) (n : Nat) : Only [.reservations] s (s.raiseAbsorbed h n) := by
  unfold State.raiseAbsorbed; split
  · exact Only.refl _ _
  · exact setReservation_only _ _ _
theorem ownAbsorb_only (s : State) (h : Side) (d : Delivery) (i : Item) :
    Only [.hoses, .fleet, .reservations] s (s.ownAbsorb h d i) := by
  unfold State.ownAbsorb; dsimp only
  refine Only.next (bs := [.hoses, .fleet, .reservations]) (b1 := [.hoses, .fleet, .reservations]) ?_
    (raiseAbsorbed_only _ _ _)
  split
  · split
    · exact Only.refl _ _
    · exact (setHose_only _ _ _).next (countLate_only _ _)
  · split
    · exact Only.refl _ _
    · exact (setEntry_only _ _).next (countLate_only _ _)
theorem setTarget_only (s : State) (h : Side) (n : Nat) : Only [.reservations, .hoses] s (s.setTarget h n) := by
  unfold State.setTarget; dsimp only
  have a : Only [.reservations, .hoses] s (match s.reservation h with
      | none => s
      | some r => s.setReservation h (some { r with target := n })) := by
    split
    · exact Only.refl _ _
    · exact (setReservation_only _ _ _).mono
  split
  · exact a
  · exact a.next (setHose_only _ _ _)
theorem reevaluate_only (s : State) (h : Side) (r : Reservation) (n : Nat) : Only endBlocks s (s.reevaluate h r n) := by
  unfold State.reevaluate; dsimp only; split
  · split
    · exact endDelivery_only _ _ _
    · split
      · exact Only.refl _ _
      · split
        · exact (setTarget_only _ _ _).mono
        · exact (setTarget_only _ _ _).next (endDelivery_only _ _ _)
  · exact Only.refl _ _
theorem examine_only (s : State) (h : Side) (e : FleetEntry) (n : Nat) : Only endBlocks s (s.examine h e n) := by
  unfold State.examine; split
  · exact Only.refl _ _
  · dsimp only; split
    · refine Only.next (bs := endBlocks) (b1 := endBlocks) ?_ (reevaluate_only _ _ _ _)
      split
      · exact (setReservation_only _ _ _).mono
      · exact (setReservation_only _ _ _).next (setHose_only _ _ _)
    · exact (setReservation_only _ _ _).mono
theorem foldSides_only (bs : List Block) (f : State → Side → State) (hf : ∀ s h, Only bs s (f s h))
    (sides : List Side) (s : State) : Only bs s (sides.foldl f s) := by
  induction sides generalizing s with
  | nil => exact Only.refl _ _
  | cons h sides ih => exact (hf s h).trans (ih _)
theorem reportOther_only (s : State) (v : Nat) (old : ReportValues) : Only endBlocks s (s.reportOther v old) := by
  unfold State.reportOther; split
  · exact Only.refl _ _
  · split
    · exact Only.refl _ _
    · refine foldSides_only _ _ (fun s h => ?_) _ _
      split
      · exact examine_only _ _ _ _
      · exact Only.refl _ _
theorem reportClass_only (s : State) (c : Nat) : Only endBlocks s (s.reportClass c) := by
  unfold State.reportClass
  refine foldSides_only _ _ (fun s h => ?_) _ _
  split
  · exact Only.refl _ _
  · split
    · exact Only.refl _ _
    · split
      · exact examine_only _ _ _ _
      · exact Only.refl _ _

/-! ### Records -/

/-- The blocks that a record for a vehicle can change. -/
abbrev recordBlocks : List Block := [.fleet, .hoses, .tags, .reservations, .journal, .notice]

theorem changeEntry_only (s : State) (v : Nat) (f : FleetEntry → FleetEntry × Nat) :
    Only recordBlocks s (s.changeEntry v f) := by
  unfold State.changeEntry; split
  · exact Only.refl _ _
  · dsimp only
    exact Only.next (bs := recordBlocks) ((setEntry_only s _).trans (countLate_only _ _)) (reportOther_only _ _ _)
theorem takeIssue_only (s : State) (o : Nat) (r : IssueRecord) : Only recordBlocks s (s.takeIssue o r) := by
  unfold State.takeIssue; split
  · exact (countNotApplied_only _).mono
  · rename_i h; exact (findOrMake_only h).next (changeEntry_only _ _ _)
theorem takeService_only (s : State) (o e q : Nat) (r : ServiceRecord) :
    Only recordBlocks s (s.takeService o e q r) := by
  unfold State.takeService; split
  · split
    · exact (countNotApplied_only _).mono
    · rename_i h; exact (findOrMake_only h).next (changeEntry_only _ _ _)
  · exact (countNotApplied_only _).mono
theorem takeVehicleNotice_only (s : State) (o : Nat) (n : VehicleNotice) :
    Only recordBlocks s (s.takeVehicleNotice o n) := by
  unfold State.takeVehicleNotice; split
  · split
    · exact (countNotApplied_only _).mono
    · rename_i h; exact (findOrMake_only h).next (changeEntry_only _ _ _)
  · exact (countNotApplied_only _).mono
theorem takeClassNotice_only (s : State) (o : Nat) (n : ClassNotice) :
    Only (.classes :: recordBlocks) s (s.takeClassNotice o n) := by
  unfold State.takeClassNotice; split
  · dsimp only; split
    · exact Only.refl _ _
    · refine Only.next (bs := .classes :: recordBlocks) (b1 := .classes :: recordBlocks) ?_ (requestPlan_only _ _ _)
      split
      · exact (setClasses_only _ _).mono
      · exact (setClasses_only _ _).next (reportClass_only _ _)
  · exact (countNotApplied_only _).mono

/-! ### Checks and the grant -/

theorem refuse_only (s : State) (h : Side) (r : RefusalReason) : Only [.hoses, .notice] s (s.refuse h r) :=
  (setHose_only _ _ _).next (hoseItem_only _ _)

/-- The blocks that a grant can change. -/
abbrev grantBlocks : List Block := [.journal, .classes, .reservations, .hoses, .meters, .tags]

theorem grant_only (s : State) (h : Side) (c : Candidate) : Only grantBlocks s (s.grant h c) :=
  Only.next (bs := grantBlocks) (Only.next (bs := grantBlocks) (Only.next (bs := grantBlocks)
    (Only.next (bs := grantBlocks) ((setJournal_only s _).next (bs := grantBlocks) (takeSequence_only _))
      (setReservation_only _ _ _)) (setHose_only _ _ _)) (setMeter_only _ _ _)) (setTag_only _ _ _)

/-- The blocks that the end of identification can change. -/
abbrev identifyBlocks : List Block := [.fleet, .hoses, .tags, .meters, .reservations, .journal, .classes, .notice]

theorem judge_only (s : State) (h : Side) (c : Candidate) : Only identifyBlocks s (s.judge h c) := by
  unfold State.judge; split
  · exact (refuse_only _ _ _).mono
  · exact (grant_only _ _ _).mono
theorem showService_only (s : State) (h : Side) (r : ServiceResult) : Only [.hoses] s (s.showService h r) :=
  setHose_only _ _ _
theorem mergeTag_only {s t : State} {h : Side} {i : Identity} {c : Option Carry} (e : s.mergeTag h i c = some t) :
    Only identifyBlocks s t := by
  unfold State.mergeTag at e; split at e
  · cases e
    exact Only.next (bs := identifyBlocks) (Only.next (bs := identifyBlocks) ((setEntry_only s _).trans
      (countLate_only _ _)) (setHose_only _ _ _)) (reportOther_only _ _ _)
  · obtain ⟨s1, h1, rfl⟩ := Option.map_eq_some_iff.mp e
    exact (addEntry_only h1).next (setHose_only _ _ _)
theorem settleIdentity_only {s t : State} {h : Side} {c : Candidate} (e : Only identifyBlocks s t) :
    Only identifyBlocks s (match t.checkStation h with
      | some r => t.refuse h r
      | none => t.judge h c) := by
  refine e.trans ?_
  split
  · exact (refuse_only _ _ _).mono
  · exact judge_only _ _ _
theorem decideEntry_only (s : State) (h : Side) (i : Identity) (n : Option Nat) :
    Only identifyBlocks s (s.decideEntry h i n) := by
  unfold State.decideEntry; split
  · exact Only.refl _ _
  · exact settleIdentity_only ((setEntry_only _ _).next (showService_only _ _ _))
theorem decideStandIn_only (s : State) (h : Side) (i : Identity) (n : Option Nat) (c : Option Carry) :
    Only identifyBlocks s (s.decideStandIn h i n c) := by
  unfold State.decideStandIn
  exact settleIdentity_only ((setHose_only _ _ _).next (showService_only _ _ _))
theorem refuseUnknown_only (s : State) (h : Side) : Only [.hoses, .notice] s (s.refuseUnknown h) := by
  unfold State.refuseUnknown; split <;> exact refuse_only _ _ _
theorem identified_only (s : State) (h : Side) : Only identifyBlocks s (s.identified h) := by
  unfold State.identified; dsimp only; split
  · exact Only.refl _ _
  · split
    · rename_i e; exact (mergeTag_only e).trans (decideEntry_only _ _ _ _)
    · split
      · exact decideStandIn_only _ _ _ _ _
      · exact (refuseUnknown_only _ _).mono

/-! ### The delivery cycle -/

/-- The blocks that the delivery cycle can change. -/
abbrev cycleBlocks : List Block := identifyBlocks

theorem setDelivery_only (s : State) (h : Side) (d : Delivery) : Only [.hoses] s (s.setDelivery h d) :=
  setHose_only _ _ _
theorem journalStep_only (s : State) (h : Side) (d : Delivery) (n : Nat) : Only cycleBlocks s (s.journalStep h d n) :=
  Only.next (bs := cycleBlocks) (Only.next (bs := cycleBlocks) ((setDelivery_only s _ _).next (bs := cycleBlocks)
    (requestProgress_only _ _ _)) (ownAbsorb_only _ _ _ _)) (setTag_only _ _ _)
theorem actOnCompares_only (s : State) (h : Side) (d : Delivery) (n : Nat) :
    Only cycleBlocks s (s.actOnCompares h d n) := by
  unfold State.actOnCompares; dsimp only; split
  · exact (endDelivery_only _ _ _).mono
  · split
    · exact (setHose_only _ _ _).mono
    · exact Only.refl _ _
theorem flowUpdate_only (s : State) (h : Side) (b : Bool) : Only cycleBlocks s (s.flowUpdate h b) := by
  unfold State.flowUpdate; dsimp only
  have a : Only cycleBlocks s (if b then s.startStall h else s) := by
    split
    · exact (setHose_only _ _ _).mono
    · exact Only.refl _ _
  generalize (if b then s.startStall h else s) = s1 at a ⊢
  split
  · exact a
  · refine Only.trans (bs := cycleBlocks) (a.trans ?_) (actOnCompares_only _ _ _ _)
    split
    · exact journalStep_only _ _ _ _
    · exact Only.refl _ _
theorem startFlow_only (s : State) (h : Side) : Only [.hoses] s (s.startFlow h) := setHose_only _ _ _
theorem markUncompensated_only (s : State) (h : Side) : Only [.hoses] s (s.markUncompensated h) := by
  unfold State.markUncompensated; dsimp only; split
  · exact Only.refl _ _
  · split
    · exact setDelivery_only _ _ _
    · exact Only.refl _ _
theorem valveLeak_only (s : State) (h : Side) : Only cycleBlocks s (s.valveLeak h) := by
  unfold State.valveLeak; dsimp only; split
  · exact Only.next (bs := cycleBlocks) (Only.next (bs := cycleBlocks) ((setMeter_only s _ _).next (bs := cycleBlocks)
      (setHose_only _ _ _)) (setTag_only _ _ _)) (hoseItem_only _ _)
  · exact Only.next (bs := cycleBlocks) ((setMeter_only s _ _).next (bs := cycleBlocks) (setHose_only _ _ _))
      (hoseItem_only _ _)
theorem meterUpdate_only (s : State) (h : Side) (b : Bool) : Only cycleBlocks s (s.meterUpdate h b) := by
  unfold State.meterUpdate; dsimp only
  refine Only.next (bs := cycleBlocks) (b2 := cycleBlocks) (markUncompensated_only s h) ?_
  split
  · split
    · exact (startFlow_only _ _).next (flowUpdate_only _ _ _)
    · exact Only.refl _ _
  · exact flowUpdate_only _ _ _
  · exact flowUpdate_only _ _ _
  · split
    · exact valveLeak_only _ _
    · exact Only.refl _ _
theorem meterFault_only (s : State) (h : Side) : Only endBlocks s (s.meterFault h) := by
  unfold State.meterFault; dsimp only; split
  · exact endDelivery_only _ _ _
  · split
    · exact (setDelivery_only _ _ _).mono
    · exact Only.refl _ _
theorem reportFaults_only (s : State) (h : Side) : Only cycleBlocks s (s.reportFaults h) := by
  unfold State.reportFaults; dsimp only; split
  · exact (setMeter_only _ _ _).next (meterFault_only _ _)
  · exact Only.refl _ _
theorem recomputeGross_only (s : State) (h : Side) : Only cycleBlocks s (s.recomputeGross h) := by
  unfold State.recomputeGross; dsimp only; split
  · exact ((setMeter_only s _ _).trans (setMeter_only _ _ _)).next (meterUpdate_only _ _ _)
  · exact Only.refl _ _
theorem takeEdge_only (s : State) (h : Side) (ch : Channel) (l : Bool) : Only cycleBlocks s (s.takeEdge h ch l) := by
  unfold State.takeEdge; dsimp only
  have a : Only cycleBlocks s (if ((s.meter h).edge ch l).faultCount ≠ (s.meter h).faultCount
      then (s.setMeter h ((s.meter h).edge ch l)).reportFaults h else s.setMeter h ((s.meter h).edge ch l)) := by
    split
    · exact (setMeter_only _ _ _).next (reportFaults_only _ _)
    · exact (setMeter_only _ _ _).mono
  split
  · exact a.trans (recomputeGross_only _ _)
  · exact a
theorem recordDelivery_only (s : State) (h : Side) (b : Bool) :
    Only [.hoses, .journal, .classes] s (s.recordDelivery h b) := by
  unfold State.recordDelivery; split
  · exact Only.refl _ _
  · split
    · exact Only.refl _ _
    · exact (setDelivery_only _ _ _).next (passAppend_only _ _ _)
theorem afterSettle_only (s : State) (h : Side) (d : Delivery) :
    Only [.hoses, .tags, .journal, .classes] s (s.afterSettle h d) := by
  unfold State.afterSettle; split
  · exact (recordDelivery_only _ _ _).mono
  · exact (setTag_only _ _ _).mono
theorem settleEnd_only (s : State) (h : Side) (d : Delivery) : Only cycleBlocks s (s.settleEnd h d) := by
  unfold State.settleEnd; dsimp only
  have a {x : Delivery} {i : Item} : Only cycleBlocks s ((s.setDelivery h x).ownAbsorb h x i) :=
    (setDelivery_only s _ _).next (ownAbsorb_only _ _ _ _)
  have b {s1 : State} {img : IssueRecord} {m : Meter} :
      Only cycleBlocks s1 (((s1.requestFinal h img).setReservation h none).setMeter h m) :=
    Only.next (bs := cycleBlocks) ((requestFinal_only s1 _ _).next (bs := cycleBlocks) (setReservation_only _ _ _))
      (setMeter_only _ _ _)
  split
  · exact (a.trans b).trans ((setHose_only _ _ _).next (afterSettle_only _ _ _))
  · exact (a.trans b).trans (Only.next (bs := cycleBlocks) ((setHose_only _ _ _).next (bs := cycleBlocks)
      (hoseItem_only _ _)) (afterSettle_only _ _ _))
theorem writeBackOver_only (s : State) (h : Side) (b : Bool) :
    Only [.hoses, .tags, .journal, .classes] s (s.writeBackOver h b) := by
  unfold State.writeBackOver; dsimp only; split
  · exact Only.next (bs := [.hoses, .tags, .journal, .classes]) ((setTag_only s _ _).next
      (bs := [.hoses, .tags, .journal, .classes]) (setHose_only _ _ _)) (recordDelivery_only _ _ _)
  · split
    · exact (setTag_only _ _ _).next (recordDelivery_only _ _ _)
    · exact (setTag_only _ _ _).mono
theorem hangInWriteBack_only (s : State) (h : Side) :
    Only [.hoses, .tags, .journal, .classes] s (s.hangInWriteBack h) := by
  unfold State.hangInWriteBack; dsimp only; split
  · exact (setTag_only _ _ _).next (writeBackOver_only _ _ _)
  · exact (setTag_only _ _ _).mono
theorem hoseRecorded_only (s : State) (h : Side) : Only [.hoses] s (s.hoseRecorded h) := by
  unfold State.hoseRecorded; dsimp only; split
  · exact setHose_only _ _ _
  · split
    · exact setHose_only _ _ _
    · exact Only.refl _ _
theorem clearFault_only (s : State) (h : Side) : Only [.hoses, .meters, .notice] s (s.clearFault h) := by
  unfold State.clearFault; dsimp only; split
  · exact Only.next (bs := [.hoses, .meters, .notice]) ((setMeter_only s _ _).next (bs := [.hoses, .meters, .notice])
      (setHose_only _ _ _)) (hoseItem_only _ _)
  · exact Only.refl _ _
theorem startCycle_only (s : State) (h : Side) : Only [.hoses, .tags] s (s.startCycle h) :=
  (setHose_only _ _ _).next (setTag_only _ _ _)
theorem leaveIdentifying_only (s : State) (h : Side) (n : HoseState) :
    Only [.hoses, .tags] s (s.leaveIdentifying h n) :=
  (setHose_only _ _ _).next (setTag_only _ _ _)
theorem hang_only (s : State) (h : Side) : Only cycleBlocks s (s.hang h) := by
  unfold State.hang; dsimp only; split
  · exact (setHose_only _ _ _).mono
  · exact (setHose_only _ _ _).mono
  · exact (leaveIdentifying_only _ _ _).mono
  · exact (endDelivery_only _ _ _).mono
  · exact (endDelivery_only _ _ _).mono
  · exact (endDelivery_only _ _ _).mono
  · exact (setHose_only _ _ _).mono
  · exact (setHose_only _ _ _).next (hangInWriteBack_only _ _)
  · split
    · exact (hangInWriteBack_only _ _).mono
    · exact Only.refl _ _
  all_goals exact Only.refl _ _

/-! ### Readers -/

theorem serveTag_only (s : State) (h : Side) : Only [.tags] s (s.serveTag h) := setTag_only _ _ _
theorem askNext_only (s : State) (h : Side) (k : ReadKind) : Only [.tags] s (s.askNext h k) := by
  unfold State.askNext; split
  · exact setTag_only _ _ _
  · exact serveTag_only _ _
theorem readsOver_only (s : State) (h : Side) : Only cycleBlocks s (s.readsOver h) := by
  unfold State.readsOver; dsimp only; split
  · exact (serveTag_only _ _).next (identified_only _ _)
  · exact (serveTag_only _ _).mono
theorem exchangeDone_only (s : State) (h : Side) (r : Request) (x : Success) :
    Only cycleBlocks s (s.exchangeDone h r x) := by
  unfold State.exchangeDone; dsimp only; split
  · exact Only.next (bs := cycleBlocks) ((setTag_only s _ _).next (bs := cycleBlocks) (setHose_only _ _ _))
      (askNext_only _ _ _)
  · exact ((setTag_only s _ _).trans (askNext_only _ _ _)).mono
  · exact (setTag_only _ _ _).next (readsOver_only _ _)
  · exact ((setTag_only s _ _).trans (serveTag_only _ _)).mono
  · split
    · exact ((setTag_only s _ _).trans (serveTag_only _ _)).next (writeBackOver_only _ _ _)
    · exact ((setTag_only s _ _).trans (serveTag_only _ _)).mono
theorem exchangeGivenUp_only (s : State) (h : Side) (r : Request) :
    Only cycleBlocks s (s.exchangeGivenUp h r) := by
  unfold State.exchangeGivenUp; dsimp only; split
  · exact ((setTag_only s _ _).trans (askNext_only _ _ _)).mono
  · exact (((setTag_only s _ _).trans (setTag_only _ _ _)).trans (askNext_only _ _ _)).mono
  · exact ((setTag_only s _ _).trans (setTag_only _ _ _)).next (readsOver_only _ _)
  · exact ((setTag_only s _ _).trans (serveTag_only _ _)).mono
  · exact ((setTag_only s _ _).trans (serveTag_only _ _)).next (writeBackOver_only _ _ _)
  · exact ((setTag_only s _ _).trans (serveTag_only _ _)).mono
theorem attemptEnded_only (s : State) (h : Side) (x : Exchange) (a : ReaderAnswer) :
    Only cycleBlocks s (s.attemptEnded h x a) := by
  unfold State.attemptEnded; dsimp only
  refine Only.next (bs := cycleBlocks) (b2 := cycleBlocks) (pollResult_only s h ((s.tag h).answeredBy a)) ?_
  split
  · exact exchangeDone_only _ _ _ _
  · split
    · exact (setTag_only _ _ _).mono
    · exact exchangeGivenUp_only _ _ _
theorem endAttempt_only (s : State) (h : Side) (x : Exchange) (a : ReaderAnswer) :
    Only cycleBlocks s (s.endAttempt h x a) := by
  unfold State.endAttempt; split
  · split
    · exact attemptEnded_only _ _ _ _
    · exact Only.refl _ _
  · split
    · exact ((setTag_only s _ _).trans (serveTag_only _ _)).mono
    · exact Only.refl _ _
  · exact Only.refl _ _
theorem readerAnswer_only (s : State) (h : Side) (n : BitVec 8) (a : ReaderAnswer) :
    Only cycleBlocks s (s.readerAnswer h n a) := by
  unfold State.readerAnswer; split
  · exact Only.refl _ _
  · split
    · exact endAttempt_only _ _ _ _
    · exact Only.refl _ _

/-! ### Reception -/

/-- The blocks that a frame can change. -/
abbrev frameBlocks : List Block := .line :: .classes :: recordBlocks

theorem dispatch_only (s : State) (f : SiteFrame) : Only frameBlocks s (s.dispatch f) := by
  unfold State.dispatch State.ifAuthorised; split
  · exact (takeIssue_only _ _ _).mono
  · split
    · exact (takeService_only _ _ _ _ _).mono
    · exact (countUnauthorised_only _).mono
  · split
    · exact (takeVehicleNotice_only _ _ _).mono
    · exact (countUnauthorised_only _).mono
  · split
    · exact (takeClassNotice_only _ _ _).mono
    · exact (countUnauthorised_only _).mono
  · exact Only.refl _ _
theorem takeRecordFrame_only (s : State) (f : SiteFrame) : Only frameBlocks s (s.takeRecordFrame f) := by
  unfold State.takeRecordFrame; dsimp only; split
  · exact ((setLine_only s _).trans (trySend_only _)).mono
  · exact Only.next (bs := frameBlocks) (Only.next (bs := frameBlocks) (Only.next (bs := frameBlocks)
      ((setLine_only s _).trans (setLine_only _ _)) (heardItem_only _ _)) (dispatch_only _ _)) (trySend_only _)
theorem takeBeacon_only (s : State) (f : SiteFrame) : Only frameBlocks s (s.takeBeacon f) :=
  Only.next (bs := frameBlocks) ((setLine_only s _).next (bs := frameBlocks) (beaconItem_only _ _)) (trySend_only _)
theorem countBadFrame_only (s : State) : Only [.line] s s.countBadFrame := by
  unfold State.countBadFrame; split
  · exact setLine_only _ _
  · exact Only.refl _ _
theorem takeOwnNumber_only (s : State) (f : SiteFrame) : Only [.line] s (s.takeOwnNumber f) := by
  unfold State.takeOwnNumber; split
  · exact Only.refl _ _
  · exact setLine_only _ _
theorem takeFrame_only (s : State) (f : SiteFrame) : Only frameBlocks s (s.takeFrame f) := by
  unfold State.takeFrame; split
  · exact (takeOwnNumber_only _ _).mono
  · split
    · exact takeBeacon_only _ _
    · exact takeRecordFrame_only _ _
theorem handOver_only (s : State) (k : Kind) (f : SiteFrame) : Only frameBlocks s (s.handOver k f) := by
  unfold State.handOver; split
  · exact takeFrame_only _ _
  · split
    · exact (setLine_only _ _).mono
    · exact Only.refl _ _
theorem setReceiver_only (s : State) (bytes : List Byte) (skipping : Bool) :
    Only [.line] s (s.setReceiver bytes skipping) := setLine_only _ _
theorem gapPassed_only (s : State) : Only [.line] s s.gapPassed := by
  unfold State.gapPassed; split
  · exact setReceiver_only _ _ _
  · exact (setReceiver_only _ _ _).trans (countBadFrame_only _)
theorem frameEnded_only {s : State} {take : List Byte → Option State} (bs : List Block)
    (h : ∀ f t, take f = some t → Only bs s t) (f : List Byte) (m : ∀ b ∈ [Block.line], b ∈ bs := by decide) :
    Only bs s (s.frameEnded take f) := by
  unfold State.frameEnded; split
  · exact h _ _ (by assumption)
  · split
    · exact Only.refl _ _
    · exact (countBadFrame_only _).mono m
theorem hearRun_only (s : State) (bytes : List Byte) (bs : List Block) {take : State → List Byte → Option State}
    (h : ∀ u f t, take u f = some t → Only bs u t) (m : ∀ b ∈ [Block.line], b ∈ bs := by decide) :
    Only bs s (s.hearRun bytes take) := by
  unfold State.hearRun; split
  · exact Only.refl _ _
  · split
    · exact Only.refl _ _
    · exact (setReceiver_only _ _ _).mono m
    · exact (setReceiver_only _ _ _).mono m
    · exact ((setReceiver_only _ _ _).trans (countBadFrame_only _)).mono m
    · exact ((setReceiver_only s _ _).mono m).trans (frameEnded_only bs (fun f t e => h _ f t e) _ m)
theorem hearBytes_only (s : State) (x : LineBytes) (bs : List Block)
    {take : State → List Byte → Option State} (h : ∀ u f t, take u f = some t → Only bs u t)
    (m : ∀ b ∈ [Block.line], b ∈ bs := by decide) : Only bs s (s.hearBytes x take) := by
  unfold State.hearBytes; split
  · split
    · exact ((gapPassed_only s).mono m).trans (hearRun_only _ _ bs h m)
    · exact hearRun_only _ _ bs h m
  · exact Only.refl _ _
theorem receive_only (s : State) (k : Kind) (x : LineBytes) :
    Only frameBlocks s (s.receive k x) := by
  refine hearBytes_only s x frameBlocks fun u f t e => ?_
  obtain ⟨x, -, rfl⟩ := Option.map_eq_some_iff.1 e
  exact handOver_only _ _ _

/-! ### The converter scan -/

theorem cutOffAt_only (s : State) (h t : Side) : Only endBlocks s (s.cutOffAt h t) := by
  unfold State.cutOffAt; split
  · exact endDelivery_only _ _ _
  · exact Only.refl _ _
theorem levelUpdate_only (s : State) (t : Side) (n : Nat) : Only (.tanks :: endBlocks) s (s.levelUpdate t n) := by
  unfold State.levelUpdate; dsimp only; split
  · exact (setTank_only s _ _).next ((cutOffAt_only _ _ _).trans (cutOffAt_only _ _ _))
  · exact (setTank_only _ _ _).mono
theorem testStockAt_only (s : State) (h : Side) : Only [.hoses] s (s.testStockAt h) := by
  unfold State.testStockAt; dsimp only; split
  · exact Only.refl _ _
  · split
    · exact setHose_only _ _ _
    · exact Only.refl _ _
theorem testStock_only (s : State) : Only [.hoses] s s.testStock :=
  (testStockAt_only _ _).trans (testStockAt_only _ _)
theorem startScan_only (s : State) : Only [.scan, .hoses] s s.startScan :=
  (setScan_only _ _).next (testStock_only _)
theorem goodResponse_only (s : State) (pos : Nat) (e : ScanEntry) (code : BitVec 12) :
    Only (.scan :: .tanks :: endBlocks) s (s.goodResponse pos e code) := by
  unfold State.goodResponse; dsimp only; split
  · exact (setScan_only _ _).mono
  · exact (setScan_only _ _).next (levelUpdate_only _ _ _)
theorem clearScan_only (s : State) : Only [.scan, .hoses] s s.clearScan := by
  unfold State.clearScan; split
  · exact (setScan_only _ _).next (startScan_only _)
  · exact Only.refl _ _

/-! ### Panel and notice port -/

theorem answerRequest_only (s : State) : Only [.panel] s s.answerRequest := by
  unfold State.answerRequest; split
  · exact setPanel_only _ _
  · exact Only.refl _ _
theorem clearPress_only (s : State) : Only [.hoses, .meters, .notice, .scan] s s.clearPress := by
  unfold State.clearPress; dsimp only
  have a : Only [.hoses, .meters, .notice, .scan] s
      (if s.inRun then (s.clearFault .one).clearFault .two else s) := by
    split
    · exact ((clearFault_only s _).trans (clearFault_only _ _)).mono
    · exact Only.refl _ _
  generalize (if s.inRun then (s.clearFault .one).clearFault .two else s) = s1 at a ⊢
  split
  · exact a.trans (clearScan_only _).mono
  · exact a
theorem accept_only (s : State) (x : Submission) : Only [.journal, .classes] s (s.accept x) :=
  (takeSequence_only _).trans (passAppend_only _ _ _)
theorem submit_only (s : State) (x : Submission) : Only [.journal, .classes, .notice] s (s.submit x) := by
  unfold State.submit; split
  · exact (reply_only _ _).mono
  · exact (accept_only _ _).mono
theorem takeInHand_only (s : State) (f : List Byte) : Only [.notice] s (s.takeInHand f) := setNotice_only _ _
theorem hearSubmission_only (s : State) (bytes : List Byte) (bs : List Block) {take : State → List Byte → Option State}
    (h : ∀ u f t, take u f = some t → Only bs u t) (m : ∀ b ∈ [Block.notice], b ∈ bs := by decide) :
    Only bs s (s.hearSubmission bytes take) := by
  unfold State.hearSubmission; split
  · split
    · exact Only.refl _ _
    · split
      · exact ((takeInHand_only s _).mono m).trans (h _ _ _ (by assumption))
      · split
        · exact Only.refl _ _
        · exact ((takeInHand_only s _).trans (reply_only _ _)).mono m
  · exact Only.refl _ _
theorem submitFrame_only (s : State) (k : SubmissionKind) (f : List Byte) (read : Nat → List Byte → Submission) :
    Only [.journal, .classes, .notice] s (s.submitFrame k f read) := by
  refine hearSubmission_only s f _ fun u f t e => ?_
  obtain ⟨x, -, rfl⟩ := Option.map_eq_some_iff.1 e
  exact submit_only _ _

/-! ### Completions of memory operations -/

theorem afterService_only (s : State) : Only [.journal, .classes] s s.afterService :=
  Only.next (bs := [.journal, .classes]) ((endService_only s).next (bs := [.journal, .classes]) (serveNext_only _))
    (requestSendRead_only _)
theorem countTurnedAway_only (s : State) (b : Bool) : Only [.fleet] s (s.countTurnedAway b) := by
  unfold State.countTurnedAway; split
  · exact countNotApplied_only _
  · exact Only.refl _ _
theorem applyOwn_only (s : State) (r : Record) : Only (.classes :: recordBlocks) s (s.applyOwn r) := by
  unfold State.applyOwn; split
  · exact Only.refl _ _
  · exact (takeService_only _ _ _ _ _).mono
  · exact (takeVehicleNotice_only _ _ _).next (bs := .classes :: recordBlocks) (countTurnedAway_only _ _)
  · exact (takeClassNotice_only _ _ _).next (bs := .classes :: recordBlocks) (countTurnedAway_only _ _)
theorem absorbRecovered_only (s : State) (r : Record) : Only recordBlocks s (s.absorbRecovered r) := by
  unfold State.absorbRecovered; split
  · exact takeIssue_only _ _ _
  · exact Only.refl _ _
theorem reportAppend_only (s : State) (src : AppendSource) (r : Record) :
    Only (.classes :: recordBlocks) s (s.reportAppend src r) := by
  unfold State.reportAppend; split
  · split
    · exact (hoseRecorded_only _ _).mono
    · exact Only.refl _ _
  · exact (applyOwn_only _ _).next (reply_only _ _)
  · exact (absorbRecovered_only _ _).mono
theorem appendDone_only (s : State) (src : AppendSource) (r : Record) :
    Only (.classes :: recordBlocks) s (s.appendDone src r) :=
  Only.next (bs := .classes :: recordBlocks) ((ownItem_only s _).next (bs := .classes :: recordBlocks)
    (afterService_only _)) (reportAppend_only _ _ _)
theorem enterConfigFault_only (s : State) (r : ConfigFaultReason) (n : Nat) :
    Only [.start, .line] s (s.enterConfigFault r n) :=
  (setStart_only _ _).next (setLine_only _ _)
theorem operationFails_only (s : State) : Only [.start, .line, .journal, .classes] s s.operationFails := by
  unfold State.operationFails; split
  · split
    · exact (setStart_only _ _).next (enterConfigFault_only _ _ _)
    · exact (setStart_only _ _).mono
  · split
    · exact Only.refl _ _
    · exact Only.next (bs := [.start, .line, .journal, .classes]) ((sendReadDone_only s _ _).next
        (bs := [.start, .line, .journal, .classes]) (afterService_only _)) (trySend_only _)
    · exact (setJournal_only _ _).mono

/-! ### Starts -/

theorem loadPlans_only (s : State) (failed : BitVec 8) : Only [.classes] s (s.loadPlans failed) := setClasses_only _ _
theorem placeSiteTime_only (s : State) (n : Nat) : Only [.line] s (s.placeSiteTime n) := setLine_only _ _
theorem releaseHose_only (s : State) (h : Side) : Only [.hoses] s (s.releaseHose h) := by
  unfold State.releaseHose; split
  · exact setHose_only _ _ _
  · exact Only.refl _ _
theorem enterRun_only (s : State) : Only [.start, .hoses, .line] s s.enterRun :=
  Only.next (bs := [.start, .hoses, .line]) (Only.next (bs := [.start, .hoses, .line])
    ((setStart_only s _).next (bs := [.start, .hoses, .line]) ((releaseHose_only _ _).trans (releaseHose_only _ _)))
    (setLine_only _ _)) (trySend_only _)
theorem enterListen_only (s : State) : Only [.start, .notice, .journal, .classes] s s.enterListen := by
  unfold State.enterListen; dsimp only
  refine Only.next (bs := [.start, .notice, .journal, .classes]) (b1 := [.start, .notice, .journal, .classes]) ?_
    (requestSendRead_only _)
  split
  · exact (setStart_only s _).next (setNotice_only _ _)
  · exact (setStart_only _ _).mono
theorem requestFormat_only (s : State) : Only [.journal, .classes] s s.requestFormat :=
  ((pushOp_only s _).trans (pushOp_only _ _)).trans (requestHeader_only _)
theorem placeScanEnd_only (s : State) (e : ScanEnd) : Only [.hoses, .line] s (s.placeScanEnd e) :=
  Only.next (bs := [.hoses, .line]) ((setHose_only s _ _).trans (setHose_only _ _ _)) (placeSiteTime_only _ _)
theorem endScan_only (s : State) : Only [.start, .hoses, .line, .notice, .journal, .classes] s s.endScan := by
  unfold State.endScan; split
  · exact Only.refl _ _
  · split
    · exact Only.next (bs := [.start, .hoses, .line, .notice, .journal, .classes])
        ((setStart_only s _).next (bs := [.start, .hoses, .line, .notice, .journal, .classes])
          (placeScanEnd_only _ _)) (enterListen_only _)
    · exact Only.refl _ _

end Sys2Proof.Machine
end

