-- ==== Sys2Proof/Laws/Memory.lean ====
section
/-! SUPPORT. The journal memory: every operation keeps the canonical form, and a read after a write. -/

namespace Sys2Proof.Machine

/-- The bound below a memory lies under an address. -/
def boundBelow (bound : Option Nat) (a : Nat) : Prop :=
  match bound with
  | none => True
  | some b => b < a

theorem wfFrom_nil (bound : Option Nat) : Memory.wfFrom bound [] = true := by cases bound <;> rfl

theorem wfFrom_cons (bound : Option Nat) (x : Nat) (c : Byte) (rest : List Host.Cell) :
    Memory.wfFrom bound ((x, c) :: rest) = true ↔
      boundBelow bound x ∧ c ≠ unlisted ∧ Memory.wfFrom (some x) rest = true := by
  cases bound <;> simp [Memory.wfFrom, boundBelow, and_assoc]

theorem boundBelow.trans {bound : Option Nat} {x a : Nat} (h : boundBelow bound x) (hx : x < a) :
    boundBelow bound a := by
  cases bound <;> simp_all [boundBelow]; omega

theorem wfFrom_weaken {bound : Option Nat} {x : Nat} (hb : boundBelow bound x) {m : List Host.Cell}
    (h : Memory.wfFrom (some x) m = true) : Memory.wfFrom bound m = true := by
  cases m with
  | nil => exact wfFrom_nil bound
  | cons e rest =>
    obtain ⟨y, c⟩ := e
    rw [wfFrom_cons] at h ⊢
    exact ⟨hb.trans h.1, h.2⟩

theorem memWrite_wfFrom (m : List Host.Cell) (bound : Option Nat) (a : Nat) (b : Byte) (ha : boundBelow bound a)
    (h : Memory.wfFrom bound m = true) : Memory.wfFrom bound (memWrite m a b) = true := by
  induction m generalizing bound with
  | nil =>
    unfold memWrite
    split
    · exact h
    · rw [wfFrom_cons]; exact ⟨ha, ‹_›, rfl⟩
  | cons e rest ih =>
    obtain ⟨x, c⟩ := e
    have h' := (wfFrom_cons bound x c rest).mp h
    unfold memWrite
    split
    · split
      · exact h
      · rename_i hlt hne
        rw [wfFrom_cons]
        refine ⟨ha, hne, ?_⟩
        rw [wfFrom_cons]
        exact ⟨hlt, h'.2⟩
    · split
      · rename_i heq
        split
        · exact wfFrom_weaken h'.1 h'.2.2
        · rw [wfFrom_cons]; exact ⟨ha, ‹_›, heq ▸ h'.2.2⟩
      · rw [wfFrom_cons]
        refine ⟨h'.1, h'.2.1, ih (some x) ?_ h'.2.2⟩
        show x < a
        omega

theorem memWrite_wf {m : List Host.Cell} (h : Memory.wf m = true) (a : Nat) (b : Byte) :
    Memory.wf (memWrite m a b) = true := memWrite_wfFrom m none a b trivial h

theorem memWriteBytes_wf {m : List Host.Cell} (h : Memory.wf m = true) (a : Nat) (bs : List Byte) :
    Memory.wf (memWriteBytes m a bs) = true := by
  induction bs generalizing m a with
  | nil => exact h
  | cons b bs ih => exact ih (memWrite_wf h a b) (a + 1)

theorem memSetCells_wf {m : List Host.Cell} (h : Memory.wf m = true) (cells : List Host.Cell) :
    Memory.wf (memSetCells m cells) = true := by
  induction cells generalizing m with
  | nil => exact h
  | cons c cells ih => exact ih (memWrite_wf h c.1 c.2)

theorem memRead_below {m : List Host.Cell} {k x : Nat} (h : Memory.wfFrom (some k) m = true) (hx : x ≤ k) :
    memRead m x = unlisted := by
  induction m generalizing k with
  | nil => rfl
  | cons e rest ih =>
    obtain ⟨y, c⟩ := e
    rw [wfFrom_cons] at h
    have hk : k < y := h.1
    have : ¬ y = x := by omega
    simp only [memRead, if_neg this]
    exact ih h.2.2 (by omega)

theorem memRead_memWrite_from (m : List Host.Cell) (bound : Option Nat) (h : Memory.wfFrom bound m = true)
    (a : Nat) (b : Byte) (x : Nat) :
    memRead (memWrite m a b) x = if x = a then b else memRead m x := by
  induction m generalizing bound with
  | nil =>
    unfold memWrite
    split
    · rename_i hb
      simp [memRead, hb]
    · simp [memRead, eq_comm]
  | cons e rest ih =>
    obtain ⟨y, c⟩ := e
    have h' := (wfFrom_cons bound y c rest).mp h
    unfold memWrite
    split
    · rename_i hlt
      split
      · rename_i hb
        by_cases hx : x = a
        · have hy : ¬ y = x := by omega
          simp only [hx, if_true, hb, memRead]
          rw [if_neg (by omega)]
          exact memRead_below h'.2.2 (by omega)
        · simp [hx]
      · by_cases hx : x = a
        · simp [memRead, hx]
        · have : ¬ a = x := fun e => hx e.symm
          simp [memRead, hx, this]
    · split
      · rename_i hnl heq
        subst heq
        split
        · rename_i hb
          by_cases hx : x = a
          · simp [hx, hb, memRead_below h'.2.2 (Nat.le_refl a)]
          · have : ¬ a = x := fun e => hx e.symm
            simp [memRead, hx, this]
        · by_cases hx : x = a
          · simp [memRead, hx]
          · have : ¬ a = x := fun e => hx e.symm
            simp [memRead, hx, this]
      · rename_i hnl hne
        simp only [memRead, ih (some y) h'.2.2]
        by_cases hy : y = x
        · have : ¬ x = a := by omega
          simp [hy, this]
        · simp [hy]

/-- A read after a write. -/
theorem memRead_memWrite {m : List Host.Cell} (h : Memory.wf m = true) (a : Nat) (b : Byte) (x : Nat) :
    memRead (memWrite m a b) x = if x = a then b else memRead m x := memRead_memWrite_from m none h a b x

/-- Bytes written from an address leave every byte outside them. -/
theorem memWriteBytes_outside {m : List Host.Cell} (h : Memory.wf m = true) (a : Nat) (bs : List Byte) :
    SameOutside a bs.length m (memWriteBytes m a bs) := by
  induction bs generalizing m a with
  | nil => intro x _; rfl
  | cons b bs ih =>
    intro x hx
    have hx' : x < a + 1 ∨ a + 1 + bs.length ≤ x := by
      simp only [List.length_cons] at hx; omega
    have hxa : ¬ x = a := by simp only [List.length_cons] at hx; omega
    rw [memWriteBytes, ih (memWrite_wf h a b) (a + 1) x hx', memRead_memWrite h, if_neg hxa]

/-- Bytes written are read back. -/
theorem memReadBytes_memWriteBytes {m : List Host.Cell} (h : Memory.wf m = true) (a : Nat) (bs : List Byte) :
    memReadBytes (memWriteBytes m a bs) a bs.length = bs := by
  induction bs generalizing m a with
  | nil => rfl
  | cons b bs ih =>
    have hw := memWrite_wf h a b
    have h1 : memRead (memWriteBytes (memWrite m a b) (a + 1) bs) a = b := by
      rw [memWriteBytes_outside hw (a + 1) bs a (Or.inl (Nat.lt_succ_self a)), memRead_memWrite h, if_pos rfl]
    simp only [memWriteBytes, List.length_cons, memReadBytes, h1, ih hw (a + 1)]

/-- The memory of the reset state has its canonical form. -/
theorem reset_memoryOk : State.reset.memoryOk := rfl

end Sys2Proof.Machine
end

