-- ==== Sys2Proof/Laws/Reception.lean ====
section
/-! SUPPORT. What the receiver's operations do, once each: the receiver's state, a receive gap, bytes where a
frame can begin, bytes that are skipped, and a frame that passes its checks (R123). -/

namespace Sys2Proof.Machine

set_option Elab.async false

variable {s : State} {bytes : List Byte} {take : State → List Byte → Option State}

@[simp] theorem State.setReceiver_line (bs : List Byte) (k : Bool) :
    (s.setReceiver bs k).line = { s.line with receiveBuffer := bs, skipping := k } := rfl
@[simp] theorem State.setReceiver_start (bs : List Byte) (k : Bool) : (s.setReceiver bs k).start = s.start := rfl
@[simp] theorem State.setReceiver_cfg (bs : List Byte) (k : Bool) : (s.setReceiver bs k).cfg = s.cfg := rfl
@[simp] theorem State.setReceiver_elapsed (bs : List Byte) (k : Bool) : (s.setReceiver bs k).elapsed = s.elapsed := rfl
@[simp] theorem State.setReceiver_journal (bs : List Byte) (k : Bool) : (s.setReceiver bs k).journal = s.journal := rfl
@[simp] theorem State.setReceiver_hearing (bs : List Byte) (k : Bool) : (s.setReceiver bs k).hearing = s.hearing := rfl
@[simp] theorem State.setReceiver_receiving (bs : List Byte) (k : Bool) :
    (s.setReceiver bs k).receiving = s.receiving := rfl
@[simp] theorem State.setReceiver_listening (bs : List Byte) (k : Bool) :
    (s.setReceiver bs k).listening = s.listening := rfl

/-- What `hearing` asks: a stage in which reception runs, and a sender that is not in SEND. -/
theorem State.hearing_iff : s.hearing = true ↔
    (s.start.stage = .listen ∨ s.start.stage = .run ∨ s.start.stage = .configFault) ∧ s.line.sender ≠ .send := by
  unfold State.hearing State.receiving State.listening
  cases s.start.stage <;> cases s.line.sender <;> decide

/-- While reception runs a bad frame raises the count and changes nothing else. -/
theorem countBadFrame_eq (h : s.receiving = true) :
    s.countBadFrame = s.setLine { s.line with badCrc := countUp s.line.badCrc } := by
  unfold State.countBadFrame; rw [if_pos h]

/-- A receive gap empties the buffer, ends the skipping, and counts a frame begun. -/
theorem gapPassed_line (h : s.receiving = true) : s.gapPassed.line = { s.line with
    receiveBuffer := [], skipping := false,
    badCrc := if s.line.receiveBuffer = [] then s.line.badCrc else countUp s.line.badCrc } := by
  unfold State.gapPassed; split
  · rfl
  · rw [countBadFrame_eq (by exact h)]; rfl
theorem gapPassed_hearing (s : State) : s.gapPassed.hearing = s.hearing := by
  unfold State.gapPassed; split
  · rfl
  · unfold State.countBadFrame; split <;> rfl

/-- Bytes that the receiver skips have no effect. -/
theorem hearRun_skipping (h : s.line.skipping = true) : s.hearRun bytes take = s := by
  unfold State.hearRun; rw [if_pos h]

/-- Bytes that the station does not hear have no effect. -/
theorem hearBytes_not_hearing (h : s.hearing = false) (x : LineBytes) : s.hearBytes x take = s := by
  unfold State.hearBytes; rw [h]; rfl

/-- Bytes after a receive gap are the gap and then the bytes. -/
theorem hearBytes_after_gap (h : s.hearing = true) :
    s.hearBytes ⟨true, bytes⟩ take = s.gapPassed.hearBytes ⟨false, bytes⟩ take := by
  unfold State.hearBytes; rw [gapPassed_hearing, h]; rfl

/-- Only where no byte stands does the delimiting find nothing. -/
theorem delimit_nothing (h : delimit bytes = .nothing) : bytes = [] := by
  unfold delimit at h; split at h
  · rfl
  · split at h <;> cases h
  · split at h
    · cases h
    · split at h
      · cases h
      · split at h <;> cases h

/-- Bytes with a frame begun before them are taken as all of that frame's bytes together. -/
theorem hearRun_begun (h : s.line.skipping = false) :
    s.hearRun bytes take = (s.setReceiver [] false).hearRun (s.line.receiveBuffer ++ bytes) take := by
  unfold State.hearRun
  rw [h, State.setReceiver_line, List.nil_append]
  cases hd : delimit (s.line.receiveBuffer ++ bytes) with
  | nothing =>
    have hb := (List.append_eq_nil_iff.1 (delimit_nothing hd)).1
    change s = ({ s with line := { s.line with receiveBuffer := [], skipping := false } } : State)
    rw [← h, ← hb]
  | _ => rfl

/-- A frame that passes its checks is whole: it ends with its last byte (R123). -/
theorem siteFrame_delimit {k : Kind} {frame : List Byte} {f : SiteFrame} (h : siteFrame k frame = some f) :
    delimit frame = .complete frame := by
  unfold siteFrame at h
  cases hp : parseFrame frame with
  | none => rw [hp] at h; cases h
  | some x =>
    unfold parseFrame at hp; split at hp
    · split at hp
      · rename_i len kind origin rest hh
        obtain ⟨rfl, hlen, hrest, -⟩ := hh
        have ht : rest.take (len.toNat + 2) = rest := List.take_of_length_le (by omega)
        simp [delimit, Nat.not_lt.2 hlen, hrest, ht]
      · cases hp
    · cases hp

/-- A frame that passes its checks, where one can begin, is handed over by its own kind's command; the receiver then
skips up to the next receive gap. -/
theorem hearRun_passing {k : Kind} {frame : List Byte} {f : SiteFrame} (h : siteFrame k frame = some f)
    (hk : s.line.skipping = false) (hb : s.line.receiveBuffer = []) :
    (s.hearRun frame fun s frame => (siteFrame k frame).map (s.handOver k)) = (s.setReceiver [] true).handOver k f := by
  unfold State.hearRun
  simp [hk, hb, siteFrame_delimit h, State.frameEnded, h]

end Sys2Proof.Machine
end

