-- ==== Sys2Proof/Tests/Slice0.lean ====
section
/-! SUPPORT. The model's own tests: ill-formed operands refused, worked examples of the spec, and for each
statement with premises a state and operands that meet all of them together. Expected values are the
spec's or worked by hand from its rules. -/

namespace Sys2Proof.Tests

set_option Elab.async false

open Sys2Proof.Machine

/-! ### Well-formedness: each check refuses an ill-formed operand -/

/-- A ring slot of the last position ends at 1,280 + 128 × 32,768, the first address that does not exist. -/
theorem test_wf_config_cell : Instr.wellFormed (.configAreaRead [(4195584, 1)] false) = false := by decide
theorem test_wf_plan_cell : Instr.wellFormed (.planAreaLoad [(4195584, 1)] 0) = false := by decide
theorem test_wf_scan_position :
    Instr.wellFormed (.journalScan [] ⟨false, [32768], ⟨false, false⟩⟩) = false := by decide
theorem test_wf_scan_cell :
    Instr.wellFormed (.journalScan [(4195584, 1)] ⟨false, [], ⟨false, false⟩⟩) = false := by decide
theorem test_wf_pass_position : Instr.wellFormed (.readOnlyPassEnd [] [40000]) = false := by decide
theorem test_wf_send_cell : Instr.wellFormed (.sendReadComplete [(4195584, 1)]) = false := by decide
theorem test_wf_block_length :
    Instr.wellFormed (.readerBlock .one 0 5 (List.replicate 163 0)) = false := by decide +kernel
theorem test_wf_issue_frame : Instr.wellFormed (.issueFrame ⟨true, [0x5A]⟩) = false := by decide
theorem test_wf_service_frame : Instr.wellFormed (.serviceFrame ⟨true, []⟩) = false := by decide
theorem test_wf_vehicle_frame : Instr.wellFormed (.vehicleNoticeFrame ⟨true, []⟩) = false := by decide
theorem test_wf_class_frame : Instr.wellFormed (.classNoticeFrame ⟨true, []⟩) = false := by decide
theorem test_wf_beacon_frame : Instr.wellFormed (.beaconFrame ⟨true, []⟩) = false := by decide
theorem test_wf_bad_frame : Instr.wellFormed (.badFrame ⟨true, []⟩) = false ∧
    Instr.wellFormed (.badFrame ⟨true, [1]⟩) = true ∧ Instr.wellFormed (.issueFrame ⟨false, [0x5A]⟩) = true := by decide
theorem test_wf_station : Instr.wellFormed (.peerStale 255) = false := by decide
theorem test_wf_submission : Instr.wellFormed (.submitService []) = false := by decide
theorem test_wf_malformed_submission : Instr.wellFormed (.malformedSubmission [1, 2]) = false ∧
    Instr.wellFormed (.malformedSubmission [0x5A, 4]) = true := by decide +kernel
theorem test_wf_last_cell : Instr.wellFormed (.configAreaRead [(4195583, 1)] false) = true := by decide

/-! ### Worked examples of the spec -/

/-- R189: "123456789" gives 29B1. -/
theorem test_crc : crc16 [0x31, 0x32, 0x33, 0x34, 0x35, 0x36, 0x37, 0x38, 0x39] = 0x29B1#16 := by
  decide +kernel

/-- R33: P = 10,000 at K_m = 98,450 gives 101,574 mL, and 10,001 gives 101,584 mL. -/
theorem test_gross : grossOf 10000 98450 = 101574 ∧ grossOf 10001 98450 = 101584 := by decide

/-- R39: ctl10 at the ends of its range. -/
theorem test_ctl10 : ctl10 1500 700 = 9175000 ∧ ctl10 1500 (-200) = 10525000 ∧ ctl10 0 321 = 10000000 := by decide

/-- R47: the table of adaptations. -/
theorem test_lead : adaptLead 600 380 = 790 ∧ adaptLead 600 (-220) = 490 ∧ adaptLead 790 381 = 981 := by decide

/-- R165: the ends of the code range and a clamped value. -/
theorem test_temperature : temperatureOf 4095 = (700, true) ∧ temperatureOf 0 = (-200, true) ∧
    temperatureOf 1331 = (150, false) := by decide

/-- R125: W of no peer, of two, and at its cap. -/
theorem test_window : windowFor 0 = 4 ∧ windowFor 2 = 12 ∧ windowFor 32 = 128 := by decide

/-- R137: 2 s ahead is merged, 1 s ahead only confirms. -/
theorem test_time_merge :
    ({ SiteLine.reset with siteTime := 100 } : SiteLine).mergeTime ⟨102, false, 1, 0⟩ =
      { SiteLine.reset with siteTime := 102 } ∧
    ({ SiteLine.reset with siteTime := 100 } : SiteLine).mergeTime ⟨101, true, 1, 0⟩ =
      { SiteLine.reset with siteTime := 100, confirmed := true } := by decide

/-- R134: after 40 then 9, 8 lies below H − 31 = 9; 9 is in the window once. -/
theorem test_peer_window :
    ((Peer.new 3 1).window 40 >>= fun p => p.window 9).isSome = true ∧
    ((Peer.new 3 1).window 40 >>= fun p => p.window 9 >>= fun p => p.window 9) = none ∧
    ((Peer.new 3 1).window 40 >>= fun p => p.window 8) = none := by decide

/-- R144: past 16,777,215 the sequence is 1 again and the epoch, at 65,535, becomes 1. -/
theorem test_sequence_wrap :
    ({ Journal.reset with nextSeq := 16777215, header := ⟨65535, 1024, 1, 1⟩ } : Journal).advanceSeq =
      { Journal.reset with nextSeq := 1, header := ⟨1, 1024, 1, 1⟩ } := by decide

/-- R171: the severest cause. -/
theorem test_cause : Cause.moreSevere .resetLine .supplyDip = .supplyDip ∧
    Cause.moreSevere .supplyDip .powerStart = .powerStart ∧
    Cause.moreSevere .resetLine .resetLine = .resetLine := by decide

/-! ### States for the witnesses -/

/-- A fitted hose of grade 1 at tank 1. -/
def hoseCfg0 : HoseConfig where
  present := true
  grade := 1
  tank := .one
  compare := 0
  care := 0
  km := 10000
  alpha := 850
  maxDelivery := 2000
  band := 1
  lead := 600
  overrun := 500
  faultLimit := 2
  liftWait := 60
  noFlow := 30
  stall := 20

/-- A configuration of station 7 with both hoses fitted; station 9 is an authority too. -/
def cfg0 : ConfigRecord :=
  { ConfigRecord.blank with
    station := 7, noticeEnable := true, authority := [7, 9], classDefault := true, tagLoss := 2, minIssue := 5
    keepTime := 24, shiftLength := 8, nj := 1024, journalStep := 50, responseWindow := 5
    scan := [⟨3, .tankLevel .one⟩], hoses := ⟨hoseCfg0, hoseCfg0⟩
    tanks := ⟨⟨3000, 500, 100, [(0, 0), (3000, 6000)]⟩, ⟨3000, 500, 100, [(0, 0), (3000, 6000)]⟩⟩ }

/-- The station in RUN with nothing going on. -/
def run0 : State :=
  { State.reset with
    start := { StartCtl.reset with stage := .run, recordGood := true, supplyGood := true }
    elapsed := 100000
    cfg := cfg0
    hoses := ⟨{ Hose.reset with state := .idle, lead := 600 }, { Hose.reset with state := .idle, lead := 600 }⟩
    line := { SiteLine.reset with held := false, siteTime := 1000000, running := true }
    journal := { Journal.reset with header := ⟨5, 1024, 1, 1⟩ } }

/-- The service result of a vehicle of an empty class. -/
def service0 : ServiceResult := ⟨.current, none, ⟨false, false, false, false⟩, none, true, false, false⟩

/-- A delivery of 100 L to vehicle 12 under way. -/
def delivery0 : Delivery where
  station := 7
  epoch := 5
  seq := 3
  vehicle := 12
  cls := 2
  grade := 1
  start := 999000
  shift := 34
  target := 100000
  steps := 0
  endReason := none
  endTime := none
  watch := .intact
  causes := .none
  service := service0
  flags := .none
  pendingFault := none
  finalImage := none

/-- Its reservation. -/
def reservation0 : Reservation where
  vehicle := 12
  watched := true
  station := 7
  epoch := 5
  seq := 3
  shift := 34
  target := 100000
  absorbed := 0
  capped := false
  allowance := .unlimited
  hold := false
  watch := .intact
  causes := .none
  rank := 0

/-- Hose 1 in a state of the delivery, with a gross and its timers running. -/
def delivering (st : HoseState) (stage : Stage) (gross : Nat) : State :=
  let s := run0.setHose .one { run0.hose .one with
    state := st, hook := .lifted, stage := stage, pump := true, delivery := some delivery0
    noFlow := some 130000, stall := some 120000, tagLoss := some 102000 }
  let s1 := (s.setReservation .one (some reservation0)).setMeter .one { Meter.reset with
    levelA := false, levelB := false, lastEdge := some .b, pulses := gross / 100, gross := gross
    weighted := gross * 150, lastNet := gross, lastGross := gross }
  s1.setJournal { s1.journal with claims := 1, nextSeq := 4 }

/-- Hose 1 in CLOSING with 1,000 mL counted. -/
def closing0 : State :=
  let s := delivering .flowing .full 1000
  s.setHose .one { s.hose .one with
    state := .closing, stage := .closed, pump := false, settle := some 103000, noFlow := none, stall := none
    tagLoss := none
    delivery := some { delivery0 with endReason := some .targetReached, endTime := some 1000000 } }

/-- Hose 1 in IDENTIFYING with a request in flight. -/
def identifying0 (r : Request) (attempts : Nat) : State :=
  let s := run0.setHose .one { run0.hose .one with state := .identifying, hook := .lifted, liftWait := some 160000 }
  s.setTag .one { TagUnit.reset with
    state := .inFlight, current := some ⟨r, 9, attempts, false⟩, window := some 100060, nextNumber := 10 }

/-- A candidate of vehicle 12, class 2, that passes every check. -/
def candidate0 : Candidate where
  identity := ⟨12, 2, 0xF, 0⟩
  watched := true
  carry := .blank
  grades := 0xF
  attrs := 0
  recordClass := 2
  cls := some { ClassRecord.empty with allowance := ⟨65535, none⟩, returnQty := ⟨40, none⟩ }
  base := .unlimited
  service := service0

/-- The entry of vehicle 12. -/
def entry0 : FleetEntry := FleetEntry.heardNew 12 .heard (some 2) 900000

/-- RUN with the entry of vehicle 12 in the table. -/
def fleet0 : State := run0.setFleet { run0.fleet with entries := [entry0] }

/-- An ISSUE record of 30 L to vehicle 12. -/
def issue0 : IssueRecord where
  epoch := 1
  seq := 8
  shift := 34
  cls := 3
  grade := 1
  hose := .one
  form := .asRecorded
  endReason := some .nozzleHung
  vehicle := 12
  start := 990000
  stop := 990100
  target := 40000
  gross := 30000
  net := 30000
  totalizer := 500000
  temperature := 150
  service := .current
  level := none
  unknown := ⟨false, false, false, false⟩
  causes := .none
  flags := .none
  snapshot := none

/-- Its frame from station 9. -/
def issueFrame0 : List Byte := frameOf 1 9 (Record.issue issue0).body
/-- A SERVICE record of vehicle 12 from station 9. -/
def serviceFrame0 : List Byte := frameOf 2 9 (Record.service 1 8 ⟨12, 2, 990000, 5000, 990500⟩).body
/-- A VEHICLE NOTICE for vehicle 12, allowance 80 L, from station 9. -/
def noticeFrame0 : List Byte := frameOf 3 9 (Record.vehicle 1 8 ⟨12, 990500, 0x80, 80, 0, 0, 0, 0⟩).body
/-- A CLASS NOTICE for class 2, default allowance 90 L, from station 9. -/
def classFrame0 : List Byte :=
  frameOf 4 9 (Record.cls 1 8 ⟨2, 990500, 0x80, 90, 0, 0, 0,
    ⟨⟨0, 0, 0, 0, 0, 0⟩, ⟨0, 0, 0, 0, 0, 0⟩, ⟨0, 0, 0, 0, 0, 0⟩, ⟨0, 0, 0, 0, 0, 0⟩⟩⟩).body
/-- A beacon of station 9, epoch 1, at a site time, confirmed, next sequence 1, no unsent record. -/
def beaconFrame0 (time : Nat) : List Byte :=
  frameOf 5 9 (natToBytes 2 1 ++ natToBytes 4 time ++ [0x80] ++ natToBytes 3 1 ++ [0, 0, 0, 0])

/-- What the checks of R123 give of a frame, the blank one where it fails. -/
def passed (k : Kind) (frame : List Byte) : SiteFrame := (siteFrame k frame).getD ⟨k, 0, 0, 0, []⟩

/-- The peer entry that the window accepts a frame into. -/
def acceptedPeer (s : State) (f : SiteFrame) : Peer :=
  (((s.line.hear f s.elapsed).peer f.origin).bind fun q => q.window f.seq).getD (Peer.new 0 0)

/-- An append in service at the journal unit. -/
def inService (op : MemOp) : State := run0.setJournal { run0.journal with inService := some op, opTimer := some 100100 }


/-! ### Worked examples: chapters 2 to 9 -/

/-- 2.12.1: the mean, the net and the weighting of the metered delivery. -/
theorem test_metered_delivery : netOf 2000000 830 410 = 1956840 ∧
    meanTemperature 2500000 1040000000 440 = 416 ∧ netOf 2500000 830 416 = 2444805 ∧
    ((({ Meter.reset with gross := 2000000, weighted := 820000000 } : Meter).weigh 2500000 (440, false)).weighted =
      1040000000) ∧ meanTemperature 3000000 1260000000 440 = 420 ∧ netOf 3000000 830 420 = 2932770 :=
          by decide +kernel

/-- 2.12.2: the two compares around their edges. -/
theorem test_compares : slowDownMet 950000 909990 40 = false ∧ slowDownMet 950000 910000 40 = true ∧
    leadMet 950000 949390 600 = false ∧ leadMet 950000 949400 600 = true ∧ overrun 950380 950000 = 380 := by
  decide +kernel

/-- 2.12.3: two forward steps and three edges of the reversal: P and the fault count after each. -/
theorem test_reversal :
    let m0 : Meter := { Meter.reset with lastEdge := some .b, pulses := 5 }
    let m1 := m0.edge .a true
    let m2 := m1.edge .b true
    let m3 := m2.edge .b false
    let m4 := m3.edge .a false
    let m5 := m4.edge .b true
    [m1, m2, m3, m4, m5].map (fun m => (m.pulses, m.faultCount)) = [(6, 0), (7, 0), (7, 1), (6, 1), (5, 1)] := by
  decide +kernel

/-- 2.12.4: a cold delivery, and its mean rounded half away from zero. -/
theorem test_cold : netOf 500000 830 (meanTemperature 500000 (-17500000) 0) = 507678 ∧
    meanTemperature 500000 (-17750000) 0 = -36 ∧ netOf 500000 830 (-36) = 507719 := by decide +kernel

/-- 4.11: the entry's carry and the tag's. -/
def mergeEntry0 : Carry :=
  ⟨9041, 300000, ⟨⟨some ⟨1000500, 31, 4, 2210⟩, 118200, 27400000⟩, ⟨some ⟨980000, 31, 4, 2100⟩, 110000, 60100000⟩,
    ⟨some ⟨900000, 31, 3, 800⟩, 100000, 140000000⟩, ⟨none, 0, 300000000⟩⟩, some ⟨120500, 1003000, .read⟩, 300000,
    .cleared ⟨995000, 40⟩, [⟨12, 8801, 1003200, 1003850, 9041, 300000, false⟩, ⟨7, 55120, 990100, 990700, 9040,
        420000, true⟩]⟩
def mergeTag0 : Carry :=
  ⟨9041, 550000, ⟨⟨some ⟨1004000, 32, 6, 514⟩, 120550, 250000⟩, ⟨some ⟨1004000, 32, 6, 514⟩, 120550, 250000⟩,
    ⟨some ⟨900000, 31, 3, 800⟩, 100000, 140250000⟩, ⟨none, 0, 299000000⟩⟩, some ⟨120560, 1004700, .read⟩, 250000,
    .none, [⟨15, 30044, 1004800, 1005400, 9041, 250000, true⟩, ⟨12, 8801, 1003200, 1003850, 9041, 300000, false⟩,
      ⟨7, 55120, 990100, 990700, 9040, 420000, true⟩]⟩
/-- 4.11: the carry after the merge. -/
theorem test_merge : mergeEntry0.merge mergeTag0 =
    (⟨9041, 550000, ⟨⟨some ⟨1004000, 32, 6, 514⟩, 120550, 250000⟩, ⟨some ⟨1004000, 32, 6, 514⟩, 120550, 250000⟩,
      ⟨some ⟨900000, 31, 3, 800⟩, 100000, 140250000⟩, ⟨none, 0, 300250000⟩⟩, some ⟨120560, 1004700, .read⟩, 250000,
      .cleared ⟨995000, 40⟩, mergeTag0.list⟩, 0) := by decide +kernel

/-- 5.6: the two hoses on vehicle 318 before station 15's record is heard. -/
def truckEntry0 : FleetEntry :=
  { FleetEntry.heardNew 318 .tag (some 0) 1 with carry := { Carry.blank with shift := 9050, use := 1300000 } }
def truckHose0 (x : Hose) (target : Nat) : Hose :=
  { x with state := .flowing, stage := .full, pump := true, delivery := some { delivery0 with vehicle := 318, target := target } }
def truck0 : State :=
  let r := { reservation0 with vehicle := 318, shift := 9050, allowance := .litres 3000 }
  { run0 with
    hoses := ⟨truckHose0 run0.hoses.one 1500000, truckHose0 run0.hoses.two 900000⟩
    reservations := ⟨some { r with target := 1500000, absorbed := 600000 },
      some { r with target := 900000, absorbed := 100000, rank := 1 }⟩
    meters := ⟨{ Meter.reset with lastNet := 620000, gross := 620000 }, { Meter.reset with lastNet := 120000, gross := 120000 }⟩
    fleet := { Fleet.reset with entries := [truckEntry0] }
    classes := { Classes.reset with
      records := { ClassRecord.empty with allowance := ⟨3000, none⟩ } :: List.replicate 7 ClassRecord.empty } }
/-- 5.6: the heard record of 300 L lowers hose 1's target alone, and disturbs both. -/
theorem test_watch :
    let s := truck0.takeIssue 15 { issue0 with vehicle := 318, shift := 9050, net := 300000 }
    (s.reservation .one).map (fun r => (r.target, r.watch, r.causes.useRaised)) = some (1200000, .disturbed, true) ∧
    (s.reservation .two).map (fun r => (r.target, r.watch, r.causes.useRaised)) = some (900000, .disturbed, true) ∧
    (s.hose .one).state = .flowing := by decide +kernel

/-- 5.7: an allowance cut to 90 L below the delivered net. -/
def cut0 : State :=
  { truck0 with
    hoses := ⟨truckHose0 run0.hoses.one 150000, run0.hoses.two⟩
    reservations := ⟨some { reservation0 with
      vehicle := 318, shift := 9050, target := 150000, absorbed := 100000, allowance := .litres 400 }, none⟩
    meters := ⟨{ Meter.reset with lastNet := 104300, gross := 104300 }, Meter.reset⟩
    fleet := { Fleet.reset with entries := [{ truckEntry0 with
      allowanceOv := ⟨some 400, some ⟨5, 9⟩⟩, carry := { Carry.blank with shift := 9050, use := 100000 } }] } }
theorem test_allowance_cut :
    let s := cut0.takeVehicleNotice 9 ⟨318, 6, 0x80, 90, 0, 0, 0, 0⟩
    (s.reservation .one).map (fun r => (r.target, r.causes.allowanceLowered)) = some (104300, true) ∧
    (s.hose .one).state = .closing ∧ (s.hose .one).reason = some (.ended .allowanceReduced) := by decide +kernel

/-- 6.6: the carry of vehicle 4390 and the plans of its class. -/
def serviced0 : Carry :=
  ⟨0, 0, ⟨⟨some ⟨1010000, 32, 6, 700⟩, 118200, 27400000⟩, ⟨some ⟨980000, 32, 6, 611⟩, 116000, 41000000⟩,
    ⟨some ⟨900000, 31, 3, 800⟩, 112000, 90000000⟩, ⟨none, 0, 150000000⟩⟩, some ⟨120590, 1020000, .read⟩, 140000,
        .none,
    [⟨9, 20110, 1024000, 1024500, 0, 350000, true⟩, ⟨12, 41320, 1015000, 1015600, 0, 500000, true⟩]⟩
def plans0 : ClassRecord :=
  { ClassRecord.empty with
    burn := ⟨120, none⟩
    plans := ⟨⟨⟨250, 10, 25, 30000, 2000, 3000⟩, none⟩, ⟨⟨500, 20, 50, 60000, 4000, 6000⟩, none⟩,
      ⟨⟨1000, 40, 100, 0, 0, 0⟩, none⟩, ⟨⟨2000, 80, 200, 0, 0, 0⟩, none⟩⟩ }
/-- 6.6.1: the hours block judged at its edges. -/
theorem test_hours : [some 120580, some 120590, some 120626, some 120700, none].map (fun n =>
    ((serviced0.applyHours n 1029100).1.reading.map Reading.value, (serviced0.applyHours n 1029100).1.sinceReading,
      (serviced0.applyHours n 1029100).2)) =
    [(some 120590, 140000, ⟨false, true, false⟩), (some 120590, 0, ⟨false, false, false⟩),
      (some 120626, 0, ⟨false, false, false⟩), (some 120626, 0, ⟨false, false, true⟩),
      (some 120590, 140000, ⟨true, false, false⟩)] := by decide +kernel
/-- 6.6.2: APPROACHING at level 1, level 4 unknown; with an invalid block R_eff is 120,602. -/
theorem test_evaluation :
    let c := (serviced0.applyHours (some 120615) 1029100).1
    evaluate c plans0 ⟨false, false, false⟩ =
      ⟨.approaching, some 1, ⟨false, false, false, true⟩, some 120615, false, false, false⟩ ∧
    effectiveHours serviced0 120 = some 120602 := by decide +kernel
/-- 6.6.3, 6.6.4: the delivery's absorb, and the adoption of the level 2 service. -/
theorem test_adoption :
    let c := ((serviced0.applyHours (some 120615) 1029100).1.absorb ⟨12, 41500, 1029100, 1029700, 0, 600000, true⟩).1
    let d := c.adopt ⟨1025000, 32, 6, 733⟩ 2 120605
    c.levels.toList.map Level.litres = [28000000, 41600000, 90600000, 150600000] ∧
    d.levels = ⟨⟨some ⟨1025000, 32, 6, 733⟩, 120605, 600000⟩, ⟨some ⟨1025000, 32, 6, 733⟩, 120605, 600000⟩,
      ⟨some ⟨900000, 31, 3, 800⟩, 112000, 90600000⟩, ⟨none, 0, 150600000⟩⟩ ∧
    d.reading = some ⟨120615, 1029100, .read⟩ ∧ d.sinceReading = 600000 ∧
    d.adopt ⟨1012000, 32, 6, 701⟩ 1 118900 = d := by decide +kernel

/-- 7.7: W of five peers, and the windows of eight failures. -/
theorem test_collisions :
    let l := { SiteLine.reset with window := windowFor 5, sender := .send }
    let step (l : SiteLine) := l.collide 0
    l.window = 24 ∧ [step l, step (step l), (step^[5]) l, (step^[7]) l].map SiteLine.window = [48, 96, 512, 512] ∧
    ((step^[7]) l).sender = .defer ∧ ((step^[8]) l).sender = .congested := by decide +kernel

/-- 7.8: one peer's window and gap count. -/
theorem test_one_peer :
    let p0 : Peer := { Peer.new 7 3 with high := some 1200, marks := ~~~ 4#32, gapRef := some 1200, gap := 4 }
    let p1 := (p0.window 1203).getD p0
    let p2 := (p1.window 1198).getD p0
    let p3 := p2.takeGap 1210
    (p2.high, p2.window 1198, p2.window 1150, p2.gap) = (some 1203, none, none, 4) ∧ (p1.window 1202).isSome = true ∧
    (p3.gap, p3.gapRef, p3.takeGap 1210) = (10, some 1209, p3) ∧ ((p3.window 1205).map Peer.high) = some (some 1205) ∧
    (((p3.takeEpoch 4).takeGap 1).high, ((p3.takeEpoch 4).takeGap 1).gapRef, ((p3.takeEpoch 4).takeGap 1).gap) =
      (none, none, 10) := by decide +kernel

/-- 8.9: tail, send mark, head and FREE of the wrapping ring after each append, and the claims refused. -/
theorem test_ring_wrap :
    let j0 : Journal := { Journal.reset with tail := 701, sent := 2, unsent := 1020, nextSerial := 10023, claims := 2 }
    let j1 := j0.assign 1024
    let j2 := j1.assign 1024
    let j3 := j2.assign 1024
    let j4 := j3.assign 1024
    [j0, j1, j2, j3, j4].map (fun j => (j.tail, j.sendMark 1024, j.head 1024, j.free 1024, j.sent, j.unsent)) =
      [(701, 703, 699, 2, 2, 1020), (701, 703, 700, 1, 2, 1021), (701, 703, 701, 0, 2, 1022),
        (702, 703, 702, 0, 1, 1023), (703, 703, 703, 0, 0, 1024)] ∧
    ({ j3 with claims := 1 } : Journal).claimAvailable 1024 = false ∧ j0.claimAvailable 1024 = true :=
        by decide +kernel

/-- 9.7: the stock by the strapping table. -/
theorem test_stock :
    let points := [(120, 0), (500, 9800), (1500, 38200), (2500, 66900), (2950, 78000)]
    [stockOf points 2007, stockOf points 2006, stockOf points 173, stockOf points 100, stockOf points 3000] =
      [52750, 52722, 1366, 0, 78000] ∧ levelOf 237 3000 = 173 := by decide +kernel

/-! ### Witnesses: for each statement with premises, a state and operands that meet them -/

/-- A part of the state that a command leads to. -/
def result {α : Type} (c : Instr) (s : State) (f : State → α) : Option α :=
  match exec c s with
  | .next t => some (f t)
  | _ => none

/-- StepTakesFrontOrTicks: a front command, an empty queue in HOLD and outside it. -/
theorem wit_step_front : ({ run0 with pending := [.carrier, .listenEnd] } : State).pending = [.carrier,
    .listenEnd] := rfl
theorem wit_step_tick : State.reset.pending = [] ∧ State.reset.start.stage = .hold ∧ run0.pending = [] ∧
    run0.start.stage ≠ .hold ∧ run0.line.running = true ∧
    ({ run0 with elapsed := 99999 } : State).pending = [] := by decide +kernel

/-- CommandsTouchOnlyTheirBlocks. -/
theorem wit_touched : ∃ t, exec .listenEnd { run0 with start := { run0.start with stage := .listen, listenTimer := some 1 } } = .next t :=
  ⟨_, rfl⟩

/-- MemoryFormKept: a header write completes. -/
def header0 : State := inService (.header (some ⟨5, 1024, 1, 1⟩))
theorem wit_memory_step : ({ header0 with pending := [.headerWriteComplete] } : State).memoryOk ∧
    ∃ t, step { header0 with pending := [.headerWriteComplete] } = .next t := ⟨rfl, _, rfl⟩

/-- RangesAndTargetsKept, at the ends of the ranges; a live delivery whose net stands below its target. -/
theorem wit_window_step : ({ run0 with line := { run0.line with window := 512, sender := .send }, pending := [.readBackCollision] } : State).windowOk ∧
    ∃ t, step { run0 with line := { run0.line with window := 512, sender := .send }, pending := [.readBackCollision] } = .next t :=
  ⟨by unfold State.windowOk; decide +kernel, _, rfl⟩
theorem wit_meter_step : ({ run0 with pending := [.channelEdge .one .a true] } : State).metersOk ∧
    ∃ t, step { run0 with pending := [.channelEdge .one .a true] } = .next t :=
  ⟨by intro h; cases h <;> (unfold Meter.inRange; decide +kernel), _, rfl⟩
def targets0 : State := { delivering .flowing .full 1000 with pending := [.carrier] }
theorem wit_targets_step : targets0.reservationsOk ∧ targets0.targetsOk ∧ (targets0.hose .one).state.live = true ∧
    (targets0.hose .one).delivery = some delivery0 ∧
    ∃ t, step targets0 = .next t ∧ (t.hose .one).state.live = true ∧ (t.hose .one).delivery = some delivery0 := by
  refine ⟨?_, ?_, rfl, rfl, _, rfl, rfl, rfl⟩
  · intro h
    cases h
    · exact ⟨⟨rfl, _, rfl, rfl, rfl, rfl, rfl⟩, fun x => absurd rfl x⟩
    · exact ⟨rfl, fun x => absurd rfl x⟩
  · intro h
    cases h
    · refine ⟨fun _ d hd => ?_, fun x => absurd x (by decide)⟩
      cases hd; decide +kernel
    · exact ⟨fun x => absurd x (by decide), fun x => absurd x (by decide)⟩

/-- ReservationsKept and ValvesKept: hose 1 in CLOSING, its settle window ending. -/
theorem wit_reservations_step : ({ closing0 with pending := [.settleExpiry .one] } : State).reservationsOk ∧
    ({ closing0 with pending := [.settleExpiry .one] } : State).valvesOk ∧
    ∃ t, step { closing0 with pending := [.settleExpiry .one] } = .next t := by
  refine ⟨?_, ?_, _, rfl⟩
  · intro h
    cases h
    · exact ⟨⟨rfl, _, rfl, rfl, rfl, rfl, rfl⟩, fun x => absurd rfl x⟩
    · exact ⟨rfl, fun x => absurd rfl x⟩
  · intro h
    cases h <;> intro _ <;> exact ⟨rfl, rfl⟩

/-- ReclaimableSlotsCoverClaims: a claim that waits; and every slot UNSENT with a recovery pending. -/
def pending0 : State :=
  run0.setJournal { run0.journal with unsent := 1024, claims := 1, pendingRecoveries := [issue0] }
theorem wit_claims_step : closing0.claimsOk ∧ closing0.claimsWaiting = 1 ∧
    (∃ t, step { closing0 with pending := [.settleExpiry .one] } = .next t) ∧ pending0.claimsOk ∧
    pending0.journal.reclaimable 1024 = 0 := by
  refine ⟨⟨?_, by decide +kernel⟩, by decide +kernel, ⟨_, rfl⟩, ⟨?_, by decide +kernel⟩, by decide +kernel⟩ <;>
    intro h <;> cases h <;>
    exact ⟨by decide +kernel, by decide +kernel, by decide +kernel, by decide +kernel,
      fun d img hd hi => by cases hd <;> cases hi⟩

/-- SiteTimeNeverSetBack: the tick. -/
theorem wit_site_time : (∀ rest, run0.pending ≠ .powerStart :: rest) ∧ (∀ rest, run0.pending ≠ .supplyDip :: rest) ∧
    (∀ rest, run0.pending ≠ .resetLine :: rest) ∧ ∃ t, step run0 = .next t :=
  ⟨fun _ h => (nomatch h), fun _ h => (nomatch h), fun _ h => (nomatch h), _, rfl⟩

/-- StartsBegin: the three commands outside HOLD with no write in service, and HOLD. -/
theorem wit_starts : run0.start.stage ≠ .hold ∧ run0.journal.inService = none ∧ run0.start.supplyGood = true ∧
    State.reset.start.stage = .hold ∧ State.reset.start.cause = .powerStart ∧
    ({ State.reset with start := { StartCtl.reset with cause := .resetLine } } : State).start.cause = .resetLine := by
  decide +kernel

/-- CutShortWriteFailsItsCheck: a progress write and a FINAL write in service. -/
theorem wit_cut_short : (inService (.progress .one issue0)).memoryOk ∧ (inService (.final .two issue0)).memoryOk ∧
    (inService (.progress .one issue0)).journal.inService = some (.progress .one issue0) ∧
    (inService (.final .two issue0)).journal.inService = some (.final .two issue0) := ⟨rfl, rfl, rfl, rfl⟩

/-- HoldAndItsInputs: the supply above its threshold and the 20 ms running; a reset line still active. -/
def hold0 : State := { State.reset with start := { StartCtl.reset with supplyGood := true, holdCounting := true } }
theorem wit_hold : hold0.start.stage = .hold ∧ hold0.start.holdCounting = true ∧
    ({ hold0.start with resetActive := true } : StartCtl).resetActive = true := by decide

/-- The cells of bytes from an address. -/
def cellsAt (a : Nat) (bs : List Byte) : List Host.Cell := (List.range bs.length).map fun i => (a + i, bs.getD i 0)
/-- The configuration area of a station 7 with one fitted hose, laid out by 12.6, its check value at the end. -/
def configArea0 : List Byte :=
  withCheck (padTo 254 ([7, 1, 0x07, 0, 1, 9, 0, 0, 0, 0, 0, 0, 8, 0, 0, 0, 0, 4, 0, 0, 0, 1, 0x32, 0, 0, 0,
    0xA0, 0, 0, 0, 0x27, 0x10, 3, 0x52, 7, 0xD0, 1, 2, 0x58, 1, 0xF4, 2, 0, 0, 0, 0, 0] ++
    List.replicate 21 0 ++
    [0x0B, 0xB8, 0, 1, 0xF4, 0, 0, 0x64, 2, 0, 0, 0, 0, 0, 0x0B, 0xB8, 0, 0x17, 0x70] ++ List.replicate 30 0 ++
    [0x0B, 0xB8, 0, 1, 0xF4, 0, 0, 0x64, 2, 0, 0, 0, 0, 0, 0x0B, 0xB8, 0, 0x17, 0x70]))
/-- The cells of that area. -/
def configCells0 : List Host.Cell := cellsAt 0 configArea0
/-- CONFIG in a POWER START. -/
def config0 : State := { State.reset with start := { StartCtl.reset with stage := .config, supplyGood := true } }

set_option maxRecDepth 100000 in
/-- 12.6: fields of that area by hand. -/
theorem test_config_area : configArea0.length = 256 ∧ configFault configArea0 = none ∧
    (decodeConfig configArea0).station = 7 ∧ (decodeConfig configArea0).lineRate = 19200 ∧
    (decodeConfig configArea0).authority = [9] ∧ (decodeConfig configArea0).nj = 1024 ∧
    (decodeConfig configArea0).minIssue = 5 ∧ (decodeConfig configArea0).scan = [⟨3, .tankLevel .one⟩] ∧
    (decodeConfig configArea0).hoses.one = { hoseCfg0 with stall := 45, faultLimit := 2 } ∧
    (decodeConfig configArea0).hoses.two.present = false ∧
    (decodeConfig configArea0).tanks.two = ⟨3000, 500, 100, [(0, 0), (3000, 6000)]⟩ := by decide +kernel

set_option maxRecDepth 100000 in
/-- ConfigIsJudged: a good record, a record whose check value is wrong, and a failed read. -/
theorem wit_config : config0.start.stage = .config ∧ config0.start.recordGood = false ∧
    cellsInMemory configCells0 = true ∧ configFault (memReadBytes (memSetCells config0.mem configCells0) 0 256) = none ∧
    cellsInMemory [] = true ∧ configFault (memReadBytes (memSetCells config0.mem []) 0 256) = some .check := by
  decide +kernel

/-- PlanAreaIsLoaded: in CONFIG FAULT, and in CONFIG with a good record. -/
theorem wit_plan_area : cellsInMemory [] = true ∧
    ({ config0 with start := { config0.start with stage := .configFault } } : State).start.stage = .configFault ∧
    ({ config0 with start := { config0.start with recordGood := true } } : State).start.stage = .config := by
  decide +kernel

/-- JOURNAL SCAN with the settings of `cfg0` and a ring of four positions. -/
def scanning0 : State :=
  { config0 with start := { config0.start with stage := .journalScan, recordGood := true }, cfg := { cfg0 with nj := 4 } }
/-- The memory of a scan that reads those cells. -/
def scanMem (cells : List Host.Cell) : List Host.Cell := memSetCells scanning0.mem cells
/-- A decided claim about the slots of a ring of four, put as the statements put it. -/
theorem ring_reads (cells : List Host.Cell) (bad : List Nat) (P : Nat → RingSlot → Prop)
    (h : ∀ q < 4, q ∉ bad → ∀ y ∈ decodeSlot (memReadBytes (scanMem cells) (1280 + 128 * q) 128), P q y)
    (q : Nat) (y : RingSlot) (hq : q < 4) (hb : q ∉ bad)
    (hy : decodeSlot (memReadBytes (scanMem cells) (1280 + 128 * q) 128) = some y) : P q y := h q hq hb y hy
/-- JournalScanRuns: a good header. -/
theorem wit_scan_good : scanning0.start.stage = .journalScan ∧ scanning0.start.scanEnd = none ∧
    cellsInMemory (cellsAt 768 (encodeHeader ⟨5, 4, 1, 1⟩)) = true ∧
    decodeHeader (memReadBytes (scanMem (cellsAt 768 (encodeHeader ⟨5, 4, 1, 1⟩))) 768 14) = some ⟨5, 4, 1, 1⟩ ∧
    scanning0.cfg.nj = 4 := by decide +kernel
set_option maxRecDepth 100000 in
theorem wit_scan_no_last :
    (∀ q y, q < 4 → q ∉ [] → decodeSlot (memReadBytes (scanMem (cellsAt 768 (encodeHeader ⟨5, 4, 1, 1⟩)))
      (1280 + 128 * q) 128) = some y → y.epoch = 5 → y.seq ≠ 16777215) ∧
    (∀ h, decodeOpen (memReadBytes (scanMem (cellsAt 768 (encodeHeader ⟨5, 4, 1, 1⟩))) (openAddress h) 128) = .clear) :=
  ⟨fun q y hq hb hy => ring_reads _ [] (fun _ y => y.epoch = 5 → y.seq ≠ 16777215) (by decide +kernel) q y hq hb hy,
    fun h => by cases h <;> decide +kernel⟩
set_option maxRecDepth 100000 in
/-- … a header whose check value is wrong and no slot that reads, one of them because its read failed. -/
theorem wit_scan_blank : cellsInMemory [(768, 1)] = true ∧
    decodeHeader (memReadBytes (scanMem [(768, 1)]) 768 14) = none ∧
    (∀ p < scanning0.cfg.nj, p ∈ [3] ∨ decodeSlot (memReadBytes (scanMem [(768, 1)]) (1280 + 128 * p) 128) = none) ∧
    result (.journalScan [(768, 1)] ⟨false, [3], ⟨false, false⟩⟩) scanning0 (fun t => t.start.scanEnd) =
      some (some ⟨0, ⟨0, 0⟩⟩) := by decide +kernel
/-- A ring slot of a record, as it reads. -/
def ringSlot0 (serial : Nat) (r : Record) : RingSlot := (decodeSlot (encodeSlot serial r)).getD ⟨0, 0, 0, 0, []⟩
/-- The record of the older slot and of the newer one. -/
def older0 : Record := .issue { issue0 with epoch := 5, seq := 3 }
def newer0 : Record := .service 5 4 ⟨12, 2, 990000, 5000, 990500⟩
/-- A ring with serials 8 and 9 at positions 1 and 2, and a header. -/
def ringCells0 (hd : Header) : List Host.Cell :=
  cellsAt 768 (encodeHeader hd) ++ cellsAt 1408 (encodeSlot 8 older0) ++ cellsAt 1536 (encodeSlot 9 newer0)
set_option maxRecDepth 100000 in
/-- … the epoch at its end under a slot count of another ring, and no header with the epoch of the newest slot. -/
theorem wit_scan_format :
    decodeHeader (memReadBytes (scanMem (ringCells0 ⟨65535, 8, 1, 1⟩)) 768 14) = some ⟨65535, 8, 1, 1⟩ ∧
    decodeSlot (memReadBytes (scanMem (ringCells0 ⟨65535, 8, 1, 1⟩)) (1280 + 128 * 2) 128) =
      some (ringSlot0 9 newer0) ∧
    (∀ q y, q < 4 → q ∉ [0] →
      decodeSlot (memReadBytes (scanMem (ringCells0 ⟨65535, 8, 1, 1⟩)) (1280 + 128 * q) 128) = some y →
      y.serial ≤ (ringSlot0 9 newer0).serial ∧ (y.serial = (ringSlot0 9 newer0).serial → 2 ≤ q)) ∧
    result (.journalScan (ringCells0 ⟨65535, 8, 1, 1⟩) ⟨false, [0], ⟨false, false⟩⟩) scanning0
      (fun t => (t.journal.header, t.journal.tail)) = some (⟨1, 4, 10, 10⟩, 3) ∧
    result (.journalScan (ringCells0 ⟨65535, 8, 1, 1⟩) ⟨true, [0], ⟨false, false⟩⟩) scanning0
      (fun t => (t.journal.header.epoch, t.start.scanEnd)) = some (6, some ⟨990500, ⟨0, 0⟩⟩) := by
  exact ⟨by decide +kernel, by decide +kernel, ring_reads _ [0] _ (by decide +kernel), by decide +kernel,
    by decide +kernel⟩

/-- GoodJournalIsTakenUp: that ring under a good header with one record sent; hose 1's slot is OPEN with the
older record, which the run holds. -/
def open0 : IssueRecord := { issue0 with epoch := 5, seq := 3 }
def goodCells0 : List Host.Cell := cellsAt 1024 (encodeOpen (.opened open0)) ++ ringCells0 ⟨5, 4, 8, 9⟩
/-- The slots of the run, newest first. -/
def slots0 (k : Nat) : RingSlot := if k = 0 then ringSlot0 9 newer0 else ringSlot0 8 older0
set_option maxRecDepth 100000 in
theorem wit_found_run : FoundRun (scanMem goodCells0) [] 4 8 2 2 9 slots0 := by
  refine ⟨by decide, by decide, by decide, by decide +kernel, ?_, fun _ _ y hy _ => ?_⟩
  · exact fun q y hq hb hy hs => ring_reads goodCells0 []
      (fun q y => 8 ≤ y.serial → y.serial ≤ 9 ∧ (y.serial = 9 → 2 ≤ q)) (by decide +kernel) q y hq hb hy hs
  · exact ring_reads goodCells0 [] (fun q y => q = 0 → y.serial + 2 ≠ 9) (by decide +kernel) 0 y (by decide)
      (by decide) hy rfl
set_option maxRecDepth 100000 in
theorem wit_good_journal : cellsInMemory goodCells0 = true ∧
    decodeHeader (memReadBytes (scanMem goodCells0) 768 14) = some ⟨5, 4, 8, 9⟩ ∧
    decodeOpen (memReadBytes (scanMem goodCells0) (openAddress .one) 128) = .opened open0 ∧
    decodeOpen (memReadBytes (scanMem goodCells0) (openAddress .two) 128) = .clear ∧
    (slots0 1).epoch = open0.epoch ∧ (slots0 1).seq = open0.seq ∧ open0.stop ≤ 990500 ∧
    (∀ k < 2, (slots0 k).epoch = 5 → (slots0 k).seq ≤ 4) ∧ (slots0 0).seq = 4 ∧
    (∀ k < 2, (slots0 k).time ≤ 990500) ∧ (slots0 0).time = 990500 ∧ (slots0 1).kind = 1 ∧
    (decodeIssue 5 3 (slots0 1).content).hose = .one := by decide +kernel
set_option maxRecDepth 100000 in
/-- R155, R156: what that scan takes up, by hand. -/
theorem test_good_journal : result (.journalScan goodCells0 ⟨false, [], ⟨false, false⟩⟩) scanning0 (fun t =>
    ((t.journal.tail, t.journal.sent, t.journal.unsent), (t.journal.nextSerial, t.journal.nextSeq), t.line.siteTime,
      (t.hose .one).totalizer)) = some ((1, 1, 1), (10, 5), 990500, 500000) := by decide +kernel
/-- … a ring whose newest record has the last sequence of its epoch. -/
def last0 : Record := .service 5 16777215 ⟨12, 2, 990000, 5000, 990500⟩
def lastCells0 : List Host.Cell :=
  cellsAt 768 (encodeHeader ⟨5, 4, 8, 9⟩) ++ cellsAt 1408 (encodeSlot 8 older0) ++ cellsAt 1536 (encodeSlot 9 last0)
def lastSlots0 (k : Nat) : RingSlot := if k = 0 then ringSlot0 9 last0 else ringSlot0 8 older0
set_option maxRecDepth 100000 in
theorem wit_last_run : FoundRun (scanMem lastCells0) [] 4 8 2 2 9 lastSlots0 := by
  refine ⟨by decide, by decide, by decide, by decide +kernel, ?_, fun _ _ y hy _ => ?_⟩
  · exact fun q y hq hb hy hs => ring_reads lastCells0 []
      (fun q y => 8 ≤ y.serial → y.serial ≤ 9 ∧ (y.serial = 9 → 2 ≤ q)) (by decide +kernel) q y hq hb hy hs
  · exact ring_reads lastCells0 [] (fun q y => q = 0 → y.serial + 2 ≠ 9) (by decide +kernel) 0 y (by decide)
      (by decide) hy rfl
set_option maxRecDepth 100000 in
theorem wit_last_sequence : cellsInMemory lastCells0 = true ∧
    decodeHeader (memReadBytes (scanMem lastCells0) 768 14) = some ⟨5, 4, 8, 9⟩ ∧
    (lastSlots0 0).epoch = 5 ∧ (lastSlots0 0).seq = 16777215 ∧ (lastSlots0 1).seq ≤ 16777215 ∧
    (∀ h, decodeOpen (memReadBytes (scanMem lastCells0) (openAddress h) 128) = .clear) ∧
    (∀ k < 2, (lastSlots0 k).time ≤ 990500) ∧ (lastSlots0 0).time = 990500 :=
  ⟨by decide +kernel, by decide +kernel, by decide +kernel, by decide +kernel, by decide +kernel,
    fun h => by cases h <;> decide +kernel, by decide +kernel, by decide +kernel⟩
set_option maxRecDepth 100000 in
/-- R144, R156, R178: the epoch advances, and the stage waits for the header write. -/
theorem test_epoch_advance_waits : result (.journalScan lastCells0 ⟨false, [], ⟨false, false⟩⟩) scanning0 (fun t =>
    ((t.start.stage, t.start.scanEnd), (t.journal.header, t.journal.nextSeq), t.journal.inService)) =
      some ((.journalScan, some ⟨990500, ⟨500000, 0⟩⟩), (⟨6, 4, 8, 9⟩, 1), some (.header (some ⟨6, 4, 8, 9⟩))) := by
  decide +kernel
/-- … every slot below the base serial: the two images, and a FINAL one of hose 2. -/
def emptyCells0 (i : OpenImage) : List Host.Cell := cellsAt 1152 (encodeOpen i) ++ ringCells0 ⟨5, 4, 20, 20⟩
set_option maxRecDepth 100000 in
theorem wit_empty_ring :
    (∀ q y, q < 4 → q ∉ [] → decodeSlot (memReadBytes (scanMem (emptyCells0 (.final open0))) (1280 + 128 * q) 128) =
      some y → y.serial < 20) ∧
    decodeHeader (memReadBytes (scanMem (emptyCells0 (.final open0))) 768 14) = some ⟨5, 4, 20, 20⟩ ∧
    decodeOpen (memReadBytes (scanMem (emptyCells0 (.final open0))) (openAddress .one) 128) = .clear ∧
    decodeOpen (memReadBytes (scanMem (emptyCells0 (.final open0))) (openAddress .two) 128) = .final open0 ∧
    decodeOpen (memReadBytes (scanMem (emptyCells0 (.opened open0))) (openAddress .two) 128) = .opened open0 ∧
    decodeOpen (memReadBytes (scanMem (emptyCells0 .clear)) (openAddress .two) 128) = .clear :=
  ⟨ring_reads _ [] (fun _ y => y.serial < 20) (by decide +kernel), by decide +kernel, by decide +kernel,
    by decide +kernel, by decide +kernel, by decide +kernel⟩
set_option maxRecDepth 100000 in
/-- … the second of them with the last sequence. -/
theorem wit_empty_last : open0.epoch = 5 ∧ decodeOpen (memReadBytes (scanMem
    (emptyCells0 (.opened { open0 with seq := 16777215 }))) (openAddress .two) 128) =
      .opened { open0 with seq := 16777215 } := by decide +kernel

/-- LISTEN about to end, hose 2 lifted. -/
def listen0 : State :=
  { run0 with
    start := { run0.start with stage := .listen, listenTimer := some 100000 }, line := { run0.line with held := true }
    hoses := ⟨Hose.reset, { Hose.reset with hook := .lifted }⟩ }
/-- ListenEndsInRun. -/
theorem wit_listen : listen0.start.stage = .listen ∧ listen0.start.listenTimer.isSome = true ∧
    listen0.line.sender = .idle := by decide +kernel

/-- CONFIG FAULT before the read-only pass. -/
def fault0 : State := { config0 with start := { config0.start with stage := .configFault, fault := some .check } }
/-- ReadOnlyPassPlacesSiteTime. -/
theorem wit_read_only_pass : fault0.start.stage = .configFault ∧ fault0.line.running = false ∧
    cellsInMemory [] = true := by decide +kernel

/-- OutsideCellsMustExist: the first address past the end, and each stage. -/
theorem wit_outside : cellsInMemory [(4195584, 1)] = false ∧ config0.start.stage = .config ∧
    config0.start.recordGood = false ∧ fault0.start.stage = .configFault ∧ scanning0.start.stage = .journalScan ∧
    fault0.line.running = false ∧ (inService (.sendRead 0)).journal.inService = some (.sendRead 0) :=
        by decide +kernel

/-- LiftInIdleStartsCycle: a READY unit with nothing ahead, one with a write ahead, and one in its quiet time. -/
def writeAhead0 (u : TagUnit) : State := run0.setTag .one u
theorem wit_lift : run0.unfitted .one = false ∧ (run0.hose .one).state = .idle ∧ (run0.tag .one).state = .ready ∧
    (run0.tag .one).quiet = none ∧ (run0.tag .one).waitingWriteBack = none ∧
    (run0.tag .one).waitingProgress = none ∧
    ((writeAhead0 { TagUnit.reset with waitingWriteBack := some [1], waitingProgress := some [2] }).tag .one).waitingWriteBack =
      some [1] ∧
    ((writeAhead0 { TagUnit.reset with waitingProgress := some [2] }).tag .one).waitingProgress = some [2] ∧
    ((writeAhead0 { TagUnit.reset with quiet := some 250 }).tag .one).quiet ≠ none := by decide +kernel
theorem test_lift : result (.lift .one) (writeAhead0 { TagUnit.reset with waitingWriteBack := some [1] }) (fun t =>
    ((t.tag .one).current, (t.tag .one).window, (t.tag .one).waitingRead)) =
    some (some ⟨.writeBack [1], 0, 1, false⟩, some 100250, some .identity) := by decide +kernel

/-- HookOutsideDelivery. -/
def unfitted0 : State := { run0 with cfg := { cfg0 with hoses := ⟨hoseCfg0, { hoseCfg0 with present := false }⟩ } }
theorem wit_hook : unfitted0.unfitted .two = true ∧ run0.unfitted .one = false ∧ (run0.hose .one).state = .idle ∧
    closing0.unfitted .one = false ∧ (closing0.hose .one).state = .closing ∧
    ((identifying0 (.read .identity) 1).hose .one).state = .identifying ∧
    (identifying0 (.read .identity) 1).unfitted .one = false ∧
    ((identifying0 (.read .identity) 1).hose .one).liftWait.isSome = true := by decide +kernel

/-- A hose whose live delivery a cause of R17 ends. -/
def endable (s : State) : Prop :=
  EndCause s .one .nozzleHung (.hang .one) ∧ EndCause s .one .tagLost (.tagLossExpiry .one) ∧
    EndCause s .one .stopKey (.stopKey .one true) ∧ (s.hose .one).state.open = true ∧
    ∃ d, (s.hose .one).delivery = some d
/-- LiveDeliveryEnds: gross above 0 (FLOWING), gross 0 with a step, gross 0 with none (AUTHORISED). -/
theorem wit_end_flowing : endable (delivering .flowing .full 1000) ∧
    EndCause (delivering .flowing .full 1000) .one .flowStall (.stallExpiry .one) ∧
    0 < ((delivering .flowing .full 1000).meter .one).gross := by
  unfold endable EndCause; exact ⟨⟨by decide +kernel, by decide +kernel, by decide +kernel, rfl, _, rfl⟩,
      by decide +kernel, by decide +kernel⟩
theorem wit_end_authorised : endable (delivering .authorised .full 0) ∧
    EndCause (delivering .authorised .full 0) .one .noFlow (.noFlowExpiry .one) ∧
    ((delivering .authorised .full 0).meter .one).gross = 0 ∧
    ((delivering .authorised .full 0).hose .one).delivery.map Delivery.steps = some 0 := by
  unfold endable EndCause; exact ⟨⟨by decide +kernel, by decide +kernel, by decide +kernel, rfl, _, rfl⟩,
      by decide +kernel, by decide +kernel⟩
theorem wit_end_stepped : (({ delivery0 with steps := 1 } : Delivery).steps = 1) ∧
    endable ((delivering .slowing .low 0).setHose .one { (delivering .slowing .low 0).hose .one with
      delivery := some { delivery0 with steps := 1 } }) := by
  unfold endable EndCause; exact ⟨rfl, by decide +kernel, by decide +kernel, by decide +kernel, rfl, _, rfl⟩

/-- EmergencyStopEndsDeliveries. -/
theorem wit_emergency : ∀ h, ((delivering .flowing .full 1000).hose h).state.open = true →
    ((delivering .flowing .full 1000).hose h).delivery.isSome = true := by intro h; cases h <;> decide +kernel

/-- SettleWindowEnds: no fault, an overrun of one mL above the limit, and one at the limit. -/
def settle0 (target : Nat) : State :=
  closing0.setHose .one { closing0.hose .one with
    delivery := some { delivery0 with target := target, endReason := some .targetReached, endTime := some 1000000 } }
theorem wit_settle : (closing0.hose .one).state = .closing ∧ (closing0.hose .one).settle.isSome = true ∧
    closing0.netNow .one = 1000 ∧ (((closing0.hoseCfg .one).overrun : Nat) = 500) ∧
    ((settle0 500).hose .one).state = .closing ∧ (settle0 500).netNow .one = 1000 ∧
    ((settle0 499).hose .one).state = .closing ∧ (settle0 499).netNow .one = 1000 := by decide +kernel
theorem test_settle : result (.settleExpiry .one) (settle0 500) (fun t => (t.hose .one).state) = some .writeback ∧
    result (.settleExpiry .one) (settle0 499) (fun t => (t.hose .one).faultCause) = some (some .valveOverrun) := by
  decide +kernel

/-- KeysAct: a hose in FAULT with no delivery record, the supervisor key on; the key off; a FAILED scan. -/
def faulted0 : State :=
  { run0.setHose .one { run0.hose .one with state := .fault, faultCause := some .valveLeak } with
    panel := { Panel.reset with supervisorOn := true } }
theorem wit_keys : faulted0.start.stage = .run ∧ faulted0.panel.supervisorOn = true ∧
    faulted0.panel.clearPressed = false ∧ faulted0.scan.state ≠ .failed ∧ (faulted0.hose .one).state = .fault ∧
    (faulted0.hose .one).delivery = none ∧ (faulted0.hose .two).state ≠ .fault ∧ faulted0.start.stage ≠ .hold ∧
    (faulted0.hose .one).state.open = false ∧ run0.panel.supervisorOn = false := by decide +kernel
def failedScan0 (list : List ScanEntry) : State :=
  { run0.setScan { ScanUnit.reset with state := .failed, timeouts := 3, list := list } with
    panel := { Panel.reset with supervisorOn := true } }
theorem wit_keys_scan : (failedScan0 [⟨3, .tankLevel .one⟩]).start.stage = .run ∧
    (failedScan0 [⟨3, .tankLevel .one⟩]).panel.supervisorOn = true ∧
    (failedScan0 [⟨3, .tankLevel .one⟩]).panel.clearPressed = false ∧
    (failedScan0 [⟨3, .tankLevel .one⟩]).scan.state = .failed ∧ (failedScan0 []).scan.list = [] ∧
    ∀ h, ((failedScan0 []).hose h).state ≠ .fault ∧ ((failedScan0 []).hose h).state.open = false := by
  refine ⟨rfl, rfl, rfl, rfl, rfl, ?_⟩
  intro h; cases h <;> decide +kernel
theorem test_keys_scan : result (.clearKey true) (failedScan0 [⟨3, .tankLevel .one⟩]) (fun t =>
    (t.scan.state, t.scan.current, t.scan.timeouts, t.scan.window)) = some (.running, some 0, 0, some 100005) := by
  decide +kernel

/-- EdgeIsCounted: each kind of edge in CONFIG. -/
def counting0 (last : Option Channel) (pulses : Nat) : State :=
  config0.setMeter .one { Meter.reset with lastEdge := last, pulses := pulses }
theorem wit_edge : (counting0 none 0).start.stage ≠ .hold ∧ (counting0 none 0).start.recordGood = false ∧
    ((counting0 none 0).meter .one).lastEdge = none ∧ ((counting0 (some .a) 0).meter .one).lastEdge = some .a ∧
    ((counting0 (some .b) 5).meter .one).lastEdge = some .b ∧ 0 < ((counting0 (some .b) 5).meter .one).pulses ∧
    ((counting0 (some .b) 0).meter .one).pulses = 0 := by decide +kernel
/-- R30: from 00 a rise of A is forward, a rise of B reverse. -/
theorem test_edge : result (.channelEdge .one .a true) (counting0 (some .b) 5) (fun t => (t.meter .one).pulses) = some 6 ∧
    result (.channelEdge .one .b true) (counting0 (some .a) 5) (fun t => (t.meter .one).pulses) = some 4 := by
  decide +kernel
/-- … a fault at the limit and one above it, with and without gross and in CLOSING: the limit is 2. -/
def meterFaults0 (s : State) (count : Nat) : State := s.setMeter .one { s.meter .one with faultCount := count }
theorem wit_meter_fault : (meterFaults0 run0 1).start.stage ≠ .hold ∧ (meterFaults0 run0 1).start.recordGood = true ∧
    ((meterFaults0 run0 1).hoseCfg .one).present = true ∧ ((meterFaults0 run0 1).hoseCfg .one).faultLimit = 2 ∧
    ((meterFaults0 closing0 2).meter .one).lastEdge = some .b ∧ (closing0.hose .one).state = .closing ∧
    ((meterFaults0 closing0 2).meter .one).faultReported = false ∧ (closing0.hose .one).delivery.isSome = true ∧
    ((delivering .flowing .full 1000).hose .one).state.open = true ∧
    0 < ((delivering .flowing .full 1000).meter .one).gross ∧ (delivery0.steps = 0) ∧
    ((delivering .authorised .full 0).meter .one).gross = 0 ∧ (run0.hose .one).state.live = false ∧
    ((meterFaults0 run0 2).setMeter .one { Meter.reset with lastEdge := some .b, faultCount := 2 }).start.stage =
      .run := by decide +kernel
/-- R17, R18, R19: the hose, its fault cause and its end reason after a third fault. -/
theorem test_meter_fault : ([meterFaults0 (delivering .flowing .full 1000) 2, meterFaults0 (delivering .authorised .full 0) 2,
      meterFaults0 closing0 2].map fun s => result (.channelEdge .one .b true) s fun t =>
        ((t.hose .one).state, (t.hose .one).reason, (t.hose .one).delivery.bind Delivery.pendingFault)) =
    [some (.closing, some (.ended .meterFault), none), some (.fault, some (.faulted .meterFault), none),
      some (.closing, (closing0.hose .one).reason, some .meterFault)] := by decide +kernel
/-- … a forward step in IDLE and in IDENTIFYING: stray gross at the limit of 500 mL and above it. -/
def stray0 (s : State) (pulses : Nat) : State :=
  s.setMeter .one { Meter.reset with lastEdge := some .b, pulses := pulses, gross := pulses * 100, weighted := pulses * 15000 }
theorem wit_valve_leak : ForwardStep (stray0 run0 4) .one .a true 500 500 ∧ ForwardStep (stray0 run0 5) .one .a true 600 600 ∧
    (run0.hose .one).state = .idle ∧ (run0.hoseCfg .one).overrun = 500 ∧
    ForwardStep (stray0 (identifying0 (.read .identity) 1) 5) .one .a true 600 600 ∧
    ((stray0 (identifying0 (.read .identity) 1) 5).hose .one).state = .identifying := by
  unfold ForwardStep
  exact ⟨⟨by decide, rfl, rfl, ⟨.b, rfl, by decide⟩, by decide +kernel⟩,
    ⟨by decide, rfl, rfl, ⟨.b, rfl, by decide⟩, by decide +kernel⟩, rfl, rfl,
    ⟨by decide, rfl, rfl, ⟨.b, rfl, by decide⟩, by decide +kernel⟩, rfl⟩
theorem test_valve_leak : ([stray0 run0 4, stray0 run0 5].map fun s => result (.channelEdge .one .a true) s fun t =>
      ((t.hose .one).state, (t.hose .one).faultCause, (t.hose .one).totalizer, (t.meter .one).gross)) =
    [some (.idle, none, 0, 500), some (.fault, some .valveLeak, 600, 0)] := by decide +kernel

/-- FirstGrossStartsFlow. -/
def authorised0 : State := delivering .authorised .full 0
theorem wit_first_gross : authorised0.start.stage = .run ∧ authorised0.start.recordGood = true ∧
    (authorised0.hoseCfg .one).present = true ∧ (authorised0.hose .one).state = .authorised ∧
    (authorised0.hose .one).stage = .full ∧ (authorised0.hose .one).delivery = some delivery0 ∧
    (authorised0.meter .one).lastEdge = some .b ∧
    ((authorised0.meter .one).record .a true).levelA ≠ ((authorised0.meter .one).record .a true).levelB ∧
    (authorised0.meter .one).pulses = 0 ∧ (authorised0.meter .one).gross < 1 * 1000000 / (authorised0.hoseCfg .one).km ∧
    netOf 100 850 (meanTemperature 100 ((authorised0.meter .one).weighted + (100 - 0) * (authorised0.temperature .one).1)
      (authorised0.temperature .one).1) = 100 := by decide +kernel
theorem test_first_gross : result (.channelEdge .one .a true) authorised0
    (fun t => ((t.hose .one).state, (t.meter .one).gross, (t.hose .one).stall)) = some (.flowing, 100,
        some 120000) := by
  decide +kernel
/-- A delivery of 100 L with a gross counted: the band is 1 L, the lead 600 mL, the journal step 50 L. -/
def flowing0 (st : HoseState) (stage : Stage) (gross : Nat) : State := delivering st stage gross
/-- … in AUTHORISED at the stage LOW; one short of the band, and at it; one short of the lead, and at it. -/
theorem wit_forward : ForwardStep (flowing0 .authorised .low 0) .one .a true 100 100 ∧
    ForwardStep (flowing0 .flowing .full 98800) .one .a true 98900 98900 ∧
    ForwardStep (flowing0 .flowing .full 98900) .one .a true 99000 99000 ∧
    ForwardStep (flowing0 .slowing .low 99200) .one .a true 99300 99300 ∧
    ForwardStep (flowing0 .slowing .low 99300) .one .a true 99400 99400 := by
  unfold ForwardStep
  exact ⟨⟨by decide, rfl, rfl, ⟨.b, rfl, by decide⟩, by decide +kernel⟩,
    ⟨by decide, rfl, rfl, ⟨.b, rfl, by decide⟩, by decide +kernel⟩,
    ⟨by decide, rfl, rfl, ⟨.b, rfl, by decide⟩, by decide +kernel⟩,
    ⟨by decide, rfl, rfl, ⟨.b, rfl, by decide⟩, by decide +kernel⟩,
    ⟨by decide, rfl, rfl, ⟨.b, rfl, by decide⟩, by decide +kernel⟩⟩
theorem test_forward : ([flowing0 .authorised .low 0, flowing0 .flowing .full 98800, flowing0 .flowing .full 98900,
      flowing0 .slowing .low 99200, flowing0 .slowing .low 99300].map fun s =>
        result (.channelEdge .one .a true) (s.setHose .one { s.hose .one with
          delivery := some { delivery0 with steps := 1 } }) fun t => ((t.hose .one).state, (t.hose .one).stage)) =
    [some (.slowing, .low), some (.flowing, .full), some (.slowing, .low), some (.slowing, .low),
      some (.closing, .closed)] := by decide +kernel
/-- … the net that reaches the first journal step, the tag unit and the journal unit busy. -/
def step0 : State :=
  let s := (flowing0 .flowing .full 49900).setTag .one { TagUnit.reset with
    state := .inFlight, current := some ⟨.poll, 9, 1, false⟩, window := some 100030, nextNumber := 10, bound := some 77
    identity := some ⟨12, 2, 6, 0x41⟩, polling := true, pollTimer := some 100250 }
  (s.setFleet { s.fleet with entries := [entry0] }).setJournal { s.journal with inService := some (.header none) }
theorem wit_journal_step : ForwardStep step0 .one .a true 50000 50000 ∧
    (step0.hose .one).delivery = some delivery0 ∧ (delivery0.steps + 1) * (step0.cfg.journalStep * 1000) = 50000 ∧
    step0.entry 12 = some entry0 ∧ step0.reservation .one = some reservation0 ∧ (step0.tag .one).state = .inFlight ∧
    step0.journal.inService.isSome = true ∧ step0.journal.queue = [] ∧ delivery0.flags.unknownVehicle = false := by
  refine ⟨?_, by decide +kernel⟩
  unfold ForwardStep
  exact ⟨by decide, rfl, rfl, ⟨.b, rfl, by decide⟩, by decide +kernel⟩
theorem test_journal_step : result (.channelEdge .one .a true) step0 (fun t =>
    ((t.hose .one).delivery.map Delivery.steps, (t.reservation .one).map Reservation.absorbed,
      (t.entry 12).map fun e => (e.carry.shift, e.carry.use), t.journal.queue.length)) =
    some (some 1, some 50000, some (34, 50000), 1) := by decide +kernel

/-- FirstFailingCheckRefuses: the six checks on the vehicle. -/
def overdue0 : Candidate :=
  { candidate0 with service := { service0 with state := .overdue }, cls := some ClassRecord.empty }
theorem wit_checks : candidate0.grades.getLsbD 1 = true ∧ (run0.hoseCfg .one).grade = 1 ∧
    ({ candidate0 with grades := 1 } : Candidate).grades.getLsbD 1 = false ∧
    (candidate0.attrs ^^^ (run0.hoseCfg .one).compare) &&& (run0.hoseCfg .one).care = 0 ∧
    ((1#8 : BitVec 8) ^^^ 0) &&& 1 ≠ 0 ∧
    ({ candidate0 with carry := { Carry.blank with hold := .set ⟨1, 9⟩ } } : Candidate).hold = true ∧
    candidate0.hold = false ∧ run0.journal.claimAvailableFor run0.cfg.nj .one = true ∧
    ({ run0.journal with claims := 1024 } : Journal).claimAvailableFor 1024 .one = false ∧
    overdue0.hold = false ∧ overdue0.service.state = .overdue ∧ run0.panel.supervisorOn = false ∧
    overdue0.returnQty = 0 ∧ candidate0.service.state ≠ .overdue ∧
    run0.remaining .one { candidate0 with base := .litres 4 } = some 4000 ∧ run0.cfg.minIssue = 5 := by decide +kernel
/-- R10 check 8 at its edge: 5 L left passes a minimum issue of 5 L, 4 L does not. -/
theorem test_minimum : run0.checkVehicle .one { candidate0 with base := .litres 5 } = none ∧
    run0.checkVehicle .one { candidate0 with base := .litres 4 } = some .allowanceSpent := by decide +kernel

/-- A READ CARRY in flight to serial 77 of vehicle 12, with an hours block of 500.0 h. -/
def carryRead0 (attempts : Nat) (hours : Option Nat) : State :=
  let s := identifying0 (.read .carry) attempts
  s.setTag .one { s.tag .one with bound := some 77, identity := some ⟨12, 2, 6, 0x41⟩, hours := hours }
/-- A carry with 20 L drawn in shift 34. -/
def drawn0 : Carry := { Carry.blank with shift := 34, use := 20000 }
set_option maxRecDepth 100000 in
theorem wit_carry_read :
    CarryReadEnds (carryRead0 1 none) .one ⟨12, 2, 6, 0x41⟩ (.readerBlock .one 9 77 (carryBlock 12 drawn0)) (some drawn0) ∧
    CarryReadEnds (carryRead0 1 none) .one ⟨12, 2, 6, 0x41⟩ (.readerBlock .one 9 77 (carryBlock 11 drawn0)) none ∧
    CarryReadEnds (carryRead0 3 none) .one ⟨12, 2, 6, 0x41⟩ (.readerNoTag .one 9) none ∧
    CarryReadEnds (carryRead0 3 none) .one ⟨12, 2, 6, 0x41⟩ (.readerWindowExpiry .one) none ∧
    ∀ k, (carryRead0 1 none).watches k 12 = false := by
  refine ⟨⟨rfl, rfl, rfl, rfl, rfl, rfl, rfl, _, rfl, rfl, .inl ⟨_, _, rfl, rfl, by decide +kernel⟩⟩,
    ⟨rfl, rfl, rfl, rfl, rfl, rfl, rfl, _, rfl, rfl, .inl ⟨_, _, rfl, rfl, by decide +kernel⟩⟩,
    ⟨rfl, rfl, rfl, rfl, rfl, rfl, rfl, _, rfl, rfl, .inr ⟨rfl, .inl rfl, rfl, .inl rfl⟩⟩,
    ⟨rfl, rfl, rfl, rfl, rfl, rfl, rfl, _, rfl, rfl, .inr ⟨rfl, .inl rfl, rfl, .inr (.inr rfl)⟩⟩, ?_⟩
  intro k; cases k <;> rfl
/-- … the stop line active, a stock one litre below the refuse level, and a table of pinned entries. -/
def stock0 (n : Nat) : State :=
  { carryRead0 3 none with
    scan := { ScanUnit.reset with samples := [⟨.tankLevel .one, none, none, false, some 100000⟩] }
    tanks := ⟨⟨some n⟩, ⟨none⟩⟩ }
def full0 (policy : Bool) : State :=
  { carryRead0 3 none with
    cfg := { cfg0 with classDefault := policy }
    fleet := { Fleet.reset with entries := (List.range 256).map fun v =>
      { entry0 with vehicle := 1000 + v, carry := { Carry.blank with hold := .set ⟨1, 9⟩ } } } }
set_option maxRecDepth 100000 in
theorem wit_first_checks : (stock0 499).stockKnown .one = true ∧ ((stock0 499).hoseCfg .one).tank = .one ∧
    ((stock0 499).tankCfg .one).refuse = 500 ∧ ((stock0 499).tanks.get .one).stock = some 499 ∧
    (full0 false).tankLow .one = false ∧ (full0 false).entry 12 = none ∧ 256 ≤ (full0 false).fleet.entries.length ∧
    (∀ e ∈ (full0 false).fleet.entries, (full0 false).isPinned e = true) := by decide +kernel
set_option maxRecDepth 100000 in
/-- R10: the reasons of checks 1 and 2, at the refuse level of check 8 (an empty class allows nothing), and of a
full table. -/
theorem test_first_checks : ([{ carryRead0 3 none with panel := { Panel.reset with emergency := true } }, stock0 499,
      stock0 500, full0 false].map fun s => result (.readerNoTag .one 9) s fun t =>
        ((t.hose .one).state, (t.hose .one).reason)) =
    [some (.refused, some (.refusal .stopLineActive)), some (.refused, some (.refusal .tankLow)),
      some (.refused, some (.refusal .allowanceSpent)), some (.refused, some (.refusal .tableFull))] := by decide +kernel

/-- GrantMakesDelivery: an unlimited allowance, and a limited one of a capped vehicle. -/
def capped0 : Candidate :=
  { candidate0 with base := .litres 300, service := { service0 with state := .overdue } }
theorem wit_grant : run0.checkVehicle .one candidate0 = none ∧ run0.remaining .one candidate0 = none ∧
    run0.checkVehicle .one capped0 = none ∧ run0.remaining .one capped0 = some 40000 ∧
    run0.journal.nextSeq < 16777215 := by decide +kernel
/-- R12 step 3: the maximum delivery of 2,000 L, and the return quantity of 40 L. -/
theorem test_grant : ((run0.judge .one candidate0).reservation .one).map Reservation.target = some 2000000 ∧
    ((run0.judge .one capped0).reservation .one).map Reservation.target = some 40000 := by decide +kernel

/-- The identity block of vehicle 12, class 2, grades 1 and 2 (12.4). -/
def identityBlock0 : List Byte := withCheck [1, 0, 12, 2, 6, 0x41]
/-- IdentityBlockIsRead. -/
theorem wit_identity : ((identifying0 (.read .identity) 1).tag .one).state = .inFlight ∧
    ((identifying0 (.read .identity) 1).tag .one).current = some ⟨.read .identity, 9, 1, false⟩ ∧
    ((identifying0 (.read .identity) 1).tag .one).polling = false ∧
    validIdentity identityBlock0 = some ⟨12, 2, 6, 0x41⟩ ∧
    ((identifying0 (.read .identity) 1).hose .one).state = .identifying ∧
    ((identifying0 (.read .identity) 1).tag .one).quiet = none ∧
    ((identifying0 (.read .identity) 1).tag .one).waitingWriteBack = none ∧
    ((identifying0 (.read .identity) 1).tag .one).waitingProgress = none := by decide +kernel

/-- … the hours block of vehicle 12, and a READ HOURS given up; the READ CARRY's ends are those above. -/
def hoursRead0 (attempts : Nat) : State :=
  let s := identifying0 (.read .hours) attempts
  s.setTag .one { s.tag .one with bound := some 77, identity := some ⟨12, 2, 6, 0x41⟩ }
def hoursBlock0 (v : Nat) : List Byte := withCheck ([1] ++ natToBytes 2 v ++ natToBytes 3 5000)
theorem wit_hours_read : ((hoursRead0 1).tag .one).current = some ⟨.read .hours, 9, 1, false⟩ ∧
    ((hoursRead0 1).tag .one).identity = some ⟨12, 2, 6, 0x41⟩ ∧ ((hoursRead0 1).tag .one).bound = some 77 ∧
    validHours 12 (hoursBlock0 12) = some 5000 ∧ validHours 12 (hoursBlock0 11) = none ∧
    ((hoursRead0 3).tag .one).current = some ⟨.read .hours, 9, 3, false⟩ ∧
    ((hoursRead0 3).tag .one).window.isSome = true ∧ ((hoursRead0 3).hose .one).state = .identifying := by
  decide +kernel
theorem test_hours_read : result (.readerBlock .one 9 77 (hoursBlock0 12)) (hoursRead0 1) (fun t =>
      ((t.tag .one).hours, (t.tag .one).current)) = some (some 5000, some ⟨.read .carry, 10, 1, false⟩) ∧
    result (.readerBlock .one 9 77 (hoursBlock0 11)) (hoursRead0 3) (fun t =>
      ((t.tag .one).hours, (t.tag .one).current)) = some (none, some ⟨.read .carry, 10, 1, false⟩) := by decide +kernel
/-- … an entry held, none held with room, and no room under CLASS DEFAULT. -/
theorem wit_candidates : (fleet0.setFleet fleet0.fleet).entry 12 = some entry0 ∧
    (carryRead0 3 none).entry 12 = none ∧ (carryRead0 3 none).fleet.entries.length < 256 ∧
    (full0 true).cfg.classDefault = true ∧ (full0 true).fleet.entries.length = 256 := by decide +kernel
set_option maxRecDepth 100000 in
/-- R76, R108: the entry made from the tag's carry takes the hours block. -/
theorem test_candidate : result (.readerBlock .one 9 77 (carryBlock 12 drawn0)) (carryRead0 1 (some 5000)) (fun t =>
    ((t.hose .one).pinned, (t.entry 12).map fun e => (e.carry.use, e.carry.reading.map Reading.value))) =
    some (none, some (20000, some 5000)) := by decide +kernel

/-- FailedReadIsTriedAgain: the second attempt, and the third of a READ IDENTITY. -/
theorem wit_failed_read : ((identifying0 (.read .carry) 2).tag .one).state = .inFlight ∧
    ((identifying0 (.read .carry) 2).tag .one).current = some ⟨.read .carry, 9, 2, false⟩ ∧
    ((identifying0 (.read .carry) 2).tag .one).polling = false ∧
    ((identifying0 (.read .carry) 2).hose .one).state = .identifying ∧
    ((identifying0 (.read .carry) 2).tag .one).window.isSome = true ∧
    ((identifying0 (.read .identity) 3).tag .one).current = some ⟨.read .identity, 9, 3, false⟩ ∧
    ((identifying0 (.read .identity) 3).tag .one).quiet = none := by decide +kernel

/-- A poll in flight to serial 77. -/
def polling0 : State :=
  (delivering .flowing .full 1000).setTag .one { TagUnit.reset with
    state := .inFlight, current := some ⟨.poll, 9, 1, false⟩, window := some 100030, nextNumber := 10, bound := some 77
    polling := true, pollTimer := some 100250 }
/-- PollResultSetsTagLossTimer: each answer, the bound serial and another; a poll that fell due meanwhile. -/
theorem wit_poll : (polling0.tag .one).state = .inFlight ∧ (polling0.tag .one).current = some ⟨.poll, 9, 1, false⟩ ∧
    (polling0.tag .one).polling = true ∧ (polling0.tag .one).window.isSome = true ∧
    (polling0.tag .one).quiet = none ∧ (polling0.tag .one).waitingWriteBack = none ∧
    (polling0.tag .one).waitingProgress = none ∧
    (polling0.tag .one).waitingRead = none ∧ (polling0.tag .one).bound = some 77 ∧
    decide ((polling0.tag .one).bound = some 78) = false := by decide +kernel
theorem test_poll : result (.readerPresent .one 9 77) (polling0.setTag .one { polling0.tag .one with pollDue := true })
    (fun t => ((t.tag .one).state, (t.tag .one).pollDue, (t.hose .one).tagLoss)) = some (.ready, false, none) := by
  decide +kernel

/-- A write-back in flight to serial 77, the journal unit busy. -/
def writing0 : State :=
  let s := inService (.header none)
  (s.setHose .one { s.hose .one with state := .writeback, delivery := some { delivery0 with finalImage := some issue0 } }).setTag
    .one { TagUnit.reset with
      state := .inFlight, current := some ⟨.writeBack [], 9, 1, false⟩, window := some 100250, bound := some 77 }
/-- WriteBackSuccessRecordsDelivery, at the last serial too. -/
theorem wit_write_back : (writing0.tag .one).state = .inFlight ∧
    (writing0.tag .one).current = some ⟨.writeBack [], 9, 1, false⟩ ∧ (writing0.tag .one).polling = false ∧
    (writing0.tag .one).bound = some 77 ∧ (writing0.tag .one).waitingWriteBack = none ∧
    (writing0.tag .one).waitingProgress = none ∧ (writing0.tag .one).waitingRead = none ∧
    (writing0.hose .one).state = .writeback ∧
    (writing0.hose .one).delivery = some { delivery0 with finalImage := some issue0 } ∧
    0 < writing0.journal.free writing0.cfg.nj ∧ writing0.journal.nextSerial ≤ 4294967295 ∧
    writing0.journal.inService.isSome = true := by decide +kernel

/-- … a third attempt, one after which no other is made, an earlier one, another serial, and a hose in FAULT. -/
def writingBack0 (attempts : Nat) (noMore : Bool) (st : HoseState) : State :=
  let s := writing0.setHose .one { writing0.hose .one with state := st, hook := .lifted }
  s.setTag .one { s.tag .one with current := some ⟨.writeBack [1], 9, attempts, noMore⟩ }
/-- … a write-back that waits for an exchange that was abandoned. -/
def waiting0 (st : HoseState) : State :=
  let s := writing0.setHose .one { writing0.hose .one with state := st, hook := .lifted }
  s.setTag .one { s.tag .one with state := .abandoned, waitingWriteBack := some [1] }
theorem wit_write_back_fails : ((writingBack0 3 false .fault).tag .one).current = some ⟨.writeBack [1], 9, 3, false⟩ ∧
    ((writingBack0 1 true .writeback).tag .one).current = some ⟨.writeBack [1], 9, 1, true⟩ ∧
    ((writingBack0 2 false .writeback).tag .one).current = some ⟨.writeBack [1], 9, 2, false⟩ ∧
    ((writingBack0 3 false .fault).tag .one).bound ≠ some 78 ∧ ((writingBack0 3 false .fault).hose .one).state = .fault ∧
    ((writingBack0 3 false .fault).tag .one).window.isSome = true ∧
    (writingBack0 1 false .writeback).unfitted .one = false ∧
    ((writingBack0 1 false .writeback).tag .one).waitingWriteBack = none ∧
    ((waiting0 .fault).tag .one).waitingWriteBack = some [1] ∧ (waiting0 .fault).unfitted .one = false ∧
    0 < (waiting0 .fault).journal.free (waiting0 .fault).cfg.nj := by decide +kernel
/-- R22, R63: the flag TAG NOT UPDATED and the state after a write-back given up; a hang while one waits. -/
theorem test_write_back_fails : ([result (.readerWritten .one 9 78) (writingBack0 3 false .fault),
      result (.readerNoTag .one 9) (writingBack0 1 true .writeback), result (.hang .one) (waiting0 .writeback)].map
        fun r => r fun t => ((t.hose .one).state, (t.hose .one).delivery.map fun d => d.flags.tagNotUpdated)) =
    [some (.fault, some true), some (.recording, some true), some (.recording, some true)] := by decide +kernel

/-- TagTimersExpire: the poll timer in READY and in flight; the quiet timer with a read waiting. -/
theorem wit_tag_timers : (polling0.tag .one).pollTimer.isSome = true ∧ (polling0.tag .one).state ≠ .ready ∧
    (({ TagUnit.reset with polling := true, pollTimer := some 1 } : TagUnit).state = .ready) ∧
    (({ TagUnit.reset with quiet := some 250, waitingRead := some .identity } : TagUnit).quiet.isSome = true) := by
  decide +kernel

/-- AbsorbCountsOnce: the three relations of the shifts, a mark older than and at the end time. -/
theorem wit_applied : (34 = ({ Carry.blank with shift := 34 } : Carry).shift) ∧
    ({ Carry.blank with shift := 33 } : Carry).shift < 34 ∧ 34 < ({ Carry.blank with shift := 35 } : Carry).shift ∧
    Level.blank.mark = none ∧ (⟨some ⟨99, 1, 1, 1⟩, 0, 0⟩ : Level).mark = some ⟨99, 1, 1, 1⟩ ∧
    (⟨99, 1, 1, 1⟩ : Mark).time < 100 ∧ 99 ≤ (⟨99, 1, 1, 1⟩ : Mark).time := by decide +kernel
/-- AbsorbCountsOnce and LevelsStayInOrder: levels in order, level 1 served after level 2, litres at their end. -/
def ordered0 : Carry :=
  { Carry.blank with levels := ⟨⟨some ⟨90, 1, 1, 2⟩, 70, 5⟩, ⟨some ⟨80, 1, 1, 1⟩, 60, 8⟩, ⟨none, 0, 9⟩,
      ⟨none, 0, 4000000000000⟩⟩ }
theorem wit_ordered : ordered0.ordered ∧ ordered0.levels.l4.litres ≤ 4000000000000 := by
  unfold Carry.ordered Level.inOrder; decide +kernel

/-- ServiceRaisesReading: no reading, a smaller one, an equal one. -/
theorem wit_service : Carry.blank.reading = none ∧
    ({ Carry.blank with reading := some ⟨99, 5, .read⟩ } : Carry).reading = some ⟨99, 5, .read⟩ ∧
    (⟨99, 5, .read⟩ : Reading).value < 100 ∧ 99 ≤ (⟨99, 5, .read⟩ : Reading).value := by decide +kernel

set_option maxRecDepth 100000 in
/-- HeardIssueIsAbsorbed: station 9's ISSUE record of vehicle 12. -/
theorem wit_heard_issue : fleet0.listening = true ∧ siteFrame .issue issueFrame0 = some (passed .issue issueFrame0) ∧
    (passed .issue issueFrame0).origin ≠ fleet0.cfg.station ∧
    ((fleet0.line.hear (passed .issue issueFrame0) fleet0.elapsed).peer (passed .issue issueFrame0).origin).bind
      (fun q => q.window (passed .issue issueFrame0).seq) = some (acceptedPeer fleet0 (passed .issue issueFrame0)) ∧
    (decodeIssue 1 8 (passed .issue issueFrame0).content).vehicle = 12 ∧ fleet0.entry 12 = some entry0 := by
  decide +kernel
set_option maxRecDepth 100000 in
theorem test_heard_issue : result (.issueFrame ⟨true, issueFrame0⟩) fleet0 (fun t => (t.entry 12).map fun e =>
    (e.carry.shift, e.carry.use, e.tagClass, e.touched)) = some (some (34, 30000, some 3, 1000000)) :=
        by decide +kernel

/-- A frame can begin in the states of the reception witnesses, with the receive gap in the command; where the gap
passed before it; and where the gap ends a frame begun. -/
theorem wit_frame_can_begin : fleet0.frameCanBegin true ∧ run0.frameCanBegin true ∧
    ({ run0 with cfg := { cfg0 with authority := [7] } } : State).frameCanBegin true ∧
    (inService (.header none)).frameCanBegin true ∧ (fleet0.setReceiver [] false).frameCanBegin false ∧
    (run0.setReceiver [0x5A, 3] false).frameCanBegin true := by
  unfold State.frameCanBegin; decide

/-- UnauthorisedRecordsAreIgnored: station 9 off the authority list. -/
def strict0 : State := { run0 with cfg := { cfg0 with authority := [7] } }
set_option maxRecDepth 100000 in
theorem wit_unauthorised : strict0.listening = true ∧ strict0.cfg.authority.contains 9 = false ∧
    siteFrame .service serviceFrame0 = some (passed .service serviceFrame0) ∧
    siteFrame .vehicleNotice noticeFrame0 = some (passed .vehicleNotice noticeFrame0) ∧
    siteFrame .classNotice classFrame0 = some (passed .classNotice classFrame0) ∧
    (passed .service serviceFrame0).origin = 9 ∧ (passed .vehicleNotice noticeFrame0).origin = 9 ∧
    (passed .classNotice classFrame0).origin = 9 ∧ strict0.cfg.station = 7 ∧
    ((strict0.line.hear (passed .service serviceFrame0) strict0.elapsed).peer 9).bind (fun q => q.window 8) =
      some (acceptedPeer strict0 (passed .service serviceFrame0)) ∧
    ((strict0.line.hear (passed .vehicleNotice noticeFrame0) strict0.elapsed).peer 9).bind (fun q => q.window 8) =
      some (acceptedPeer strict0 (passed .vehicleNotice noticeFrame0)) ∧
    ((strict0.line.hear (passed .classNotice classFrame0) strict0.elapsed).peer 9).bind (fun q => q.window 8) =
      some (acceptedPeer strict0 (passed .classNotice classFrame0)) := by decide +kernel

set_option maxRecDepth 100000 in
/-- HeardNoticeAndServiceAreTaken: both kinds for vehicle 12 from an authority. -/
theorem wit_heard_notice : fleet0.cfg.authority.contains 9 = true ∧
    (decodeVehicleNotice (passed .vehicleNotice noticeFrame0).content).inRange = true ∧
    (decodeVehicleNotice (passed .vehicleNotice noticeFrame0).content).vehicle = 12 ∧
    (decodeService (passed .service serviceFrame0).content).inRange = true ∧
    (decodeService (passed .service serviceFrame0).content).vehicle = 12 ∧
    ((fleet0.line.hear (passed .service serviceFrame0) fleet0.elapsed).peer 9).bind (fun q => q.window 8) =
      some (acceptedPeer fleet0 (passed .service serviceFrame0)) ∧
    ((fleet0.line.hear (passed .vehicleNotice noticeFrame0) fleet0.elapsed).peer 9).bind (fun q => q.window 8) =
      some (acceptedPeer fleet0 (passed .vehicleNotice noticeFrame0)) := by decide +kernel
set_option maxRecDepth 100000 in
theorem test_heard_notice : result (.vehicleNoticeFrame ⟨true, noticeFrame0⟩) fleet0
    (fun t => (t.entry 12).map fun e => e.allowanceOv) = some (some ⟨some 80, some ⟨990500, 9⟩⟩) := by decide +kernel
set_option maxRecDepth 100000 in
theorem test_heard_service : result (.serviceFrame ⟨true, serviceFrame0⟩) fleet0 (fun t => (t.entry 12).map fun e =>
    (e.carry.levels.l1.hours, e.carry.levels.l2.hours, e.carry.levels.l3.mark, e.carry.reading.map Reading.value)) =
    some (some (5000, 5000, none, some 5000)) := by decide +kernel

/-- … a field without a stamp, an older stamp, the same time of a lower station, an equal stamp and a newer one. -/
theorem wit_stamps : StampBeats ⟨990500, 9⟩ none ∧ StampBeats ⟨990500, 9⟩ (some ⟨990499, 200⟩) ∧
    StampBeats ⟨990500, 9⟩ (some ⟨990500, 8⟩) ∧ ¬ StampBeats ⟨990500, 9⟩ (some ⟨990500, 9⟩) ∧
    ¬ StampBeats ⟨990500, 9⟩ (some ⟨990501, 1⟩) := by
  refine ⟨fun _ h => (nomatch h), fun o h => ?_, fun o h => ?_, fun h => ?_, fun h => ?_⟩
  · cases h; decide
  · cases h; decide
  · exact absurd (h _ rfl) (by decide)
  · exact absurd (h _ rfl) (by decide)
theorem wit_mask : (0x80#8).getLsbD 7 = true ∧ (0x80#8).getLsbD 6 = false ∧ (0x40#8).getLsbD 6 = true ∧
    (0x20#8).getLsbD 5 = true ∧ (0x10#8).getLsbD 4 = true ∧ (0x0F#8).getLsbD 0 = true ∧
    (0x0F#8).getLsbD 4 = false := by decide
/-- … the marks of an adoption at level 2: older, equal, and newer by the origin at the same time. -/
theorem wit_adopted : (2, serviced0.levels.l2, Level.blank) ∈ [(1, serviced0.levels.l1, Level.blank),
      (2, serviced0.levels.l2, Level.blank)] ∧
    serviced0.levels.l2.mark = some ⟨980000, 32, 6, 611⟩ ∧ serviced0.levels.l4.mark = none ∧
    serviced0.levels.l1.mark = some ⟨1010000, 32, 6, 700⟩ := by decide +kernel

/-- ClassNoticeWritesClassRecord: the journal unit busy with an empty queue; idle; and with a plan write waiting, none
or one of the class held back. -/
def busy0 : State := inService (.header none)
def planned0 (held : List (Nat × ClassRecord)) : State :=
  { busy0 with
    journal := { busy0.journal with queue := [.plan 5 ClassRecord.empty] }
    classes := { busy0.classes with heldPlans := held } }
set_option maxRecDepth 100000 in
theorem wit_class_notice : busy0.listening = true ∧
    siteFrame .classNotice classFrame0 = some (passed .classNotice classFrame0) ∧
    (passed .classNotice classFrame0).origin ≠ busy0.cfg.station ∧ busy0.cfg.authority.contains 9 = true ∧
    ((busy0.line.hear (passed .classNotice classFrame0) busy0.elapsed).peer 9).bind (fun q => q.window 8) =
      some (acceptedPeer busy0 (passed .classNotice classFrame0)) ∧
    (decodeClassNotice (passed .classNotice classFrame0).content).inRange = true ∧
    busy0.classes.records.length = 8 ∧
    (busy0.classRecord 2).takeNotice ⟨990500, 9⟩ (decodeClassNotice (passed .classNotice classFrame0).content) ≠
      busy0.classRecord 2 ∧ busy0.journal.inService.isSome = true ∧ busy0.journal.queue = [] ∧
    run0.journal.inService = none ∧ run0.journal.queue = [] ∧ run0.classes.heldPlans = [] ∧
    (planned0 []).journal.queue = [.plan 5 ClassRecord.empty] ∧
    (planned0 [(2, ClassRecord.empty)]).classes.heldPlans = [(2, ClassRecord.empty)] ∧
    busy0.reservation .one = none ∧ busy0.reservation .two = none := by
  decide +kernel
set_option maxRecDepth 100000 in
theorem test_held_plans : ([planned0 [], planned0 [(2, ClassRecord.empty)], planned0 [(3, ClassRecord.empty)]].map fun s =>
      result (.classNoticeFrame ⟨true, classFrame0⟩) s fun t =>
        (t.classes.heldPlans.map fun p => (p.1, p.2.allowance.val), t.journal.queue.length)) =
    [some ([(2, 90)], 1), some ([(2, 90)], 1), some ([(3, 0), (2, 90)], 1)] := by decide +kernel
/-- … a notice older than the record's allowance, one out of range, and a class hold of a watched vehicle. -/
def holdFrame0 (mask : Byte) (cls stamp : Nat) : List Byte :=
  frameOf 4 9 (Record.cls 1 8 ⟨cls, stamp, mask, 90, 1, 0, 0,
    ⟨⟨0, 0, 0, 0, 0, 0⟩, ⟨0, 0, 0, 0, 0, 0⟩, ⟨0, 0, 0, 0, 0, 0⟩, ⟨0, 0, 0, 0, 0, 0⟩⟩⟩).body
def stamped0 : State :=
  { run0 with classes := { run0.classes with
      records := (List.range 8).map fun _ => { ClassRecord.empty with allowance := ⟨70, some ⟨990500, 9⟩⟩ } } }
def watched0 : State :=
  (delivering .flowing .full 1000).setFleet { Fleet.reset with entries := [entry0] }
set_option maxRecDepth 100000 in
theorem wit_class_notice_cases :
    (stamped0.classRecord 2).takeNotice ⟨990500, 9⟩
      (decodeClassNotice (passed .classNotice classFrame0).content) = stamped0.classRecord 2 ∧
    siteFrame .classNotice (holdFrame0 0x80 9 990500) = some (passed .classNotice (holdFrame0 0x80 9 990500)) ∧
    (decodeClassNotice (passed .classNotice (holdFrame0 0x80 9 990500)).content).inRange = false ∧
    siteFrame .classNotice (holdFrame0 0x40 2 990500) = some (passed .classNotice (holdFrame0 0x40 2 990500)) ∧
    (decodeClassNotice (passed .classNotice (holdFrame0 0x40 2 990500)).content).inRange = true ∧
    (watched0.classRecord 2).hold.stamp = none ∧ (watched0.classRecord 2).hold.val ≠ .set ∧
    watched0.reservation .one = some reservation0 ∧ watched0.reservation .two = none ∧
    watched0.entry reservation0.vehicle = some entry0 ∧ entry0.effectiveClass = some 2 ∧
    (watched0.hose .one).state.open = true ∧ (watched0.hose .one).delivery = some delivery0 ∧
    watched0.classes.records.length = 8 ∧
    ((watched0.line.hear (passed .classNotice (holdFrame0 0x40 2 990500)) watched0.elapsed).peer 9).bind
      (fun q => q.window 8) = some (acceptedPeer watched0 (passed .classNotice (holdFrame0 0x40 2 990500))) := by
  decide +kernel
set_option maxRecDepth 100000 in
theorem test_class_hold : result (.classNoticeFrame ⟨true, holdFrame0 0x40 2 990500⟩) watched0 (fun t =>
    ((t.hose .one).state, (t.hose .one).reason)) = some (.closing, some (.ended .holdReceived)) := by decide +kernel

/-- BeaconMergesSiteTime: 2 s ahead, 1 s to either side, and 2 s behind. -/
theorem wit_beacon : run0.listening = true ∧
    siteFrame .beacon (beaconFrame0 1000002) = some (passed .beacon (beaconFrame0 1000002)) ∧
    siteFrame .beacon (beaconFrame0 1000001) = some (passed .beacon (beaconFrame0 1000001)) ∧
    siteFrame .beacon (beaconFrame0 999999) = some (passed .beacon (beaconFrame0 999999)) ∧
    siteFrame .beacon (beaconFrame0 999998) = some (passed .beacon (beaconFrame0 999998)) ∧
    (passed .beacon (beaconFrame0 1000002)).origin ≠ run0.cfg.station ∧
    (decodeBeacon (passed .beacon (beaconFrame0 1000002)).body).time = run0.line.siteTime + 2 ∧
    (decodeBeacon (passed .beacon (beaconFrame0 999998)).body).time + 2 = run0.line.siteTime := by decide +kernel

/-- BadFramesAreCounted: each stage in which reception runs, one in which it does not, and SEND; where a frame can
begin, bytes without a start mark, a length one above the longest, the longest, a start mark alone, bytes one short
of a frame, a frame that fails its CRC and one that passes; a frame begun; and a receiver that skips. -/
def gapped0 : State := run0.setReceiver [] false
def begun0 : State := run0.setReceiver [0x5A, 3] false
theorem wit_bad_frame : listen0.start.stage = .listen ∧ gapped0.start.stage = .run ∧
    fault0.start.stage = .configFault ∧ State.reset.start.stage = .hold ∧ gapped0.line.sender ≠ .send ∧
    gapped0.line.skipping = false ∧ gapped0.line.receiveBuffer = [] ∧ (1 : Byte) ≠ 0x5A ∧ 128 < (129#8).toNat ∧
    (128#8).toNat ≤ 128 ∧ (List.replicate 3 (0 : Byte)).length < (0#8).toNat + 4 ∧
    (List.replicate 4 (0 : Byte)).length = (0#8).toNat + 4 ∧
    begun0.line.receiveBuffer ≠ [] ∧ begun0.line.skipping = false ∧ begun0.start.stage = .run ∧
    run0.line.skipping = true ∧ (gapped0.setLine { gapped0.line with sender := .send }).line.sender = .send ∧
    (∀ k, siteFrame k [0x5A, 0, 0, 0, 0, 0] = none) ∧ (siteFrame .beacon (beaconFrame0 1000002)).isSome = true := by
  refine ⟨rfl, rfl, rfl, rfl, by decide, rfl, rfl, by decide, by decide, by decide, by decide, by decide, by decide,
    rfl, rfl, rfl, rfl, ?_, by decide +kernel⟩
  intro k; cases k <;> decide +kernel
/-- R123: bad CRC, buffer and skipping after bytes that are skipped, too long, begun, truncated by a gap, finished by
later bytes, and truncated by the gap before the next bytes. -/
theorem test_bad_frame : ([result (.badFrame ⟨true, [1, 2]⟩) run0, result (.badFrame ⟨true, [0x5A, 129]⟩) run0,
      result (.badFrame ⟨true, [0x5A, 0, 0]⟩) run0, result .receiveGap begun0,
      result (.badFrame ⟨false, [0, 0, 0, 0, 0, 0, 0]⟩) begun0, result (.badFrame ⟨true, [0x5A]⟩) begun0].map
        fun r => r fun t => (t.line.badCrc, t.line.receiveBuffer, t.line.skipping)) =
    [some (0, [], true), some (1, [], true), some (0, [0x5A, 0, 0], false), some (1, [], false), some (1, [], true),
      some (1, [0x5A], false)] := by decide +kernel
/-- R123: a whole beacon in the station's own SEND, behind skipped bytes with no gap between, and after a gap. -/
theorem test_own_send : ([result (.beaconFrame ⟨true, beaconFrame0 1000002⟩)
        (run0.setLine { run0.line with sender := .send }),
      result (.beaconFrame ⟨false, beaconFrame0 1000002⟩) run0, result (.beaconFrame ⟨false, beaconFrame0 1000002⟩) gapped0].map
        fun r => r fun t => (t.line.siteTime, t.line.badCrc)) =
    [some (1000000, 0), some (1000000, 0), some (1000002, 0)] := by decide +kernel
/-- R133: an entry heard 30 s ago is STALE, one heard a millisecond later is LIVE. -/
theorem test_stale : ([70000, 70001].map fun n => result (.peerStale 9)
      (run0.setLine { run0.line with peers := [{ Peer.new 9 1 with lastHeard := some n }] }) fun t =>
        t.line.peers.map Peer.live) = [some [false], some [true]] := by decide +kernel

/-- … and a frame that bears this station's number, of its epoch and of another. -/
theorem wit_own_number : run0.listening = true ∧ run0.cfg.station = 7 ∧ run0.journal.header.epoch = 5 ∧
    (siteFrame .beacon (frameOf 5 7 (natToBytes 2 5 ++ List.replicate 12 0))).map (fun f => (f.origin, f.epoch)) =
      some (7, 5) ∧
    (siteFrame .beacon (frameOf 5 7 (natToBytes 2 6 ++ List.replicate 12 0))).map (fun f => (f.origin, f.epoch)) =
      some (7, 6) := by decide +kernel

/-- EvaluationTakesWorst: a level in use with a mark and one without, none in use, and some in use. -/
theorem wit_evaluation : ¬ (plans0.plans.l3.val.ih = 0 ∧ plans0.plans.l3.val.il = 0) ∧
    serviced0.levels.l3.mark ≠ none ∧ serviced0.levels.l4.mark = none ∧ plans0.burn.val ≠ 0 ∧
    Carry.blank.reading = none ∧ levelState plans0.plans.l4.val serviced0.levels.l4 none ≠ none ∧
    levelState ClassRecord.empty.plans.l1.val Level.blank none = none := by decide +kernel

/-- DisturbedDeliveryIsReevaluated: the use raised under 3,000 L; the allowance cut to the live net; a hold. -/
theorem wit_watch : (truck0.hose .one).state.open = true ∧ (truck0.hose .one).delivery.isSome = true ∧
    (truck0.reservation .one).isSome = true ∧
    holdInForce truckEntry0.carry (truck0.classOf truckEntry0) = false ∧
    effectiveAllowance false (baseAllowance truckEntry0.allowanceOv.val (truck0.classOf truckEntry0))
      (truck0.classOf truckEntry0) = .litres 3000 ∧
    truckEntry0.carry.useAgainst 9050 = 1300000 ∧ 1000000 < 1300000 ∧
    holdInForce { Carry.blank with hold := .set ⟨1, 9⟩ } none = true := by decide +kernel
/-- … the same in CLOSING; two entries on the vehicle, hose 1's granted earlier, and a report of a changed use. -/
theorem wit_watch_order : (({ truck0 with hoses := ⟨{ truck0.hoses.one with state := .closing }, truck0.hoses.two⟩ } : State).hose
      .one).state = .closing ∧ (truck0.reservation .one).map Reservation.rank = some 0 ∧
    (truck0.reservation .two).map Reservation.rank = some 1 ∧
    (truck0.reservation .one).map Reservation.vehicle = some 318 ∧
    (truck0.reservation .two).map Reservation.vehicle = some 318 ∧
    (truck0.reservation .one).map Reservation.watched = some true ∧ truck0.entry 318 = some truckEntry0 ∧
    truck0.reportValues truckEntry0 ≠ { truck0.reportValues truckEntry0 with use := 1000000 } := by decide +kernel
theorem test_watch_closing :
    let s : State := { truck0 with hoses := ⟨{ truck0.hoses.one with state := .closing }, truck0.hoses.two⟩ }
    ((s.examine .one truckEntry0 1000000).reservation .one).map (fun r => (r.target, r.watch, r.causes.useRaised)) =
      some (1500000, .disturbed, true) := by decide +kernel

/-- WindowAcceptsOnce: the first sequence, a later one, one inside the window and the oldest in it; a sequence
refused as marked and one as old, and acceptances after each; a frame whose sequence the origin's entry holds. -/
theorem wit_window : ((Peer.new 9 1).window 40).isSome = true ∧
    (((Peer.new 9 1).window 40).bind fun p => p.window 41).isSome = true ∧
    (((Peer.new 9 1).window 40).bind fun p => p.window 39).isSome = true ∧
    (((Peer.new 9 1).window 40).bind fun p => p.window 9).isSome = true ∧
    (((Peer.new 9 1).window 40).bind fun p => [70, 41, 80].foldlM (fun p n => p.window n) p).isSome = true ∧
    (({ Peer.new 9 1 with high := some 40, marks := 1 } : Peer).window 40) = none ∧
    (({ Peer.new 9 1 with high := some 40, marks := 1 } : Peer).window 8) = none ∧
    (({ Peer.new 9 1 with high := some 40, marks := 1 } : Peer).window 71).isSome = true := by decide +kernel
def heard0 : State :=
  { run0.setLine { run0.line with peers := [{ Peer.new 9 1 with high := some 40, marks := 1 }] } with
    pending := [.beaconFrame ⟨true, beaconFrame0 1000002⟩] }
set_option maxRecDepth 100000 in
theorem wit_window_kept : ∃ t q, step heard0 = .next t ∧
    heard0.line.peer 9 = some { Peer.new 9 1 with high := some 40, marks := 1 } ∧ t.line.peer 9 = some q ∧
    q.epoch = 1 := ⟨_, _, rfl, rfl, rfl, by decide +kernel⟩

/-- The sender in a state with a count and a current frame. -/
def sender0 (st : SenderState) (k : Option Nat) (c : Option CurrentFrame) : State :=
  run0.setLine { run0.line with
    sender := st, k := k, current := c, peers := [{ Peer.new 9 1 with lastHeard := some 99000 }]
    queue := [⟨0, 2, natToBytes 19 1⟩] }
/-- BackoffAndCollision: k absent, 0 and 5 in DEFER; k = 1 and 2 in BACKOFF, a beacon and a record. -/
theorem wit_backoff : (sender0 .defer none (some .beacon)).line.sender = .defer ∧
    (sender0 .defer none (some .beacon)).line.k = none ∧ 0 < (sender0 .defer none (some .beacon)).line.window ∧
    (sender0 .defer (some 0) (some .beacon)).line.k = some 0 ∧ (sender0 .defer (some 5) none).line.k = some 5 ∧
    (sender0 .backoff (some 1) (some .beacon)).line.sender = .backoff ∧
    (sender0 .backoff (some 1) (some .beacon)).line.current = some .beacon ∧
    (sender0 .backoff (some 1) (some .record)).line.current = some .record ∧
    (sender0 .backoff (some 1) (some .record)).line.queue = [⟨0, 2, natToBytes 19 1⟩] ∧
    (sender0 .backoff (some 2) none).line.k = some 2 := by decide +kernel

/-- BackoffAndCollision: a first failure and an eighth. -/
theorem wit_collision : (sender0 .send none (some .beacon)).line.sender = .send ∧
    (sender0 .send none (some .beacon)).line.attempts = 0 ∧
    ({ (sender0 .send none (some .beacon)).line with attempts := 7 } : SiteLine).attempts + 1 = 8 := by decide +kernel

/-- SenderChooses: the four choices. -/
theorem wit_choice : (sender0 .congested (some 0) (some .record)).line.sender = .congested ∧
    (sender0 .idle none none).line.sender = .idle ∧ (sender0 .idle none none).line.held = false ∧
    ({ (sender0 .idle none none).line with beaconTimer := some 5 } : SiteLine).beaconTimer.isSome = true ∧
    (sender0 .send none (some .beacon)).line.current = some .beacon ∧
    (sender0 .send none (some .record)).line.current = some .record ∧
    1 ≤ (sender0 .send none (some .beacon)).line.liveCount ∧ run0.line.liveCount = 0 := by decide +kernel

/-- SentRecordAdvancesMark: the first record since a save, and the sixteenth. -/
def sent0 (n : Nat) : State :=
  (sender0 .send (some 0) (some .record)).setJournal { Journal.reset with
    header := ⟨5, 1024, 1, 1⟩, nextSerial := 40, unsent := 3, sentSinceSave := n, queue := [.sendRead 4]
    inService := some (.clearSlot .one) }
theorem wit_sent : (sent0 0).line.sender = .send ∧ (sent0 0).line.current = some .record ∧
    0 < (sent0 0).journal.unsent ∧
    (sent0 0).journal.loadHold = none ∧ (sent0 0).journal.pendingRecoveries = [] ∧
    (sent0 0).journal.inService.isSome = true ∧ (sent0 0).journal.operations.any MemOp.isSendRead = true ∧
    (sent0 0).journal.sentSinceSave + 1 ≠ 16 ∧ (sent0 15).journal.sentSinceSave + 1 = 16 := by decide +kernel

/-- IssueAppendWritesSlotThenClears: before and after the ring slot's write, the send queue full. -/
def append0 (written : Bool) : State :=
  let s := inService (.append .hose 0 1 (.issue issue0))
  ((s.setHose .one { s.hose .one with state := .recording, delivery := some delivery0 }).setLine
    { s.line with queue := List.replicate 4 ⟨0, 2, []⟩ }).setJournal
    { s.journal with ringWritten := written, unsent := 1, nextSerial := 2, claims := 1, loadHold := some 0 }
theorem wit_append : (append0 false).memoryOk ∧
    (append0 false).journal.inService = some (.append .hose 0 1 (.issue issue0)) ∧
    (append0 false).journal.ringWritten = false ∧ (append0 true).memoryOk ∧
    (append0 true).journal.ringWritten = true ∧ (append0 true).journal.queue = [] ∧
    ((append0 true).hose .one).state = .recording ∧
    ¬ ((append0 true).line.queue.length < 4) :=
  ⟨rfl, rfl, rfl, rfl, rfl, rfl, rfl, by decide⟩

/-- WriteCompletionsStore: an open-slot, a CLEAR, a plan and a header write. -/
theorem wit_writes : (inService (.progress .two issue0)).memoryOk ∧
    (inService (.progress .two issue0)).journal.queue = [] ∧
    (inService (.progress .two issue0)).journal.unsentAt 1024 0 = false ∧
    (inService (.final .one issue0)).journal.inService = some (.final .one issue0) ∧
    (inService (.clearSlot .one)).journal.inService = some (.clearSlot .one) ∧
    (inService (.plan 7 ClassRecord.empty)).journal.inService = some (.plan 7 ClassRecord.empty) ∧
    header0.journal.inService = some (.header (some ⟨5, 1024, 1, 1⟩)) ∧ header0.start.scanEnd = none :=
  ⟨rfl, rfl, by decide +kernel, rfl, rfl, rfl, rfl, rfl⟩
/-- … the last write of a formatting, and the first with the others behind it. -/
def formatting0 (op : MemOp) (queue : List MemOp) : State :=
  { scanning0 with
    start := { scanning0.start with scanEnd := some ⟨990500, ⟨7, 8⟩⟩ }
    journal := { Journal.reset with header := ⟨6, 4, 10, 10⟩, nextSerial := 10, inService := some op, queue := queue } }
theorem wit_format_writes : (formatting0 (.header (some ⟨6, 4, 10, 10⟩)) []).memoryOk ∧
    (formatting0 (.header (some ⟨6, 4, 10, 10⟩)) []).start.stage = .journalScan ∧
    (formatting0 (.header (some ⟨6, 4, 10, 10⟩)) []).journal.queue = [] ∧
    (formatting0 (.header (some ⟨6, 4, 10, 10⟩)) []).journal.unsentAt 4 0 = false ∧
    (formatting0 (.clearSlot .one) [.clearSlot .two, .header none]).journal.queue = [.clearSlot .two, .header none] ∧
    (formatting0 (.clearSlot .two) [.header none]).journal.unsent = 0 ∧
    (formatting0 (.header (some ⟨6, 4, 10, 10⟩)) [.clearSlot .one]).journal.queue = [.clearSlot .one] ∧
    [MemOp.clearSlot .one].any MemOp.isHeader = false := ⟨rfl, rfl, rfl, by decide +kernel, rfl, rfl, rfl, rfl⟩
set_option maxRecDepth 100000 in
theorem test_format_writes : result .headerWriteComplete (formatting0 (.header (some ⟨6, 4, 10, 10⟩)) []) (fun t =>
      (t.start.stage, t.line.siteTime, t.start.scanEnd, (t.hose .two).totalizer)) = some (.listen, 990500, none, 8) ∧
    result .openSlotWriteComplete (formatting0 (.clearSlot .two) [.header none]) (fun t =>
      (t.journal.inService, t.start.stage)) = some (some (.header (some ⟨6, 4, 10, 10⟩)), .journalScan) := by
  decide +kernel

/-- SendReadsAndFailures: the record of serial 5 in slot 0, with three records queued. -/
def loading0 : State :=
  { inService (.sendRead 0) with
    line := { run0.line with sender := .defer, queue := List.replicate 3 ⟨9, 2, []⟩ }
    mem := memWriteBytes [] 1280 (encodeSlot 5 (.service 5 3 ⟨12, 2, 990000, 5000, 990500⟩))
    journal := { run0.journal with inService := some (.sendRead 0), tail := 1020, unsent := 8, nextSerial := 9
                                   nextToLoad := 0 } }
set_option maxRecDepth 100000 in
theorem wit_send_read : loading0.journal.inService = some (.sendRead 0) ∧ loading0.journal.queue = [] ∧
    3 ≤ loading0.line.queue.length ∧ loading0.line.sender ≠ .idle ∧ loading0.journal.sendMark 1024 ≠ 0 ∧
    0 < loading0.cfg.nj ∧
    (decodeSlot (memReadBytes loading0.mem 1280 128)).map RingSlot.serial =
      some (loading0.journal.expectedSerial 1024 0) ∧ loading0.start.stage ≠ .config := by decide +kernel
theorem wit_failures : header0.start.stage ≠ .config ∧ (MemOp.header none).isSendRead = false ∧
    config0.start.stage = .config ∧ config0.start.recordGood = false ∧ config0.start.failedReads < 2 ∧
    ({ config0.start with failedReads := 2 } : StartCtl).failedReads = 2 := by decide +kernel
/-- … with room for one more: the next position UNSENT and not; slots with another serial and a wrong check value;
and the send mark at the position. -/
def loading1 (queued unsent tail : Nat) (serial : Nat) : State :=
  { loading0 with
    line := { loading0.line with queue := List.replicate queued ⟨9, 2, []⟩ }
    mem := memWriteBytes [] 1280 (encodeSlot serial (.service 5 3 ⟨12, 2, 990000, 5000, 990500⟩))
    journal := { loading0.journal with tail := tail, unsent := unsent } }
set_option maxRecDepth 100000 in
theorem wit_send_reads : (loading1 2 8 1020 5).journal.unsentAt 1024 1 = true ∧
    (loading1 2 5 1020 8).journal.unsentAt 1024 1 = false ∧ (loading1 2 8 1020 5).journal.loadHold = none ∧
    (loading1 2 8 1020 5).line.queue.length < 3 ∧
    (decodeSlot (memReadBytes (loading1 2 8 1020 6).mem 1280 128)).map RingSlot.serial = some 6 ∧
    (loading1 2 8 1020 6).journal.expectedSerial 1024 0 = 5 ∧
    decodeSlot (memReadBytes (memSetCells (loading1 2 8 1020 5).mem [(1290, 77)]) 1280 128) = none ∧
    cellsInMemory [(1290, 77)] = true ∧ (loading1 2 8 0 5).journal.sendMark 1024 = 0 ∧
    0 < (loading1 2 8 0 5).journal.unsent ∧ (loading1 2 8 0 5).journal.sentSinceSave + 1 ≠ 16 ∧
    (loading1 2 8 0 5).journal.pendingRecoveries = [] ∧
    (loading1 2 8 0 5).journal.sent + (loading1 2 8 0 5).journal.unsent ≤ 1024 := by decide +kernel
set_option maxRecDepth 100000 in
/-- R152: next to load, load hold and the operation in service after each. -/
theorem test_send_reads : ([result (.sendReadComplete []) (loading1 2 8 1020 5),
      result (.sendReadComplete []) (loading1 2 8 1020 6), result (.sendReadComplete [(1290, 77)]) (loading1 2 8 1020 5),
      result (.sendReadComplete []) (loading1 2 8 0 5), result .memoryOpFailed (loading1 2 8 0 5)].map fun r =>
        r fun t => (t.journal.nextToLoad, t.journal.loadHold, t.journal.inService)) =
    [some (1, none, some (.sendRead 1)), some (0, some 0, none), some (0, some 0, none),
      some (1, none, some (.sendRead 1)), some (1, none, some (.sendRead 1))] := by decide +kernel

/-- RUN with a scan of the list of `cfg0`. -/
def scan0 (u : ScanUnit → ScanUnit) : State :=
  run0.setScan (u { ScanUnit.reset with
    list := [⟨3, .tankLevel .one⟩], timer := some 100000, samples := [⟨.tankLevel .one, none, none, false, none⟩] })
/-- ScanTimerTimeoutAndTest: a list with an entry and an empty one, a first and a third timeout, FAILED. -/
theorem wit_scan : (scan0 id).scan.timer.isSome = true ∧ ((scan0 id).hose .one).state.open = false ∧
    ((scan0 id).hose .two).state.open = false ∧ (scan0 fun u => { u with list := [] }).scan.list = [] ∧
    (scan0 fun u => { u with state := .running, window := some 5 }).scan.window.isSome = true ∧
    (scan0 fun u => { u with state := .running, window := some 5, timeouts := 2 }).scan.timeouts + 1 = 3 ∧
    ((delivering .flowing .full 1000).setScan { ScanUnit.reset with state := .failed }).scan.state = .failed ∧
    (((delivering .flowing .full 1000).setScan { ScanUnit.reset with state := .failed }).hose .one).delivery =
      some delivery0 ∧
    (((delivering .flowing .full 1000).setScan { ScanUnit.reset with state := .failed }).stockKnown .one) = false := by
  decide +kernel

/-- TankLevelIsSampled: the request for the only entry in flight. -/
def sampling0 : State := scan0 fun u => { u with state := .running, current := some 0, sentNumber := 4, window := some 100005 }
theorem wit_sample : sampling0.scan.state = .running ∧ sampling0.scan.current = some 0 ∧
    sampling0.scan.window.isSome = true ∧ sampling0.scan.list[0]? = some ⟨3, .tankLevel .one⟩ ∧
    0 + 1 = sampling0.scan.list.length ∧ sampling0.scan.samples[0]? = some ⟨.tankLevel .one, none, none, false,
        none⟩ ∧
    (sampling0.tankCfg .one).cutOff < stockOf (sampling0.tankCfg .one).points (4095 * 3000 / 4095) ∧
    (5#8 : BitVec 8) ≠ sampling0.scan.sentNumber := by decide +kernel
/-- R165, R167: code 4,095 is the whole span, 3,000 mm and 6,000 L. -/
theorem test_sample : result (.converterResponse 4 3 4095) sampling0 (fun t => (t.tanks.get .one).stock) =
    some (some 6000) := by decide +kernel

/-- … a METER TEMP entry of hose 1, last and with an entry behind it. -/
def tempScan0 (rest : List ScanEntry) : State :=
  scan0 fun u => { u with
    state := .running, current := some 0, sentNumber := 4, window := some 100005, list := ⟨3, .meterTemp .one⟩ :: rest
    samples := [⟨.meterTemp .one, none, none, false, none⟩] }
/-- … a stock at the cut-off of 100 L with a delivery from the tank, with a gross and without. -/
def cutOff0 (gross : Nat) : State :=
  { delivering .flowing .full gross with scan := sampling0.scan, cfg := { cfg0 with hoses := ⟨hoseCfg0, { hoseCfg0 with tank := .two }⟩ } }
theorem wit_sample_cases : (tempScan0 []).scan.list[0]? = some ⟨3, .meterTemp .one⟩ ∧
    (tempScan0 []).scan.samples[0]? = some ⟨.meterTemp .one, none, none, false, none⟩ ∧
    (tempScan0 []).scan.state = .running ∧ (tempScan0 []).scan.current = some 0 ∧
    (tempScan0 []).scan.window.isSome = true ∧ 0 + 1 = (tempScan0 []).scan.list.length ∧
    0 + 1 < (tempScan0 [⟨3, .tankLevel .one⟩]).scan.list.length ∧
    stockOf ((cutOff0 1000).tankCfg .one).points (69 * 3000 / 4095) = 100 ∧ ((cutOff0 1000).tankCfg .one).cutOff = 100 ∧
    ((cutOff0 1000).hoseCfg .one).tank = .one ∧ ((cutOff0 1000).hoseCfg .two).tank = .two ∧
    (cutOff0 1000).unfitted .one = false ∧ ((cutOff0 1000).hose .one).state.open = true ∧
    ((cutOff0 1000).hose .one).delivery = some delivery0 ∧ 0 < ((cutOff0 1000).meter .one).gross ∧
    ((cutOff0 0).meter .one).gross = 0 := by decide +kernel
/-- R165: codes 0, 614, 2,457 and 4,095; R169: the delivery ended. -/
theorem test_sample_cases : ([0, 614, 2457, 4095].map fun n => result (.converterResponse 4 3 n) (tempScan0 []) fun t =>
      t.scan.samples.map fun x => (x.value, x.outOfRange)) =
    [some [(some (-200), true)], some [(some (-200), true)], some [(some 700, false)], some [(some 700, true)]] ∧
    ([1000, 0].map fun g => result (.converterResponse 4 3 69) (cutOff0 g) fun t =>
      ((t.hose .one).state, (t.hose .one).reason)) =
    [some (.closing, some (.ended .tankCutOff)), some (.unarmed, some (.ended .tankCutOff))] := by decide +kernel

/-- StatusFrameIsAnswered: no frame, and a frame being sent. -/
theorem wit_status : run0.start.stage ≠ .hold ∧ run0.panel.frame = none ∧
    ({ run0.panel with frame := some [], latch := true } : Panel).latch = true := by decide +kernel

set_option maxRecDepth 100000 in
/-- RUN with the notice port enabled and the journal unit busy. -/
theorem wit_submission : busy0.takesSubmission = true ∧ busy0.cfg.authority.contains busy0.cfg.station = true ∧
    submissionBody .vehicleNotice (frameOf 3 0 [0, 12, 0x80, 0, 80, 0, 0, 0, 0]) = some [0, 12, 0x80, 0, 80, 0, 0,
        0, 0] ∧
    (vehicleSubmission busy0.line.siteTime [0, 12, 0x80, 0, 80, 0, 0, 0, 0]).inRange busy0.line.siteTime = true ∧
    submissionBody .classNotice (frameOf 4 0 (2 :: 0x80 :: 0 :: 90 :: List.replicate 65 0)) =
      some (2 :: 0x80 :: 0 :: 90 :: List.replicate 65 0) ∧
    (classSubmission busy0.line.siteTime (2 :: 0x80 :: 0 :: 90 :: List.replicate 65 0)).inRange
      busy0.line.siteTime = true ∧
    submissionBody .service (frameOf 2 0 [0, 12, 1, 0, 0, 0, 5, 0, 0, 9]) = some [0, 12, 1, 0, 0, 0, 5, 0, 0, 9] ∧
    (serviceSubmission busy0.line.siteTime [0, 12, 1, 0, 0, 0, 5, 0, 0, 9]).inRange busy0.line.siteTime = true ∧
    busy0.journal.claimAvailable busy0.cfg.nj = true ∧ 0 < busy0.journal.free busy0.cfg.nj ∧
    busy0.journal.nextSeq < 16777215 := by decide +kernel
/-- … the journal unit idle, no slot FREE, and the last sequence with a header write waiting and with none. -/
def idleFull0 (seq : Nat) : State :=
  run0.setJournal { run0.journal with tail := 1020, sent := 1020, unsent := 4, nextSeq := seq }
theorem wit_submission_cases : (idleFull0 7).takesSubmission = true ∧
    (idleFull0 7).cfg.authority.contains (idleFull0 7).cfg.station = true ∧
    (idleFull0 7).journal.inService = none ∧ (idleFull0 7).journal.queue = [] ∧
    (idleFull0 7).journal.free (idleFull0 7).cfg.nj = 0 ∧
    (idleFull0 7).journal.claimAvailable (idleFull0 7).cfg.nj = true ∧
    (idleFull0 16777215).journal.nextSeq = 16777215 ∧
    busy0.journal.queue.any MemOp.isHeader = false ∧
    (busy0.setJournal { busy0.journal with queue := [.header none] }).journal.queue.any MemOp.isHeader = true := by
  decide +kernel
set_option maxRecDepth 100000 in
/-- R144, R148, R150: the oldest SENT slot reclaimed, the append in service; the epoch's header write ahead of it. -/
theorem test_submission_cases :
    ([7, 16777215].map fun q => result (.submitService (frameOf 2 0 [0, 12, 1, 0, 0, 0, 5, 0, 0, 9])) (idleFull0 q) fun t =>
      ([t.journal.tail, t.journal.sent, t.journal.unsent, t.journal.nextSeq, t.journal.queue.length],
        t.journal.inService.map MemOp.isHeader)) =
    [some ([1021, 1019, 5, 8, 0], some false), some ([1021, 1019, 5, 1, 1], some true)] := by decide +kernel

/-- SubmissionIsRefused: a port that takes a submission and one that does not, and each test failed by each kind. -/
def unauthorised0 : State := { busy0 with cfg := { cfg0 with authority := [9] } }
def fullJournal0 : State := busy0.setJournal { busy0.journal with claims := 1024 }
set_option maxRecDepth 100000 in
theorem wit_refused : busy0.takesSubmission = true ∧ busy0.notice.output = none ∧
    (busy0.setNotice { busy0.notice with output := some (.item [1]) }).takesSubmission = true ∧
    State.reset.takesSubmission = false ∧ unauthorised0.takesSubmission = true ∧
    unauthorised0.cfg.authority.contains unauthorised0.cfg.station = false ∧
    submissionBody .vehicleNotice (frameOf 3 0 [0, 12, 0x40, 0, 0, 3, 0, 0, 0]) = some [0, 12, 0x40, 0, 0, 3, 0, 0, 0] ∧
    (vehicleSubmission 1000000 [0, 12, 0x40, 0, 0, 3, 0, 0, 0]).inRange 1000000 = false ∧
    submissionBody .classNotice (frameOf 4 0 (8 :: 0x80 :: 0 :: 90 :: List.replicate 65 0)) =
      some (8 :: 0x80 :: 0 :: 90 :: List.replicate 65 0) ∧
    (classSubmission 1000000 (8 :: 0x80 :: 0 :: 90 :: List.replicate 65 0)).inRange 1000000 = false ∧
    (serviceSubmission 1000000 [0, 12, 9, 0, 0, 0, 5, 0, 0, 9]).inRange 1000000 = false ∧
    submissionBody .service (frameOf 2 0 [0, 12, 9, 0, 0, 0, 5, 0, 0, 9]) = some [0, 12, 9, 0, 0, 0, 5, 0, 0, 9] ∧
    fullJournal0.takesSubmission = true ∧ fullJournal0.journal.claimAvailable fullJournal0.cfg.nj = false := by
  decide +kernel
set_option maxRecDepth 100000 in
/-- … the frames those bytes make, and one with bytes behind its last CRC byte (R123). -/
theorem wit_frames_taken :
    (∀ f ∈ [frameOf 3 0 [0, 12, 0x80, 0, 80, 0, 0, 0, 0], frameOf 3 0 [0, 12, 0x40, 0, 0, 3, 0, 0, 0],
      frameOf 4 0 (8 :: 0x80 :: 0 :: 90 :: List.replicate 65 0), frameOf 3 0 (List.replicate 9 0), [0x5A, 4, 2],
      frameOf 2 0 [0, 12, 9, 0, 0, 0, 5, 0, 0, 9], frameOf 6 0 (natToBytes 4 999999),
      frameOf 6 0 (natToBytes 4 1000000)], frameTaken f = some f) ∧
    frameTaken (frameOf 6 0 (natToBytes 4 1000000) ++ [1, 2]) = some (frameOf 6 0 (natToBytes 4 1000000)) ∧
    frameTaken [0x5A, 129, 7] = some [0x5A, 129] ∧ frameTaken [1, 0x5A] = none ∧
    (∀ k, submissionBody k [0x5A, 4, 2] = none) := by
  exact ⟨by decide +kernel, by decide +kernel, by decide, by decide, fun k => by cases k <;> decide⟩
set_option maxRecDepth 100000 in
/-- R123, R184: skipped bytes, a truncated frame, a frame with bytes behind it, and one of another kind. -/
theorem test_bytes_at_notice_port :
    [result (.setTime [1, 0x5A]) run0, result (.malformedSubmission [0x5A, 4, 2]) run0,
      result (.setTime (frameOf 6 0 (natToBytes 4 1000000) ++ [1, 2])) run0,
      result (.submitService (frameOf 6 0 (natToBytes 4 1000000))) run0].map (fun r => r fun t =>
        (t.notice.inHand, t.notice.output)) =
      [some (false, none), some (true, some (.reply (replyFrame (some .malformed)))),
        some (true, some (.reply (replyFrame none))), some (false, none)] := by decide +kernel
/-- … a frame of another kind's number and one with an empty mask; a time one second before site time. -/
theorem wit_malformed : submissionBody .vehicleNotice (frameOf 3 0 (List.replicate 9 0)) = none ∧
    submissionBody .classNotice [] = none ∧ submissionBody .service (frameOf 3 0 (List.replicate 10 0)) = none ∧
    submissionBody .setTime (frameOf 6 0 [1]) = none ∧
    submissionBody .setTime (frameOf 6 0 (natToBytes 4 999999)) = some (natToBytes 4 999999) ∧
    bytesToNat (natToBytes 4 999999) < busy0.line.siteTime := by decide +kernel

/-- SetTimeIsAccepted, at the site time held, with a free output line and with a monitor item on it. -/
def itemOut0 : State := run0.setNotice { run0.notice with output := some (.item [1]) }
theorem wit_set_time : run0.takesSubmission = true ∧ run0.notice.output = none ∧ itemOut0.takesSubmission = true ∧
    itemOut0.notice.output ≠ none ∧
    submissionBody .setTime (frameOf 6 0 (natToBytes 4 1000000)) = some (natToBytes 4 1000000) ∧
    run0.line.siteTime ≤ bytesToNat (natToBytes 4 1000000) := by decide +kernel

/-- NoticeOutputAndCounts: a reply on the line, an item with a reply or items waiting; the COUNTS timer. -/
theorem wit_notice : ({ NoticePort.reset with output := some (.reply [1]) } : NoticePort).output = some (.reply [1]) ∧
    ({ NoticePort.reset with output := some (.item [1]), reply := some [2] } : NoticePort).reply = some [2] ∧
    ({ NoticePort.reset with output := some (.item [1]), monitor := [[3], [4]] } : NoticePort).monitor = [[3], [4]] ∧
    ({ NoticePort.reset with countsTimer := some 5 } : NoticePort).countsTimer.isSome = true ∧
    run0.cfg.noticeEnable = true ∧ run0.listening = true ∧ run0.line.peers = [] ∧
    16 ≤ (List.replicate 16 [(1 : Byte)]).length := by decide +kernel

/-- … `n` peers, so many items waiting and an item or nothing on the line. -/
def peers0 (n items : Nat) (output : Option NoticeOutput) : State :=
  { run0 with
    line := { run0.line with peers := (List.range n).map fun k => { Peer.new (20 + k) 1 with high := some 3, unsent := some 5 } }
    notice := { run0.notice with
      countsTimer := some 100000, output := output, monitor := List.replicate items [2] } }
/-- … no peer, one, eight, nine and 32 in groups of eight; the rooms where the items just fit and just do not. -/
theorem wit_peers_item : (peers0 8 14 none).notice.countsTimer.isSome = true ∧
    (peers0 8 14 none).cfg.noticeEnable = true ∧ (peers0 8 14 none).listening = true ∧
    (∀ x ∈ [(0, []), (1, [1]), (8, [8]), (9, [8, 1]), (32, [8, 8, 8, 8])], ∃ groups : List (List Peer),
      (peers0 x.1 0 none).line.peers = groups.flatten ∧ groups.map List.length = x.2 ∧
      (∀ g ∈ groups, 1 ≤ g.length ∧ g.length ≤ 8) ∧ ∀ g ∈ groups.dropLast, g.length = 8) ∧
    (peers0 32 0 none).line.peers.length ≤ 32 ∧
    (peers0 9 13 (some (.item [1]))).notice.output ≠ none ∧ 1 + [8, 1].length = 16 - (peers0 9 13 none).notice.monitor.length ∧
    16 - (peers0 9 14 none).notice.monitor.length < 1 + [8, 1].length ∧ (peers0 9 16 none).notice.monitor.length = 16 ∧
    (peers0 32 0 none).notice.reply = none ∧ (peers0 32 0 none).notice.monitor = [] := by
  refine ⟨by decide +kernel, by decide +kernel, by decide +kernel, ?_, by decide +kernel⟩
  intro x hx
  simp only [List.mem_cons, List.not_mem_nil, or_false] at hx
  rcases hx with rfl | rfl | rfl | rfl | rfl
  · exact ⟨[], by decide +kernel⟩
  all_goals
    generalize hp : (peers0 _ 0 none).line.peers = ps
    first
    | exact ⟨[ps], by subst hp; decide +kernel⟩
    | exact ⟨[ps.take 8, ps.drop 8], by subst hp; decide +kernel⟩
    | exact ⟨[ps.take 8, (ps.drop 8).take 8, (ps.drop 16).take 8, ps.drop 24], by subst hp; decide +kernel⟩
theorem test_peers_item :
    result .countsTimer (peers0 1 0 (some (.item [1]))) (fun t => t.notice.monitor.drop 1) =
      some [[6, 1, 20, 1, 0, 1, 0, 0, 3, 0, 0, 0, 5]] ∧
    ([(9, 13), (9, 14), (0, 16), (32, 12)].map fun x => result .countsTimer (peers0 x.1 x.2 (some (.item [1]))) fun t =>
      (t.notice.monitor.length, t.notice.loss)) =
      [some (16, 0), some (16, 1), some (16, 1), some (16, 1)] := by decide +kernel

/-- RecordsReadBack: a frame of the longest body. -/
theorem wit_frame : 8 < 256 ∧ 254 < 256 ∧ (List.replicate 128 (0 : Byte)).length ≤ 128 := by decide +kernel

set_option maxRecDepth 100000 in
/-- RecordsReadBack: each kind, with fields at the ends of their widths. -/
theorem wit_records : (65535 < 2 ^ 16 ∧ 255 < 2 ^ 8 ∧ 4294967295 < 2 ^ 32 ∧ 16777215 < 2 ^ 24) ∧
    decodeService (encodeService ⟨65535, 255, 4294967295, 16777215, 0⟩) = ⟨65535, 255, 4294967295, 16777215, 0⟩ ∧
    (Record.issue issue0).epoch < 2 ^ 16 ∧ (Record.issue issue0).seq < 2 ^ 24 ∧
    (decodeSlot (encodeSlot 1 (.issue issue0))).map RingSlot.body = some (Record.issue issue0).body := by
  decide +kernel

/-- … a carry with marks, a reading and a hold, and volumes with a fraction of a litre. -/
def carry0 : Carry :=
  ⟨524287, 65535999, ⟨⟨some ⟨90, 1, 1, 2⟩, 16777215, 5⟩, ⟨some ⟨80, 1, 1, 1⟩, 60, 8000⟩, ⟨none, 0, 9999⟩,
    ⟨none, 0, 16777215999⟩⟩, some ⟨70, 95, .estimated⟩, 1234567, .cleared ⟨4, 254⟩, []⟩
theorem wit_carry : carry0.shift < 2 ^ 19 ∧ carry0.use < 65536000 ∧ carry0.sinceReading < 16777216000 ∧
    (∀ l ∈ carry0.levels.toList, l.hours < 2 ^ 24 ∧ l.litres < 16777216000 ∧
      ∀ m, l.mark = some m → m.time < 2 ^ 32 ∧ m.origin < 2 ^ 8 ∧ 1 ≤ m.epoch ∧ m.epoch < 2 ^ 16 ∧ m.seq < 2 ^ 24) ∧
    (∀ r, carry0.reading = some r → r.value < 2 ^ 24 ∧ r.time < 2 ^ 32) ∧
    (∀ st, carry0.hold.stamp = some st → st.time < 2 ^ 32 ∧ st.station < 2 ^ 8) := by
  refine ⟨by decide, by decide, by decide, ?_, ?_, ?_⟩
  · intro l hl
    simp only [carry0, Four.toList, List.mem_cons, List.not_mem_nil, or_false] at hl
    rcases hl with rfl | rfl | rfl | rfl <;> refine ⟨by decide, by decide, ?_⟩ <;> intro m hm <;> cases hm <;> decide
  · intro r hr; cases hr; decide
  · intro st hst; cases hst; decide
/-- … an ISSUE at the ends of its ranges, a class record, and the carry of a tag with five items. -/
def issueEnd0 : IssueRecord :=
  { issue0 with
    epoch := 65535, seq := 16777215, shift := 524287, cls := 7, grade := 3, vehicle := 65535, start := 4294901760
    stop := 4294967295, target := 67108863, gross := 67108863, net := 0, totalizer := 99999999999, temperature := -1024
    level := some 7, snapshot := some drawn0 }
theorem wit_issue_end : issueEnd0.start ≤ issueEnd0.stop ∧ issueEnd0.stop ≤ issueEnd0.start + 65535 ∧
    -1024 ≤ issueEnd0.temperature ∧ issueEnd0.totalizer < 2 ^ 37 ∧ ∀ l, issueEnd0.level = some l → 1 ≤ l ∧ l < 8 :=
  ⟨by decide, by decide, by decide, by decide, fun l h => by cases h; decide⟩
set_option maxRecDepth 100000 in
/-- 12.2, 12.5: every field of that record by its bytes, in a ring slot and in an open slot. -/
theorem test_issue_end : decodeIssue 65535 16777215 (encodeIssue issueEnd0) = issueEnd0 ∧
    decodeOpen (encodeOpen (.opened issueEnd0)) = .opened issueEnd0 ∧
    (ringSlot0 9 newer0).time = 990500 ∧ (ringSlot0 8 older0).time = 990100 := by decide +kernel
def class0 : ClassRecord :=
  { ClassRecord.empty with
    allowance := ⟨65535, some ⟨5, 9⟩⟩, hold := ⟨.set, some ⟨8, 9⟩⟩, returnQty := ⟨2047, none⟩, burn := ⟨511, none⟩ }
theorem wit_plan_record : class0.newestStamp = some ⟨8, 9⟩ ∧ class0.allowance.val < 2 ^ 16 ∧
    class0.returnQty.val < 2 ^ 11 ∧ class0.burn.val < 2 ^ 9 ∧
    ∀ p ∈ class0.plans.toList, p.val.ih < 2 ^ 15 ∧ p.val.gl < 2 ^ 20 := by
  refine ⟨by decide +kernel, by decide, by decide, by decide, ?_⟩
  intro p hp
  simp only [class0, ClassRecord.empty, Four.toList, List.mem_cons, List.not_mem_nil, or_false] at hp
  rcases hp with rfl | rfl | rfl | rfl <;> decide
def tagCarry0 : Carry :=
  { Carry.blank with
    shift := 34, use := 20000
    list := [⟨15, 5, 40, 50, 34, 9000, true⟩, ⟨12, 4, 30, 40, 34, 8000, true⟩, ⟨9, 3, 20, 30, 34, 7000, false⟩,
      ⟨8, 2, 10, 20, 34, 6000, true⟩, ⟨7, 1, 1, 2, 34, 5000, true⟩] }
set_option maxRecDepth 100000 in
theorem wit_tag_block : carryInRange { decodeCarry (encodeCarry tagCarry0) with list := tagCarry0.list.take 4 } = true ∧
    itemsDistinct (tagCarry0.list.take 4) = true ∧ itemsOrdered (tagCarry0.list.take 4) = true ∧
    (∀ i ∈ tagCarry0.list.take 4, i.start < 2 ^ 32 ∧ i.stop < 2 ^ 32) ∧
    usableCarry 65535 (carryBlock 65535 tagCarry0) =
      some { decodeCarry (encodeCarry tagCarry0) with list := tagCarry0.list.take 4 } := by decide +kernel

end Sys2Proof.Tests
end

/-! What an operation leaves unchanged, block by block, and the blocks that each command may change. -/

namespace Sys2Proof.Machine

set_option Elab.async false

section
variable {s t : State} {bs : List Block}

theorem Only.start_eq (e : Only bs s t) (m : Block.start ∉ bs := by decide) : t.start = s.start := (e _ m).symm
theorem Only.elapsed_eq (e : Only bs s t) (m : Block.elapsed ∉ bs := by decide) : t.elapsed = s.elapsed := (e _ m).symm
theorem Only.cfg_eq (e : Only bs s t) (m : Block.cfg ∉ bs := by decide) : t.cfg = s.cfg := (e _ m).symm
theorem Only.hoses_eq (e : Only bs s t) (m : Block.hoses ∉ bs := by decide) : t.hoses = s.hoses := (e _ m).symm
theorem Only.meters_eq (e : Only bs s t) (m : Block.meters ∉ bs := by decide) : t.meters = s.meters := (e _ m).symm
theorem Only.tags_eq (e : Only bs s t) (m : Block.tags ∉ bs := by decide) : t.tags = s.tags := (e _ m).symm
theorem Only.fleet_eq (e : Only bs s t) (m : Block.fleet ∉ bs := by decide) : t.fleet = s.fleet := (e _ m).symm
theorem Only.classes_eq (e : Only bs s t) (m : Block.classes ∉ bs := by decide) : t.classes = s.classes := (e _ m).symm
theorem Only.reservations_eq (e : Only bs s t) (m : Block.reservations ∉ bs := by decide) :
    t.reservations = s.reservations := (e _ m).symm
theorem Only.line_eq (e : Only bs s t) (m : Block.line ∉ bs := by decide) : t.line = s.line := (e _ m).symm
theorem Only.journal_eq (e : Only bs s t) (m : Block.journal ∉ bs := by decide) : t.journal = s.journal := (e _ m).symm
theorem Only.mem_eq (e : Only bs s t) (m : Block.mem ∉ bs := by decide) : t.mem = s.mem := (e _ m).symm
theorem Only.scan_eq (e : Only bs s t) (m : Block.scan ∉ bs := by decide) : t.scan = s.scan := (e _ m).symm
theorem Only.tanks_eq (e : Only bs s t) (m : Block.tanks ∉ bs := by decide) : t.tanks = s.tanks := (e _ m).symm
theorem Only.panel_eq (e : Only bs s t) (m : Block.panel ∉ bs := by decide) : t.panel = s.panel := (e _ m).symm
theorem Only.notice_eq (e : Only bs s t) (m : Block.notice ∉ bs := by decide) : t.notice = s.notice := (e _ m).symm

theorem Only.hose_eq (e : Only bs s t) (h : Side) (m : Block.hoses ∉ bs := by decide) : t.hose h = s.hose h :=
  congrArg (Pair.get · h) (e.hoses_eq m)
theorem Only.meter_eq (e : Only bs s t) (h : Side) (m : Block.meters ∉ bs := by decide) : t.meter h = s.meter h :=
  congrArg (Pair.get · h) (e.meters_eq m)
theorem Only.tag_eq (e : Only bs s t) (h : Side) (m : Block.tags ∉ bs := by decide) : t.tag h = s.tag h :=
  congrArg (Pair.get · h) (e.tags_eq m)
theorem Only.reservation_eq (e : Only bs s t) (h : Side) (m : Block.reservations ∉ bs := by decide) :
    t.reservation h = s.reservation h := congrArg (Pair.get · h) (e.reservations_eq m)
theorem Only.hoseCfg_eq (e : Only bs s t) (h : Side) (m : Block.cfg ∉ bs := by decide) : t.hoseCfg h = s.hoseCfg h :=
  congrArg (fun c : ConfigRecord => c.hoses.get h) (e.cfg_eq m)

end

theorem loadConfig_only (s : State) (c : ConfigRecord) :
    Only [.cfg, .start, .line, .hoses, .meters, .scan] s (s.loadConfig c) := by
  intro b hb
  cases b <;> simp [State.agree, State.loadConfig] at hb ⊢

theorem judgeConfig_only (s : State) : Only [.cfg, .start, .line, .hoses, .meters, .scan] s s.judgeConfig := by
  unfold State.judgeConfig
  dsimp only
  split
  · exact (enterConfigFault_only _ _ _).mono
  · exact loadConfig_only _ _

theorem leaveHold_only (s : State) (x : LineLevels) :
    Only [.start, .elapsed, .hoses, .meters, .tags, .panel] s (s.leaveHold x) := by
  intro b hb
  cases b <;> simp [State.agree, State.leaveHold] at hb ⊢

theorem tearWrite_only (s : State) : Only [.mem, .draws] s s.tearWrite := by
  unfold State.tearWrite
  split
  · exact Only.refl _ _
  · intro b hb
    cases b <;> simp [State.agree] at hb ⊢

theorem startWith_only (s : State) (c : Cause) (a b : Bool) : Only (touched .powerStart) s (s.startWith c a b) := by
  refine (tearWrite_only s).next (b2 := touched .powerStart) ?_
  intro b hb
  cases b <;> simp [State.agree, State.startWith, touched] at hb ⊢

theorem placeSequence_only (s : State) (n : Nat) : Only [.journal, .classes] s (s.placeSequence n) := by
  unfold State.placeSequence
  split
  · exact (setJournal_only _ _).next (requestHeader_only _)
  · exact (setJournal_only _ _).mono

theorem recover_only (s : State) (r : IssueRecord) : Only [.journal, .classes] s (s.recover r) := by
  unfold State.recover
  dsimp only
  split
  · exact (setJournal_only _ _).next (passAppend_only _ _ _)
  · exact (setJournal_only _ _).next (setJournal_only _ _)

theorem takeOpenSlot_only (s : State) (h : Side) (run : List RingSlot) (i : OpenImage) :
    Only [.journal, .classes] s (s.takeOpenSlot h run i) := by
  unfold State.takeOpenSlot
  dsimp only
  split
  · exact (setOpenImage_only _ _ _).mono
  · split
    · exact (setOpenImage_only _ _ _).next (recover_only _ _)
    · exact (setOpenImage_only _ _ _).next (pushOp_only _ _)

theorem scanRing_only (s : State) (failed : ScanFailures) (hd : Header) :
    Only [.journal, .classes, .start] s (s.scanRing failed hd) := by
  unfold State.scanRing
  dsimp only
  refine Only.next (b1 := [.journal, .classes]) ?_ (setStart_only _ _)
  exact ((setJournal_only _ _).next (placeSequence_only _ _)).trans
    ((takeOpenSlot_only _ _ _ _).trans (takeOpenSlot_only _ _ _ _))

theorem formatJournal_only (s : State) (failed : ScanFailures) (hd : Option Header) :
    Only [.journal, .classes, .start, .draws] s (s.formatJournal failed hd) := by
  have queued (u : State) (j : Journal) (e : ScanEnd) :
      Only [.journal, .classes, .start, .draws] u ((u.setJournal j).requestFormat.holdScanEnd e) :=
    Only.next (b1 := [.journal, .classes]) ((setJournal_only _ _).next (requestFormat_only _)) (setStart_only _ _)
  unfold State.formatJournal
  dsimp only
  split
  · exact queued _ _ _
  · exact ((draw_only s 65535).mono).trans (queued _ _ _)

theorem runScan_only (s : State) (failed : ScanFailures) :
    Only [.journal, .classes, .start, .draws, .hoses, .line, .notice] s (s.runScan failed) := by
  unfold State.runScan
  split
  · split
    · exact (scanRing_only _ _ _).next (endScan_only _)
    · exact (formatJournal_only _ _ _).next (endScan_only _)
  · exact (formatJournal_only _ _ _).next (endScan_only _)

/-- The blocks that a hang can change. -/
abbrev hangBlocks : List Block := [.hoses, .tags, .reservations, .journal, .classes, .notice]

theorem hang_touches (s : State) (h : Side) : Only hangBlocks s (s.hang h) := by
  unfold State.hang
  dsimp only
  split
  case h_3 => exact (leaveIdentifying_only _ _ _).mono
  case h_8 => exact (setHose_only _ _ _).next (hangInWriteBack_only _ _)
  case h_9 =>
    split
    · exact (hangInWriteBack_only _ _).mono
    · exact Only.refl _ _
  case h_4 | h_5 | h_6 => exact (endDelivery_only _ _ _).mono
  case h_1 | h_2 | h_7 => exact (setHose_only _ _ _).mono
  all_goals exact Only.refl _ _

/-! ### The blocks of a command -/

theorem next_only {bs : List Block} {s u t : State} (e : (Host.Outcome.next u : Answer) = .next t)
    (a : Only bs s u) : Only bs s t := by cases e; exact a

theorem readEnded_only (s : State) (pos : Nat) (x : Option RingSlot) :
    Only [.line, .journal, .classes] s ((s.sendReadDone pos x).afterService).trySend :=
  Only.next (b1 := [.line, .journal, .classes]) ((sendReadDone_only _ _ _).next (afterService_only _)) (trySend_only _)

theorem setSiteTime_only (s : State) (n : Nat) : Only [.line, .notice] s (s.setSiteTime n) := by
  unfold State.setSiteTime
  split
  · exact (reply_only _ _).mono
  · exact (setLine_only _ _).next (reply_only _ _)

theorem siteFrame_kind {k : Kind} {bytes : List Byte} {f : SiteFrame} (e : siteFrame k bytes = some f) :
    f.kind = k := by
  unfold siteFrame at e
  split at e
  · cases e
  · obtain ⟨-, e⟩ := Option.ite_none_right_eq_some.mp e
    cases e
    rfl

theorem handOver_beacon_only (s : State) {f : SiteFrame} (k : Kind) (e : f.kind = .beacon) :
    Only [.line, .notice] s (s.handOver k f) := by
  unfold State.handOver
  split
  · unfold State.takeFrame
    split
    · exact (takeOwnNumber_only _ _).mono
    · exact Only.next (b1 := [.line, .notice]) ((setLine_only _ _).next (beaconItem_only _ _)) (trySend_only _)
  · split
    · exact (setLine_only _ _).mono
    · exact Only.refl _ _

/-- A command leaves as they were all blocks but those listed for it. -/
theorem exec_only {c : Instr} {s t : State} (e : exec c s = .next t) : Only (touched c) s t := by
  cases c with
  | powerStart => exact next_only e (startWith_only _ _ _ _)
  | supplyDip => exact next_only e (startWith_only _ _ _ _)
  | resetLine => exact next_only e (startWith_only _ _ _ _)
  | holdEnd _ =>
    simp only [exec, execHoldEnd, touched] at e ⊢
    split at e
    · exact next_only e (leaveHold_only _ _)
    · exact next_only e (Only.refl _ _)
  | configAreaRead _ _ =>
    simp only [exec, execConfigAreaRead, touched] at e ⊢
    split at e
    · split at e
      · exact next_only e (enterConfigFault_only _ _ _).mono
      · split at e
        · exact next_only e ((setMem_only _ _).next (judgeConfig_only _))
        · cases e
    · exact next_only e (Only.refl _ _)
  | planAreaLoad _ _ =>
    simp only [exec, execPlanAreaLoad, touched] at e ⊢
    have loaded (m : List Host.Cell) (f : BitVec 8) : Only [.mem, .classes, .start, .scan, .hoses] s
        ((s.setMem m).loadPlans f) := (setMem_only _ _).next (loadPlans_only _ _)
    split at e
    · split at e
      · split at e
        · exact next_only e ((loaded _ _).trans ((setStart_only _ _).next (startScan_only _)))
        · exact next_only e (loaded _ _)
      · cases e
    · exact next_only e (Only.refl _ _)
  | journalScan _ _ =>
    simp only [exec, execJournalScan, touched] at e ⊢
    split at e
    · split at e
      · exact next_only e ((setMem_only _ _).next (runScan_only _ _))
      · cases e
    · exact next_only e (Only.refl _ _)
  | listenEnd =>
    simp only [exec, execListenEnd, touched] at e ⊢
    split at e
    · exact next_only e (enterRun_only _)
    · exact next_only e (Only.refl _ _)
  | lift _ =>
    simp only [exec, execLift, touched] at e ⊢
    split at e
    · exact next_only e (Only.refl _ _)
    · split at e
      · exact next_only e (startCycle_only _ _)
      · exact next_only e (setHose_only _ _ _).mono
  | hang _ =>
    simp only [exec, execHang, touched] at e ⊢
    split at e
    · exact next_only e (Only.refl _ _)
    · exact next_only e ((setHose_only _ _ _).next (hang_touches _ _))
  | liftWaitExpiry _ =>
    simp only [exec, execLiftWaitExpiry, touched] at e ⊢
    split at e
    · exact next_only e ((leaveIdentifying_only _ _ _).next (refuse_only _ _ _))
    · exact next_only e (Only.refl _ _)
  | noFlowExpiry _ =>
    simp only [exec, execNoFlowExpiry, touched] at e ⊢
    split at e
    · exact next_only e (endDelivery_only _ _ _)
    · exact next_only e (Only.refl _ _)
  | stallExpiry _ =>
    simp only [exec, execStallExpiry, touched] at e ⊢
    split at e
    · exact next_only e (endDelivery_only _ _ _)
    · exact next_only e (Only.refl _ _)
  | tagLossExpiry _ =>
    simp only [exec, execTagLossExpiry, touched] at e ⊢
    split at e
    · exact next_only e (endDelivery_only _ _ _)
    · exact next_only e (Only.refl _ _)
  | settleExpiry _ =>
    simp only [exec, execSettleExpiry, touched] at e ⊢
    split at e
    · exact next_only e (Only.refl _ _)
    · split at e
      · exact next_only e (settleEnd_only _ _ _).mono
      · exact next_only e (Only.refl _ _)
  | channelEdge _ _ _ =>
    simp only [exec, execChannelEdge, touched] at e ⊢
    split at e
    · exact next_only e (Only.refl _ _)
    · exact next_only e (takeEdge_only _ _ _ _).mono
  | readerBlock _ _ _ _ =>
    simp only [exec, execReaderBlock, touched] at e ⊢
    exact next_only e (readerAnswer_only _ _ _ _).mono
  | readerWritten _ _ _ =>
    simp only [exec, execReaderWritten, touched] at e ⊢
    exact next_only e (readerAnswer_only _ _ _ _).mono
  | readerPresent _ _ _ =>
    simp only [exec, execReaderPresent, touched] at e ⊢
    exact next_only e (readerAnswer_only _ _ _ _).mono
  | readerNoTag _ _ =>
    simp only [exec, execReaderNoTag, touched] at e ⊢
    exact next_only e (readerAnswer_only _ _ _ _).mono
  | readerFault _ _ =>
    simp only [exec, execReaderFault, touched] at e ⊢
    exact next_only e (readerAnswer_only _ _ _ _).mono
  | readerWindowExpiry _ =>
    simp only [exec, execReaderWindowExpiry, touched] at e ⊢
    split at e
    · exact next_only e (endAttempt_only _ _ _ _).mono
    · exact next_only e (Only.refl _ _)
  | pollTimerExpiry _ =>
    simp only [exec, execPollTimerExpiry, touched] at e ⊢
    split at e
    · exact next_only e ((setTag_only _ _ _).trans (serveTag_only _ _))
    · exact next_only e (Only.refl _ _)
  | quietTimerExpiry _ =>
    simp only [exec, execQuietTimerExpiry, touched] at e ⊢
    split at e
    · exact next_only e ((setTag_only _ _ _).trans (serveTag_only _ _))
    · exact next_only e (Only.refl _ _)
  | stopKey _ _ =>
    simp only [exec, execStopKey, touched] at e ⊢
    split at e
    · exact next_only e (Only.refl _ _)
    · split at e
      · exact next_only e ((setPanel_only _ _).next (endDelivery_only _ _ _))
      · exact next_only e (setPanel_only _ _).mono
  | clearKey _ =>
    simp only [exec, execClearKey, touched] at e ⊢
    split at e
    · exact next_only e (Only.refl _ _)
    · split at e
      · exact next_only e ((setPanel_only _ _).next (clearPress_only _))
      · exact next_only e (setPanel_only _ _).mono
  | emergencyStopActive =>
    simp only [exec, execEmergencyStopActive, touched] at e ⊢
    exact next_only e ((setPanel_only _ _).next ((endDelivery_only _ _ _).trans (endDelivery_only _ _ _)))
  | emergencyStopInactive =>
    simp only [exec, execEmergencyStopInactive, touched] at e ⊢
    exact next_only e (setPanel_only _ _)
  | supervisorKeyChange _ =>
    simp only [exec, execSupervisorKeyChange, touched] at e ⊢
    split at e
    · exact next_only e (Only.refl _ _)
    · exact next_only e (setPanel_only _ _)
  | updateRequest =>
    simp only [exec, execUpdateRequest, touched] at e ⊢
    split at e
    · exact next_only e (Only.refl _ _)
    · exact next_only e ((setPanel_only _ _).trans (answerRequest_only _))
  | statusFrameEnd =>
    simp only [exec, execStatusFrameEnd, touched] at e ⊢
    exact next_only e ((setPanel_only _ _).trans (answerRequest_only _))
  | issueFrame _ =>
    simp only [exec, execIssueFrame, touched] at e ⊢
    exact next_only e (receive_only _ _ _).mono
  | serviceFrame _ =>
    simp only [exec, execServiceFrame, touched] at e ⊢
    exact next_only e (receive_only _ _ _).mono
  | vehicleNoticeFrame _ =>
    simp only [exec, execVehicleNoticeFrame, touched] at e ⊢
    exact next_only e (receive_only _ _ _).mono
  | classNoticeFrame _ =>
    simp only [exec, execClassNoticeFrame, touched] at e ⊢
    exact next_only e (receive_only _ _ _).mono
  | beaconFrame _ =>
    simp only [exec, execBeaconFrame, touched] at e ⊢
    refine next_only e (hearBytes_only _ _ _ fun u f v g => ?_)
    obtain ⟨x, kind, rfl⟩ := Option.map_eq_some_iff.1 g
    exact handOver_beacon_only _ _ (siteFrame_kind kind)
  | badFrame _ =>
    simp only [exec, execBadFrame, touched] at e ⊢
    exact next_only e (hearBytes_only _ _ _ fun _ _ _ g => by cases g)
  | receiveGap =>
    simp only [exec, execReceiveGap, touched] at e ⊢
    split at e
    · exact next_only e (gapPassed_only _)
    · exact next_only e (Only.refl _ _)
  | carrier =>
    simp only [exec, execCarrier, touched] at e ⊢
    split at e
    · exact next_only e (setLine_only _ _)
    · exact next_only e (Only.refl _ _)
  | guardTimePassed =>
    simp only [exec, execGuardTimePassed, touched] at e ⊢
    split at e
    · exact next_only e (guardPassed_only _)
    · exact next_only e (Only.refl _ _)
  | slotCounted =>
    simp only [exec, execSlotCounted, touched] at e ⊢
    split at e
    · exact next_only e ((setLine_only _ _).trans (sendAtZero_only _))
    · exact next_only e (Only.refl _ _)
  | readBackCollision =>
    simp only [exec, execReadBackCollision, touched] at e ⊢
    split at e
    · exact next_only e (setLine_only _ _)
    · exact next_only e (Only.refl _ _)
  | cleanReadBack =>
    simp only [exec, execCleanReadBack, touched] at e ⊢
    split at e
    · exact next_only e (cleanEnd_only _)
    · exact next_only e (Only.refl _ _)
  | congestionExpiry =>
    simp only [exec, execCongestionExpiry, touched] at e ⊢
    split at e
    · exact next_only e ((setLine_only _ _).trans (chooseNext_only _))
    · exact next_only e (Only.refl _ _)
  | beaconTimerExpiry =>
    simp only [exec, execBeaconTimerExpiry, touched] at e ⊢
    split at e
    · exact next_only e ((setLine_only _ _).trans (trySend_only _))
    · exact next_only e (Only.refl _ _)
  | peerStale _ =>
    simp only [exec, execPeerStale, touched] at e ⊢
    exact next_only e (setLine_only _ _)
  | appendComplete =>
    simp only [exec, execAppendComplete, touched] at e ⊢
    have ended (u : State) (x : IssueRecord) :
        Only (touched .appendComplete) u ((u.writeOpen x.hose .clear).endClaim) :=
        (writeOpen_only _ _ _).next (setJournal_only _ _)
    split at e
    · split at e
      · split at e
        · exact next_only e ((ended _ _).trans (appendDone_only _ _ _).mono)
        · exact next_only e (Only.refl _ _)
      · split at e
        · exact next_only e (appendDone_only _ _ _).mono
        · exact next_only e ((setMem_only _ _).next (appendDone_only _ _ _))
    · exact next_only e (Only.refl _ _)
  | ringSlotWritten =>
    simp only [exec, execRingSlotWritten, touched] at e ⊢
    split at e
    · split at e
      · exact next_only e (Only.refl _ _)
      · exact next_only e ((setMem_only _ _).next (setJournal_only _ _))
    · exact next_only e (Only.refl _ _)
  | openSlotWriteComplete =>
    simp only [exec, execOpenSlotWriteComplete, touched] at e ⊢
    split at e
    case h_4 => exact next_only e (Only.refl _ _)
    all_goals exact next_only e ((writeOpen_only _ _ _).next (afterService_only _))
  | planWriteComplete =>
    simp only [exec, execPlanWriteComplete, touched] at e ⊢
    split at e
    · exact next_only e ((setMem_only _ _).next (afterService_only _))
    · exact next_only e (Only.refl _ _)
  | headerWriteComplete =>
    simp only [exec, execHeaderWriteComplete, touched] at e ⊢
    split at e
    · exact next_only e (((setMem_only _ _).next (afterService_only _)).trans (endScan_only _).mono)
    · exact next_only e (Only.refl _ _)
  | sendReadComplete _ =>
    simp only [exec, execSendReadComplete, touched] at e ⊢
    split at e
    · split at e
      · exact next_only e ((setMem_only _ _).next (readEnded_only _ _ _))
      · cases e
    · exact next_only e (Only.refl _ _)
  | memoryOpFailed =>
    simp only [exec, execMemoryOpFailed, touched] at e ⊢
    exact next_only e (operationFails_only _)
  | memoryOpTimeout =>
    simp only [exec, execMemoryOpTimeout, touched] at e ⊢
    exact next_only e (operationFails_only _)
  | scanTimerExpiry =>
    simp only [exec, execScanTimerExpiry, touched] at e ⊢
    split at e
    · exact next_only e (startScan_only _)
    · exact next_only e (Only.refl _ _)
  | converterResponse _ _ _ =>
    simp only [exec, execConverterResponse, touched] at e ⊢
    split at e
    · split at e
      · exact next_only e (Only.refl _ _)
      · split at e
        · exact next_only e (goodResponse_only _ _ _ _).mono
        · exact next_only e (Only.refl _ _)
    · exact next_only e (Only.refl _ _)
  | converterWindowExpiry =>
    simp only [exec, execConverterWindowExpiry, touched] at e ⊢
    split at e
    · exact next_only e (setScan_only _ _)
    · exact next_only e (Only.refl _ _)
  | failedStockTest =>
    simp only [exec, execFailedStockTest, touched] at e ⊢
    split at e
    · exact next_only e (testStock_only _)
    · exact next_only e (Only.refl _ _)
  | submitVehicleNotice _ =>
    simp only [exec, execSubmitVehicleNotice, touched] at e ⊢
    exact next_only e (submitFrame_only _ _ _ _).mono
  | submitClassNotice _ =>
    simp only [exec, execSubmitClassNotice, touched] at e ⊢
    exact next_only e (submitFrame_only _ _ _ _).mono
  | submitService _ =>
    simp only [exec, execSubmitService, touched] at e ⊢
    exact next_only e (submitFrame_only _ _ _ _).mono
  | setTime _ =>
    simp only [exec, execSetTime, touched] at e ⊢
    refine next_only e (hearSubmission_only _ _ _ fun u f v g => ?_)
    obtain ⟨x, -, rfl⟩ := Option.map_eq_some_iff.1 g
    exact setSiteTime_only _ _
  | malformedSubmission _ =>
    simp only [exec, execMalformedSubmission, touched] at e ⊢
    exact next_only e (hearSubmission_only _ _ _ fun _ _ _ g => by cases g)
  | noticeOutputEnd =>
    simp only [exec, execNoticeOutputEnd, touched] at e ⊢
    exact next_only e (setNotice_only _ _)
  | countsTimer =>
    simp only [exec, execCountsTimer, touched] at e ⊢
    split at e
    · exact next_only e ((setNotice_only _ _).trans (countsItems_only _))
    · exact next_only e (Only.refl _ _)
  | supplyRisesAboveThreshold =>
    simp only [exec, execSupplyRisesAboveThreshold, touched] at e ⊢
    exact next_only e (setStart_only _ _)
  | resetLineInactive =>
    simp only [exec, execResetLineInactive, touched] at e ⊢
    exact next_only e (setStart_only _ _)
  | readOnlyPassEnd _ _ =>
    simp only [exec, execReadOnlyPassEnd, touched] at e ⊢
    split at e
    · split at e
      · exact next_only e ((setMem_only _ _).next (placeSiteTime_only _ _))
      · cases e
    · exact next_only e (Only.refl _ _)

end Sys2Proof.Machine

/-! R5, R91 and R101 at one side, on the part of the state that they read. -/

namespace Sys2Proof

set_option Elab.async false

theorem Side.eq_or_other (h k : Side) : k = h ∨ k = h.other := by
  cases h <;> cases k <;> simp [Side.other]

@[simp] theorem Side.other_ne (h : Side) : h.other ≠ h := by cases h <;> simp [Side.other]
@[simp] theorem Side.ne_other (h : Side) : h ≠ h.other := by cases h <;> simp [Side.other]
@[simp] theorem Side.other_other (h : Side) : h.other.other = h := by cases h <;> rfl

end Sys2Proof

namespace Sys2Proof.Machine

set_option Elab.async false

/-! ### What R5, R91 and R101 read of a side -/

/-- What a delivery record and its reservation name alike (R91). -/
structure Terms where
  vehicle : Nat
  station : Nat
  seq : Nat
  target : Nat

/-- What a delivery record names. -/
def Delivery.terms (d : Delivery) : Terms := ⟨d.vehicle, d.station, d.seq, d.target⟩

/-- What a reservation names. -/
def Reservation.terms (r : Reservation) : Terms := ⟨r.vehicle, r.station, r.seq, r.target⟩

/-- What R5, R91 and R101 read of one side: the hose, its meter unit and its reservation. -/
structure SideView where
  state : HoseState
  stage : Stage
  pump : Bool
  delivery : Option Terms
  reservation : Option Terms
  gross : Nat
  lastNet : Nat

/-- One side of the state as R5, R91 and R101 read it. -/
def State.view (s : State) (h : Side) : SideView where
  state := (s.hose h).state
  stage := (s.hose h).stage
  pump := (s.hose h).pump
  delivery := (s.hose h).delivery.map Delivery.terms
  reservation := (s.reservation h).map Reservation.terms
  gross := (s.meter h).gross
  lastNet := (s.meter h).lastNet

/-- R91 on a view. -/
def SideView.reserved (v : SideView) : Prop :=
  match v.reservation with
  | none => v.state.live = false
  | some q => v.state.live = true ∧ v.delivery = some q

/-- R5 on a view. -/
def SideView.shut (v : SideView) : Prop := v.state.open = false → v.stage = .closed ∧ v.pump = false

/-- R101 on a view. -/
def SideView.drawn (v : SideView) : Prop :=
  (v.state.open = true → ∀ q, v.delivery = some q → v.lastNet ≤ q.target) ∧
    (v.state = .authorised → v.gross = 0 ∧ v.lastNet = 0)

theorem view_reserved_iff (s : State) (h : Side) :
    (s.view h).reserved ↔ reservationMatches (s.hose h) (s.reservation h) := by
  unfold SideView.reserved reservationMatches State.view
  cases s.reservation h with
  | none => rfl
  | some r =>
    cases (s.hose h).delivery with
    | none => simp
    | some d => simp [Delivery.terms, Reservation.terms]

theorem view_drawn_iff (s : State) (h : Side) :
    (s.view h).drawn ↔
      ((s.hose h).state.open = true → ∀ d, (s.hose h).delivery = some d → (s.meter h).lastNet ≤ d.target) ∧
        ((s.hose h).state = .authorised → (s.meter h).gross = 0 ∧ (s.meter h).lastNet = 0) := by
  unfold SideView.drawn State.view
  cases (s.hose h).delivery <;> simp [Delivery.terms]

/-! ### The view after an update -/

section
variable (s : State) (h k : Side)

@[simp] theorem view_setHose_self (x : Hose) : (s.setHose h x).view h =
    { s.view h with
      state := x.state, stage := x.stage, pump := x.pump, delivery := x.delivery.map Delivery.terms } := by
  simp [State.view]
@[simp] theorem view_setHose_other (x : Hose) : (s.setHose h x).view h.other = s.view h.other := by
  simp [State.view]
@[simp] theorem view_setMeter_self (x : Meter) :
    (s.setMeter h x).view h = { s.view h with gross := x.gross, lastNet := x.lastNet } := by
  simp [State.view]
@[simp] theorem view_setMeter_other (x : Meter) : (s.setMeter h x).view h.other = s.view h.other := by
  simp [State.view]
@[simp] theorem view_setReservation_self (x : Option Reservation) :
    (s.setReservation h x).view h = { s.view h with reservation := x.map Reservation.terms } := by
  simp [State.view]
@[simp] theorem view_setReservation_other (x : Option Reservation) :
    (s.setReservation h x).view h.other = s.view h.other := by
  simp [State.view]

/-- An operation that leaves hoses, meter units and reservations alone leaves every view alone. -/
theorem Only.view_eq {s t : State} {bs : List Block} (e : Only bs s t) (k : Side) (m1 : Block.hoses ∉ bs := by decide)
    (m2 : Block.meters ∉ bs := by decide) (m3 : Block.reservations ∉ bs := by decide) : t.view k = s.view k := by
  simp only [State.view, e.hose_eq k m1, e.meter_eq k m2, e.reservation_eq k m3]

@[simp] theorem view_setTag (x : TagUnit) : (s.setTag h x).view k = s.view k := rfl
@[simp] theorem view_setJournal (x : Journal) : (s.setJournal x).view k = s.view k := rfl
@[simp] theorem view_hoseItem : (s.hoseItem h).view k = s.view k := (hoseItem_only s h).view_eq k
@[simp] theorem hoseItem_hose : (s.hoseItem h).hose k = s.hose k := (hoseItem_only s h).hose_eq k

end

/-! ### Changes that keep R5, R91 and R101 -/

/-- No delivery becomes live, and the target of one that stays live does not rise. -/
def NoRise (v w : SideView) : Prop :=
  w.state.live = true → v.state.live = true ∧
    ∀ q', w.delivery = some q' → ∃ q, v.delivery = some q ∧ q'.target ≤ q.target

/-- A change that keeps R91 and R5 and raises no target. -/
structure Steady (v w : SideView) : Prop where
  reserved : v.reserved → w.reserved
  valves : v.shut → w.shut
  rise : NoRise v w

/-- A change that keeps R91, R5 and R101 and raises no target. -/
structure Kept (v w : SideView) : Prop where
  reserved : v.reserved → w.reserved
  valves : v.shut → w.shut
  drawn : v.reserved → v.drawn → w.drawn
  rise : v.reserved → v.drawn → NoRise v w

theorem NoRise.refl (v : SideView) : NoRise v v := fun e => ⟨e, fun q hq => ⟨q, hq, Nat.le_refl _⟩⟩

theorem NoRise.trans {u v w : SideView} (a : NoRise u v) (b : NoRise v w) : NoRise u w := by
  intro e
  obtain ⟨hv, fv⟩ := b e
  obtain ⟨hu, fu⟩ := a hv
  refine ⟨hu, fun q' hq' => ?_⟩
  obtain ⟨q, hq, le⟩ := fv q' hq'
  obtain ⟨p, hp, le'⟩ := fu q hq
  exact ⟨p, hp, le.trans le'⟩

theorem Steady.refl (v : SideView) : Steady v v := ⟨id, id, NoRise.refl v⟩

theorem Steady.trans {u v w : SideView} (a : Steady u v) (b : Steady v w) : Steady u w :=
  ⟨b.reserved ∘ a.reserved, b.valves ∘ a.valves, a.rise.trans b.rise⟩

theorem Steady.kept {v w : SideView} (a : Steady v w) (drawn : v.reserved → v.drawn → w.drawn) : Kept v w :=
  ⟨a.reserved, a.valves, drawn, fun _ _ => a.rise⟩

theorem Kept.refl (v : SideView) : Kept v v := (Steady.refl v).kept fun _ e => e

theorem Kept.trans {u v w : SideView} (a : Kept u v) (b : Kept v w) : Kept u w where
  reserved := b.reserved ∘ a.reserved
  valves := b.valves ∘ a.valves
  drawn r e := b.drawn (a.reserved r) (a.drawn r e)
  rise r e := (a.rise r e).trans (b.rise (a.reserved r) (a.drawn r e))

theorem Kept.of_eq {v w : SideView} (e : w = v) : Kept v w := e ▸ Kept.refl v

theorem live_of_open {x : HoseState} (e : x.open = true) : x.live = true := by
  cases x <;> simp_all [HoseState.open, HoseState.live]
theorem not_open_of_not_live {x : HoseState} (e : x.live = false) : x.open = false := by
  cases x <;> simp_all [HoseState.open, HoseState.live]

theorem drawn_of_not_open {v : SideView} (e : v.state.open = false) : v.drawn :=
  ⟨fun o => by simp [e] at o, fun a => by simp [a, HoseState.open] at e⟩

theorem reserved_none {v : SideView} (r : v.reserved) (e : v.state.live = false) : v.reservation = none := by
  unfold SideView.reserved at r
  cases h : v.reservation with
  | none => rfl
  | some q => simp [h, e] at r

/-- A move to a state that is not live: the reservation is gone, and the valves are closed or as they were. -/
theorem Steady.to_rest {v w : SideView} (live : w.state.live = false)
    (reserved : v.reserved → w.reservation = none) (valves : v.shut → w.stage = .closed ∧ w.pump = false) :
    Steady v w where
  reserved e := by simp [SideView.reserved, reserved e, live]
  valves e := fun _ => valves e
  rise e := by simp [live] at e

/-- A move between states that are not live, with valves, pump and reservation as they were. -/
theorem Steady.of_not_live {v w : SideView} (before : v.state.live = false) (live : w.state.live = false)
    (stage : w.stage = v.stage) (pump : w.pump = v.pump) (reservation : w.reservation = v.reservation) : Steady v w :=
  Steady.to_rest live (fun r => reservation.trans (reserved_none r before))
    fun e => by rw [stage, pump]; exact e (not_open_of_not_live before)

/-- A live delivery that ends in CLOSING with its record and its reservation. -/
theorem Steady.closing {v w : SideView} (live : v.state.live = true) (state : w.state = .closing)
    (stage : w.stage = .closed) (pump : w.pump = false) (delivery : w.delivery = v.delivery)
    (reservation : w.reservation = v.reservation) : Steady v w where
  reserved r := by
    unfold SideView.reserved at r ⊢
    rw [reservation]
    cases h : v.reservation with
    | none => simp [h, live] at r
    | some q =>
      simp only [h] at r
      exact ⟨by rw [state]; rfl, delivery.trans r.2⟩
  valves _ _ := ⟨stage, pump⟩
  rise _ := ⟨live, fun q hq => ⟨q, delivery ▸ hq, Nat.le_refl _⟩⟩

/-- A change to a state in which no fuel may pass. -/
theorem Steady.kept_of_not_open {v w : SideView} (a : Steady v w) (e : w.state.open = false) : Kept v w :=
  a.kept fun _ _ => drawn_of_not_open e

/-- A move between states that are not live keeps R101 as well. -/
theorem Kept.of_not_live {v w : SideView} (before : v.state.live = false) (live : w.state.live = false)
    (stage : w.stage = v.stage) (pump : w.pump = v.pump) (reservation : w.reservation = v.reservation) : Kept v w :=
  Steady.kept_of_not_open (.of_not_live before live stage pump reservation) (not_open_of_not_live live)

/-- A lower target, set in the delivery record and its reservation together (R91, R101). -/
theorem Kept.retarget {v : SideView} {q : Terms} {n : Nat} (reservation : v.reservation = some q)
    (lower : v.reserved → v.drawn → n ≤ q.target) (net : v.lastNet ≤ n) :
    Kept v { v with
      reservation := some { q with target := n }, delivery := v.delivery.map fun p => { p with target := n } } where
  reserved r := by
    simp only [SideView.reserved, reservation] at r ⊢
    exact ⟨r.1, by simp [r.2]⟩
  valves e := e
  drawn r e := ⟨fun _ p hp => by
    obtain ⟨p', -, rfl⟩ := Option.map_eq_some_iff.1 hp
    exact net, e.2⟩
  rise r e := fun l => by
    have le := lower r e
    simp only [SideView.reserved, reservation] at r
    refine ⟨l, fun p hp => ⟨q, r.2, ?_⟩⟩
    obtain ⟨p', -, rfl⟩ := Option.map_eq_some_iff.1 hp
    exact le

/-- A change of a state that keeps R91, R5 and R101 at both sides. -/
def AllKept (s t : State) : Prop := ∀ k, Kept (s.view k) (t.view k)

theorem AllKept.refl (s : State) : AllKept s s := fun _ => Kept.refl _

theorem AllKept.trans {s t u : State} (a : AllKept s t) (b : AllKept t u) : AllKept s u := fun k => (a k).trans (b k)

theorem OtherHoseKept.view_eq {s t : State} {h : Side} (e : OtherHoseKept h s t) : t.view h.other = s.view h.other := by
  simp only [State.view, e.1, e.2.1, e.2.2.2]

theorem AllKept.of_side {s t : State} (h : Side) (other : OtherHoseKept h s t) (self : Kept (s.view h) (t.view h)) :
    AllKept s t := by
  intro k
  obtain rfl | rfl := h.eq_or_other k
  · exact self
  · exact Kept.of_eq other.view_eq

/-- An operation that leaves hoses, meter units and reservations alone. -/
theorem Only.allKept {s t : State} {bs : List Block} (e : Only bs s t) (m1 : Block.hoses ∉ bs := by decide)
    (m2 : Block.meters ∉ bs := by decide) (m3 : Block.reservations ∉ bs := by decide) : AllKept s t :=
  fun k => Kept.of_eq (e.view_eq k m1 m2 m3)

/-- A replaced hose whose state, valves, pump and delivery terms are as they were. -/
theorem setHose_view_eq {s : State} {h : Side} {x : Hose} (k : Side) (state : x.state = (s.hose h).state := by rfl)
    (stage : x.stage = (s.hose h).stage := by rfl) (pump : x.pump = (s.hose h).pump := by rfl)
    (delivery : x.delivery.map Delivery.terms = (s.hose h).delivery.map Delivery.terms := by rfl) :
    (s.setHose h x).view k = s.view k := by
  obtain rfl | rfl := h.eq_or_other k
  · simp [state, stage, pump, delivery, State.view]
  · simp

/-- A replaced delivery record with the terms of the one before. -/
theorem setDelivery_view_eq {s : State} {h : Side} {d d' : Delivery} (k : Side) (e : (s.hose h).delivery = some d)
    (same : d'.terms = d.terms := by rfl) : (s.setDelivery h d').view k = s.view k :=
  setHose_view_eq k rfl rfl rfl (by rw [e, Option.map_some, Option.map_some, same])

/-- A replaced reservation with the terms of the one before. -/
theorem setReservation_view_eq {s : State} {h : Side} {x : Option Reservation} (k : Side)
    (same : x.map Reservation.terms = (s.reservation h).map Reservation.terms) :
    (s.setReservation h x).view k = s.view k := by
  obtain rfl | rfl := h.eq_or_other k
  · rw [view_setReservation_self, same]
    rfl
  · simp

/-- Every view is as it was. -/
theorem AllKept.of_view_eq {s t : State} (e : ∀ k, t.view k = s.view k) : AllKept s t := fun k => Kept.of_eq (e k)

end Sys2Proof.Machine

/-! The end of a live delivery (R17, R18): what it does to the hose, its tag unit and its reservation. -/

namespace Sys2Proof.Machine

set_option Elab.async false

variable {s t u : State} {h : Side}

/-! ### The other side -/

theorem OtherHoseKept.refl (h : Side) (s : State) : OtherHoseKept h s s := ⟨rfl, rfl, rfl, rfl⟩

theorem OtherHoseKept.trans (a : OtherHoseKept h s t) (b : OtherHoseKept h t u) : OtherHoseKept h s u :=
  ⟨b.1.trans a.1, b.2.1.trans a.2.1, b.2.2.1.trans a.2.2.1, b.2.2.2.trans a.2.2.2⟩

theorem Only.otherKept {bs : List Block} (e : Only bs s t) (h : Side) (m1 : Block.hoses ∉ bs := by decide)
    (m2 : Block.meters ∉ bs := by decide) (m3 : Block.tags ∉ bs := by decide)
    (m4 : Block.reservations ∉ bs := by decide) : OtherHoseKept h s t :=
  ⟨e.hose_eq _ m1, e.meter_eq _ m2, e.tag_eq _ m3, e.reservation_eq _ m4⟩

theorem setHose_otherKept (s : State) (h : Side) (x : Hose) : OtherHoseKept h s (s.setHose h x) := by
  simp [OtherHoseKept]
theorem setMeter_otherKept (s : State) (h : Side) (x : Meter) : OtherHoseKept h s (s.setMeter h x) := by
  simp [OtherHoseKept]
theorem setTag_otherKept (s : State) (h : Side) (x : TagUnit) : OtherHoseKept h s (s.setTag h x) := by
  simp [OtherHoseKept]
theorem setReservation_otherKept (s : State) (h : Side) (x : Option Reservation) :
    OtherHoseKept h s (s.setReservation h x) := by
  simp [OtherHoseKept]
theorem hoseItem_otherKept (s : State) (h : Side) : OtherHoseKept h s (s.hoseItem h) :=
  (hoseItem_only s h).otherKept h

@[simp] theorem hoseItem_tag (s : State) (h k : Side) : (s.hoseItem h).tag k = s.tag k := (hoseItem_only s h).tag_eq k
@[simp] theorem hoseItem_meter (s : State) (h k : Side) : (s.hoseItem h).meter k = s.meter k :=
  (hoseItem_only s h).meter_eq k
@[simp] theorem hoseItem_reservation (s : State) (h k : Side) : (s.hoseItem h).reservation k = s.reservation k :=
  (hoseItem_only s h).reservation_eq k
@[simp] theorem hoseItem_journal (s : State) (h : Side) : (s.hoseItem h).journal = s.journal :=
  (hoseItem_only s h).journal_eq

/-! ### The delivery's end -/

/-- The hose with its delivery ended, before it goes on to CLOSING or drops the delivery (R16 to R18). -/
def State.endedHose (s : State) (h : Side) (d : Delivery) (r : EndReason) : Hose :=
  { s.hose h with
    delivery := some { d with endReason := some r, endTime := some s.line.siteTime }
    noFlow := none, stall := none, tagLoss := none, stage := .closed, pump := false
    reason := some (.ended r)
    tagAbsent := (s.hose h).tagAbsent || !(s.tag h).lastAnswered || r == .tagLost || r == .nozzleHung }

/-- The state once the delivery is ended at the tag unit and the hose (R58, R61, R187). -/
def State.withEnded (s : State) (h : Side) (d : Delivery) (r : EndReason) : State :=
  ((s.setTag h (s.tag h).deliveryEnd).setHose h (s.endedHose h d r)).hoseItem h

theorem endDelivery_of_not_open (r : EndReason) (e : (s.hose h).state.open = false) : s.endDelivery h r = s := by
  simp only [State.endDelivery, e]
  split <;> rfl

theorem endDelivery_of_no_delivery (r : EndReason) (e : (s.hose h).delivery = none) : s.endDelivery h r = s := by
  simp only [State.endDelivery, e]

theorem endDelivery_closes {d : Delivery} (r : EndReason) (o : (s.hose h).state.open = true)
    (e : (s.hose h).delivery = some d) (g : 0 < (s.meter h).gross ∨ 1 ≤ d.steps) :
    s.endDelivery h r = (s.withEnded h d r).setHose h
      { s.endedHose h d r with state := .closing, settle := some (s.elapsed + Config.settleWindow) } := by
  simp only [State.endDelivery, e, o, if_true, if_pos g]
  rfl

theorem endDelivery_drops {d : Delivery} (r : EndReason) (o : (s.hose h).state.open = true)
    (e : (s.hose h).delivery = some d) (g : (s.meter h).gross = 0) (k : d.steps = 0) :
    s.endDelivery h r = (s.withEnded h d r).dropDelivery h r := by
  have nothing : ¬(0 < (s.meter h).gross ∨ 1 ≤ d.steps) := by omega
  simp only [State.endDelivery, e, o, if_true, if_neg nothing]
  rfl

/-- The three things that the end of a delivery can do: nothing, CLOSING, or the delivery dropped. -/
theorem endDelivery_cases (s : State) (h : Side) (r : EndReason) :
    (((s.hose h).state.open = false ∨ (s.hose h).delivery = none) ∧ s.endDelivery h r = s) ∨
    ∃ d, (s.hose h).state.open = true ∧ (s.hose h).delivery = some d ∧
      (((0 < (s.meter h).gross ∨ 1 ≤ d.steps) ∧ s.endDelivery h r = (s.withEnded h d r).setHose h
        { s.endedHose h d r with state := .closing, settle := some (s.elapsed + Config.settleWindow) }) ∨
      ((s.meter h).gross = 0 ∧ d.steps = 0 ∧ s.endDelivery h r = (s.withEnded h d r).dropDelivery h r)) := by
  cases o : (s.hose h).state.open with
  | false => exact .inl ⟨.inl rfl, endDelivery_of_not_open r o⟩
  | true =>
    cases e : (s.hose h).delivery with
    | none => exact .inl ⟨.inr rfl, endDelivery_of_no_delivery r e⟩
    | some d =>
      refine .inr ⟨d, rfl, rfl, ?_⟩
      by_cases g : 0 < (s.meter h).gross ∨ 1 ≤ d.steps
      · exact .inl ⟨g, endDelivery_closes r o e g⟩
      · exact .inr ⟨by omega, by omega, endDelivery_drops r o e (by omega) (by omega)⟩

@[simp] theorem withEnded_hose_self (s : State) (h : Side) (d : Delivery) (r : EndReason) :
    (s.withEnded h d r).hose h = s.endedHose h d r := by simp [State.withEnded]

theorem withEnded_only (s : State) (h : Side) (d : Delivery) (r : EndReason) :
    Only [.hoses, .tags, .notice] s (s.withEnded h d r) :=
  Only.next (b1 := [.hoses, .tags]) ((setTag_only _ _ _).next (setHose_only _ _ _)) (hoseItem_only _ _)

theorem withEnded_otherKept (s : State) (h : Side) (d : Delivery) (r : EndReason) :
    OtherHoseKept h s (s.withEnded h d r) :=
  ((setTag_otherKept _ _ _).trans (setHose_otherKept _ _ _)).trans (hoseItem_otherKept _ _)

theorem dropDelivery_hose (s : State) (h : Side) {r : EndReason} (e : r ≠ .meterFault) :
    (s.dropDelivery h r).hose h =
      { s.hose h with delivery := none, standIn := none, state := (s.hose h).hook.rest } := by
  simp [State.dropDelivery, e]

theorem dropDelivery_hose_meterFault (s : State) (h : Side) :
    (s.dropDelivery h .meterFault).hose h =
      { s.hose h with
        delivery := none, standIn := none, state := .fault, faultCause := some .meterFault,
        reason := some (.faulted .meterFault) } := by
  simp [State.dropDelivery]

@[simp] theorem dropDelivery_reservation (s : State) (h : Side) (r : EndReason) :
    (s.dropDelivery h r).reservation h = none := by
  unfold State.dropDelivery
  dsimp only
  split <;> simp

@[simp] theorem dropDelivery_journal (s : State) (h : Side) (r : EndReason) :
    (s.dropDelivery h r).journal = { s.journal with claims := s.journal.claims - 1 } := by
  unfold State.dropDelivery
  dsimp only
  split <;> simp

@[simp] theorem dropDelivery_tag (s : State) (h : Side) (r : EndReason) (k : Side) :
    (s.dropDelivery h r).tag k = s.tag k := by
  unfold State.dropDelivery
  dsimp only
  split <;> simp

theorem dropDelivery_otherKept (s : State) (h : Side) (r : EndReason) : OtherHoseKept h s (s.dropDelivery h r) := by
  have kept : OtherHoseKept h s
      ((s.setReservation h none).setJournal { s.journal with claims := s.journal.claims - 1 }) :=
    (setReservation_otherKept _ _ _).trans ((setJournal_only _ _).otherKept h)
  unfold State.dropDelivery
  dsimp only
  split
  · exact (kept.trans (setHose_otherKept _ _ _)).trans (hoseItem_otherKept _ _)
  · exact kept.trans (setHose_otherKept _ _ _)

theorem endDelivery_otherKept (s : State) (h : Side) (r : EndReason) : OtherHoseKept h s (s.endDelivery h r) := by
  obtain ⟨-, e⟩ | ⟨d, -, -, ⟨-, e⟩ | ⟨-, -, e⟩⟩ := endDelivery_cases s h r
  · rw [e]; exact .refl _ _
  · rw [e]; exact (withEnded_otherKept _ _ _ _).trans (setHose_otherKept _ _ _)
  · rw [e]; exact (withEnded_otherKept _ _ _ _).trans (dropDelivery_otherKept _ _ _)

/-- A delivery that has passed fuel or taken a journal step ends in CLOSING with its reservation and claim kept. -/
theorem endDelivery_closing {d : Delivery} (r : EndReason) (o : (s.hose h).state.open = true)
    (e : (s.hose h).delivery = some d) (g : 0 < (s.meter h).gross ∨ 1 ≤ d.steps) :
    (s.endDelivery h r).hose h =
      { s.endedHose h d r with state := .closing, settle := some (s.elapsed + Config.settleWindow) } ∧
    (s.endDelivery h r).tag h = (s.tag h).deliveryEnd ∧
    Only [.hoses, .tags, .notice] s (s.endDelivery h r) := by
  rw [endDelivery_closes r o e g]
  exact ⟨by simp, by simp [State.withEnded], (withEnded_only _ _ _ _).next (setHose_only _ _ _)⟩

/-- A delivery of which nothing has passed is dropped, its reservation and claim released (R18, R96). -/
theorem endDelivery_dropped {d : Delivery} (r : EndReason) (o : (s.hose h).state.open = true)
    (e : (s.hose h).delivery = some d) (g : (s.meter h).gross = 0) (k : d.steps = 0) :
    (s.endDelivery h r).hose h = { s.endedHose h d r with
      delivery := none, standIn := none
      state := if r = .meterFault then .fault else (s.hose h).hook.rest
      faultCause := if r = .meterFault then some .meterFault else (s.hose h).faultCause
      reason := if r = .meterFault then some (.faulted .meterFault) else some (.ended r) } ∧
    (s.endDelivery h r).tag h = (s.tag h).deliveryEnd ∧ (s.endDelivery h r).reservation h = none ∧
    (s.endDelivery h r).journal = { s.journal with claims := s.journal.claims - 1 } := by
  rw [endDelivery_drops r o e g k]
  refine ⟨?_, by simp [State.withEnded], by simp, by simp [(withEnded_only s h d r).journal_eq]⟩
  by_cases m : r = .meterFault
  · subst m
    simp [dropDelivery_hose_meterFault, State.endedHose]
  · simp [dropDelivery_hose _ _ m, State.endedHose, m]

end Sys2Proof.Machine

/-! An operation at one hose leaves the other hose, its meter unit, its tag unit and its reservation alone. -/

namespace Sys2Proof.Machine

set_option Elab.async false

variable {s t u : State} {h : Side}

/-- One more change that leaves the other side alone. -/
theorem OtherHoseKept.next {bs : List Block} (a : OtherHoseKept h s t) (e : Only bs t u)
    (m1 : Block.hoses ∉ bs := by decide) (m2 : Block.meters ∉ bs := by decide) (m3 : Block.tags ∉ bs := by decide)
    (m4 : Block.reservations ∉ bs := by decide) : OtherHoseKept h s u := a.trans (e.otherKept h m1 m2 m3 m4)

/-! ### Flow -/

theorem setDelivery_otherKept (s : State) (h : Side) (d : Delivery) : OtherHoseKept h s (s.setDelivery h d) :=
  setHose_otherKept _ _ _

theorem raiseAbsorbed_otherKept (s : State) (h : Side) (n : Nat) : OtherHoseKept h s (s.raiseAbsorbed h n) := by
  unfold State.raiseAbsorbed
  split
  · exact .refl _ _
  · exact setReservation_otherKept _ _ _

theorem ownAbsorb_otherKept (s : State) (h : Side) (d : Delivery) (i : Item) :
    OtherHoseKept h s (s.ownAbsorb h d i) := by
  unfold State.ownAbsorb
  dsimp only
  refine .trans ?_ (raiseAbsorbed_otherKept _ _ _)
  split
  · split
    · exact .refl _ _
    · exact (setHose_otherKept _ _ _).next (countLate_only _ _)
  · split
    · exact .refl _ _
    · exact ((setEntry_only _ _).trans (countLate_only _ _)).otherKept h

theorem journalStep_otherKept (s : State) (h : Side) (d : Delivery) (n : Nat) :
    OtherHoseKept h s (s.journalStep h d n) :=
  (((setDelivery_otherKept _ _ _).next (requestProgress_only _ _ _)).trans (ownAbsorb_otherKept _ _ _ _)).trans
    (setTag_otherKept _ _ _)

theorem actOnCompares_otherKept (s : State) (h : Side) (d : Delivery) (n : Nat) :
    OtherHoseKept h s (s.actOnCompares h d n) := by
  unfold State.actOnCompares
  dsimp only
  split
  · exact endDelivery_otherKept _ _ _
  · split
    · exact setHose_otherKept _ _ _
    · exact .refl _ _

theorem flowUpdate_otherKept (s : State) (h : Side) (b : Bool) : OtherHoseKept h s (s.flowUpdate h b) := by
  have stall : OtherHoseKept h s (if b then s.startStall h else s) := by
    split
    · exact setHose_otherKept _ _ _
    · exact .refl _ _
  unfold State.flowUpdate
  dsimp only
  generalize (if b then s.startStall h else s) = s1 at stall ⊢
  split
  · exact stall
  · refine stall.trans (.trans ?_ (actOnCompares_otherKept _ _ _ _))
    split
    · exact journalStep_otherKept _ _ _ _
    · exact .refl _ _

theorem markUncompensated_otherKept (s : State) (h : Side) : OtherHoseKept h s (s.markUncompensated h) := by
  unfold State.markUncompensated
  dsimp only
  split
  · exact .refl _ _
  · split
    · exact setDelivery_otherKept _ _ _
    · exact .refl _ _

theorem valveLeak_otherKept (s : State) (h : Side) : OtherHoseKept h s (s.valveLeak h) := by
  unfold State.valveLeak
  dsimp only
  split
  · exact (((setMeter_otherKept _ _ _).trans (setHose_otherKept _ _ _)).trans (setTag_otherKept _ _ _)).next
      (hoseItem_only _ _)
  · exact ((setMeter_otherKept _ _ _).trans (setHose_otherKept _ _ _)).next (hoseItem_only _ _)

theorem meterUpdate_otherKept (s : State) (h : Side) (b : Bool) : OtherHoseKept h s (s.meterUpdate h b) := by
  unfold State.meterUpdate
  dsimp only
  refine (markUncompensated_otherKept s h).trans ?_
  split
  · split
    · exact (setHose_otherKept _ _ _).trans (flowUpdate_otherKept _ _ _)
    · exact .refl _ _
  · exact flowUpdate_otherKept _ _ _
  · exact flowUpdate_otherKept _ _ _
  · split
    · exact valveLeak_otherKept _ _
    · exact .refl _ _

theorem meterFault_otherKept (s : State) (h : Side) : OtherHoseKept h s (s.meterFault h) := by
  unfold State.meterFault
  dsimp only
  split
  · exact endDelivery_otherKept _ _ _
  · split
    · exact setDelivery_otherKept _ _ _
    · exact .refl _ _

theorem reportFaults_otherKept (s : State) (h : Side) : OtherHoseKept h s (s.reportFaults h) := by
  unfold State.reportFaults
  dsimp only
  split
  · exact (setMeter_otherKept _ _ _).trans (meterFault_otherKept _ _)
  · exact .refl _ _

theorem recomputeGross_otherKept (s : State) (h : Side) : OtherHoseKept h s (s.recomputeGross h) := by
  unfold State.recomputeGross
  dsimp only
  split
  · exact ((setMeter_otherKept _ _ _).trans (setMeter_otherKept _ _ _)).trans (meterUpdate_otherKept _ _ _)
  · exact .refl _ _

/-! ### The settle window, the write-back and the append -/

theorem recordDelivery_otherKept (s : State) (h : Side) (b : Bool) : OtherHoseKept h s (s.recordDelivery h b) := by
  unfold State.recordDelivery
  split
  · exact .refl _ _
  · split
    · exact .refl _ _
    · exact (setDelivery_otherKept _ _ _).next (passAppend_only _ _ _)

theorem afterSettle_otherKept (s : State) (h : Side) (d : Delivery) : OtherHoseKept h s (s.afterSettle h d) := by
  unfold State.afterSettle
  split
  · exact recordDelivery_otherKept _ _ _
  · exact setTag_otherKept _ _ _

/-- The state once the delivery has been settled and its final absorb made (R20 steps 1, 2 and 4). -/
def State.absorbedFinal (s : State) (h : Side) (d : Delivery) : State :=
  let d1 := s.settledDelivery h d (s.netNow h)
  (s.setDelivery h d1).ownAbsorb h d1 (d1.item (d1.endTime.getD 0) (s.netNow h) true)

/-- The FINAL image that the settle window's end makes (R20 step 3). -/
def State.settledImage (s : State) (h : Side) (d : Delivery) : IssueRecord :=
  (s.absorbedFinal h d).finalImage h (s.settledDelivery h d (s.netNow h)) (s.meter h).gross (s.netNow h) (s.meanNow h)

/-- The delivery record as the settle window's end leaves it. -/
def State.settledRecord (s : State) (h : Side) (d : Delivery) : Delivery :=
  { s.settledDelivery h d (s.netNow h) with finalImage := some (s.settledImage h d) }

/-- The hose as the settle window's end leaves it, its fault not yet shown. -/
def State.settledHose (s : State) (h : Side) (d : Delivery) : Hose :=
  let hose := (s.absorbedFinal h d).hose h
  { hose with
    delivery := some (s.settledRecord h d)
    state := settledState (s.settledRecord h d).pendingFault hose.tagAbsent
    settle := none
    totalizer := totalizerAdd hose.totalizer (s.meter h).gross
    lead := settleLead hose.lead (s.settledDelivery h d (s.netNow h)) (s.netNow h) }

/-- The FINAL rewrite requested, the reservation released and the meter unit cleared (R20 steps 3, 5 and 6). -/
def State.released (s : State) (h : Side) (d : Delivery) : State :=
  let s1 := s.absorbedFinal h d
  ((s1.requestFinal h (s.settledImage h d)).setReservation h none).setMeter h (s1.meter h).clear

/-- The settle window's end but for the write-back or the append that follows (R20). -/
def State.settled (s : State) (h : Side) (d : Delivery) : State :=
  match (s.settledRecord h d).pendingFault with
  | none => (s.released h d).setHose h (s.settledHose h d)
  | some c =>
    ((s.released h d).setHose h
      { s.settledHose h d with faultCause := some c, reason := some (.faulted c) }).hoseItem h

theorem settleEnd_eq (s : State) (h : Side) (d : Delivery) :
    s.settleEnd h d = (s.settled h d).afterSettle h (s.settledRecord h d) := by
  cases e : (s.settledDelivery h d (s.netNow h)).pendingFault with
  | none =>
    have settled : s.settled h d = (s.released h d).setHose h (s.settledHose h d) := by
      simp only [State.settled, State.settledRecord, e]
    rw [settled]
    unfold State.settleEnd
    dsimp only
    split
    · rfl
    · simp_all
  | some c =>
    have settled : s.settled h d = ((s.released h d).setHose h
        { s.settledHose h d with faultCause := some c, reason := some (.faulted c) }).hoseItem h := by
      simp only [State.settled, State.settledRecord, e]
    rw [settled]
    unfold State.settleEnd
    dsimp only
    split
    · simp_all
    · rename_i c' e'
      cases e'.symm.trans e
      rfl

theorem released_otherKept (s : State) (h : Side) (d : Delivery) : OtherHoseKept h s (s.released h d) :=
  (((setDelivery_otherKept _ _ _).trans (ownAbsorb_otherKept _ _ _ _)).next (requestFinal_only _ _ _)).trans
    ((setReservation_otherKept _ _ _).trans (setMeter_otherKept _ _ _))

theorem settleEnd_otherKept (s : State) (h : Side) (d : Delivery) : OtherHoseKept h s (s.settleEnd h d) := by
  rw [settleEnd_eq]
  refine .trans ?_ (afterSettle_otherKept _ _ _)
  unfold State.settled
  split
  · exact (released_otherKept _ _ _).trans (setHose_otherKept _ _ _)
  · exact ((released_otherKept _ _ _).trans (setHose_otherKept _ _ _)).next (hoseItem_only _ _)

theorem writeBackOver_otherKept (s : State) (h : Side) (b : Bool) : OtherHoseKept h s (s.writeBackOver h b) := by
  unfold State.writeBackOver
  dsimp only
  split
  · exact ((setTag_otherKept _ _ _).trans (setHose_otherKept _ _ _)).trans (recordDelivery_otherKept _ _ _)
  · split
    · exact (setTag_otherKept _ _ _).trans (recordDelivery_otherKept _ _ _)
    · exact setTag_otherKept _ _ _

theorem hangInWriteBack_otherKept (s : State) (h : Side) : OtherHoseKept h s (s.hangInWriteBack h) := by
  unfold State.hangInWriteBack
  dsimp only
  split
  · exact (setTag_otherKept _ _ _).trans (writeBackOver_otherKept _ _ _)
  · exact setTag_otherKept _ _ _

theorem clearFault_otherKept (s : State) (h : Side) : OtherHoseKept h s (s.clearFault h) := by
  unfold State.clearFault
  dsimp only
  split
  · exact ((setMeter_otherKept _ _ _).trans (setHose_otherKept _ _ _)).next (hoseItem_only _ _)
  · exact .refl _ _

/-! ### The hook -/

theorem startCycle_otherKept (s : State) (h : Side) : OtherHoseKept h s (s.startCycle h) :=
  (setHose_otherKept _ _ _).trans (setTag_otherKept _ _ _)

theorem leaveIdentifying_otherKept (s : State) (h : Side) (n : HoseState) :
    OtherHoseKept h s (s.leaveIdentifying h n) :=
  (setHose_otherKept _ _ _).trans (setTag_otherKept _ _ _)

theorem hang_otherKept (s : State) (h : Side) : OtherHoseKept h s (s.hang h) := by
  unfold State.hang
  dsimp only
  split
  case h_3 => exact leaveIdentifying_otherKept _ _ _
  case h_8 => exact (setHose_otherKept _ _ _).trans (hangInWriteBack_otherKept _ _)
  case h_9 =>
    split
    · exact hangInWriteBack_otherKept _ _
    · exact .refl _ _
  case h_4 | h_5 | h_6 => exact endDelivery_otherKept _ _ _
  case h_1 | h_2 | h_7 => exact setHose_otherKept _ _ _
  all_goals exact .refl _ _

/-! ### The checks and the grant -/

theorem refuse_otherKept (s : State) (h : Side) (r : RefusalReason) : OtherHoseKept h s (s.refuse h r) :=
  (setHose_otherKept _ _ _).next (hoseItem_only _ _)

theorem grant_otherKept (s : State) (h : Side) (c : Candidate) : OtherHoseKept h s (s.grant h c) :=
  ((((((setJournal_only _ _).next (bs := [.journal, .classes]) (takeSequence_only _)).otherKept h).trans
    (setReservation_otherKept _ _ _)).trans (setHose_otherKept _ _ _)).trans (setMeter_otherKept _ _ _)).trans
    (setTag_otherKept _ _ _)

theorem judge_otherKept (s : State) (h : Side) (c : Candidate) : OtherHoseKept h s (s.judge h c) := by
  unfold State.judge
  split
  · exact refuse_otherKept _ _ _
  · exact grant_otherKept _ _ _

/-- The checks of a vehicle and their outcome leave the other side alone. -/
theorem checked_otherKept (s : State) (h : Side) (c : Candidate) :
    OtherHoseKept h s (match s.checkStation h with
      | some r => s.refuse h r
      | none => s.judge h c) := by
  split
  · exact refuse_otherKept _ _ _
  · exact judge_otherKept _ _ _

theorem decideEntry_otherKept (s : State) (h : Side) (i : Identity) (n : Option Nat) :
    OtherHoseKept h s (s.decideEntry h i n) := by
  unfold State.decideEntry
  split
  · exact .refl _ _
  · exact (((setEntry_only _ _).otherKept h).trans (setHose_otherKept _ _ _)).trans (checked_otherKept _ _ _)

/-! ### Tag exchanges -/

end Sys2Proof.Machine

/-! Every operation keeps R5, R91 and R101 at both sides: the shared operations. -/

namespace Sys2Proof.Machine

set_option Elab.async false

/-! ### Ends and the watch -/

/-- The end of a delivery either changes nothing or leaves the hose closed. -/
theorem endDelivery_steady (s : State) (h : Side) (r : EndReason) :
    Steady (s.view h) ((s.endDelivery h r).view h) ∧
      (s.endDelivery h r = s ∨ ((s.endDelivery h r).hose h).state.open = false) := by
  obtain ⟨-, e⟩ | ⟨d, o, hd, ⟨g, -⟩ | ⟨g, k, -⟩⟩ := endDelivery_cases s h r
  · rw [e]
    exact ⟨.refl _, .inl rfl⟩
  · obtain ⟨hose, -, rest⟩ := endDelivery_closing r o hd g
    refine ⟨Steady.closing (live_of_open o) ?_ ?_ ?_ ?_ ?_, .inr (by rw [hose]; rfl)⟩ <;>
      simp [State.view, hose, rest.reservation_eq, State.endedHose, hd, Delivery.terms]
  · obtain ⟨hose, -, reservation, -⟩ := endDelivery_dropped r o hd g k
    have notLive : ((s.endDelivery h r).hose h).state.live = false := by
      rw [hose]
      dsimp only
      split
      · rfl
      · cases (s.hose h).hook <;> rfl
    refine ⟨Steady.to_rest notLive ?_ ?_, .inr (not_open_of_not_live notLive)⟩
    · simp [State.view, reservation]
    · simp [State.view, hose, State.endedHose]

/-- A hose with a delivery record is not open after an end. -/
theorem endDelivery_not_open (s : State) (h : Side) (r : EndReason) {d : Delivery} (e : (s.hose h).delivery = some d) :
    ((s.endDelivery h r).hose h).state.open = false := by
  obtain ⟨o | none, eq⟩ | ⟨d, o, hd, ⟨g, -⟩ | ⟨g, k, -⟩⟩ := endDelivery_cases s h r
  · rw [eq]; exact o
  · simp [none] at e
  · rw [(endDelivery_closing r o hd g).1]; rfl
  · rw [(endDelivery_dropped r o hd g k).1]
    dsimp only
    split
    · rfl
    · cases (s.hose h).hook <;> rfl

theorem endDelivery_allKept (s : State) (h : Side) (r : EndReason) : AllKept s (s.endDelivery h r) := by
  refine AllKept.of_side h (endDelivery_otherKept s h r) ?_
  obtain ⟨steady, same | shut⟩ := endDelivery_steady s h r
  · exact Kept.of_eq (by rw [same])
  · exact steady.kept_of_not_open shut

theorem setTarget_otherKept (s : State) (h : Side) (n : Nat) : OtherHoseKept h s (s.setTarget h n) := by
  unfold State.setTarget
  dsimp only
  split <;> split <;> simp [OtherHoseKept]

theorem setTarget_view (s : State) (h : Side) (n : Nat) {r : Reservation} (e : s.reservation h = some r) :
    (s.setTarget h n).view h = { s.view h with
      reservation := some { r.terms with target := n }
      delivery := (s.view h).delivery.map fun p => { p with target := n } } := by
  simp only [State.setTarget, e]
  cases d : (s.hose h).delivery <;> simp [State.view, d, Reservation.terms, Delivery.terms]

theorem setTarget_allKept {s : State} {h : Side} {n : Nat} {r : Reservation} (e : s.reservation h = some r)
    (lower : (s.view h).reserved → (s.view h).drawn → n ≤ r.target) (net : (s.meter h).lastNet ≤ n) :
    AllKept s (s.setTarget h n) := by
  refine AllKept.of_side h (setTarget_otherKept s h n) ?_
  rw [setTarget_view s h n e]
  exact Kept.retarget (by simp [State.view, e]) lower net

/-- Under R91 and R101 the last net of an open hose is at or below the target of its reservation. -/
theorem lastNet_le_target {s : State} {h : Side} {r : Reservation} (e : s.reservation h = some r)
    (o : (s.hose h).state.open = true) (hr : (s.view h).reserved) (hd : (s.view h).drawn) :
    (s.meter h).lastNet ≤ r.target := by
  have terms : (s.view h).reservation = some r.terms := by simp [State.view, e]
  simp only [SideView.reserved, terms] at hr
  exact hd.1 o _ hr.2

theorem reevaluate_allKept {s : State} {h : Side} {r r' : Reservation} (n : Nat) (e : s.reservation h = some r')
    (same : r.target = r'.target) : AllKept s (s.reevaluate h r n) := by
  unfold State.reevaluate
  split
  case isFalse => exact .refl _
  rename_i o
  split
  · exact endDelivery_allKept _ _ _
  dsimp only
  split
  · exact .refl _
  · split
    · rename_i a _ below
      refine setTarget_allKept e (fun _ _ => ?_) ?_ <;> omega
    · exact (setTarget_allKept e (lastNet_le_target e o) (Nat.le_refl _)).trans (endDelivery_allKept _ _ _)

/-- The delivery of an entry found disturbed, marked with it (R98, R104). -/
def State.withDisturbed (s : State) (h : Side) (r : Reservation) : State :=
  let s1 := s.setReservation h (some r)
  match (s1.hose h).delivery with
  | none => s1
  | some d => s1.setHose h { s1.hose h with
      delivery := some { d with watch := .disturbed, causes := r.causes, flags := { d.flags with disturbed := true } } }

theorem withDisturbed_reservation (s : State) (h : Side) (r : Reservation) :
    (s.withDisturbed h r).reservation h = some r := by
  unfold State.withDisturbed
  dsimp only
  split <;> simp

theorem withDisturbed_view_eq {s : State} {h : Side} {r r' : Reservation} (e : s.reservation h = some r')
    (same : r.terms = r'.terms) (k : Side) : (s.withDisturbed h r).view k = s.view k := by
  have kept : (s.setReservation h (some r)).view k = s.view k := setReservation_view_eq k (by simp [e, same])
  unfold State.withDisturbed
  dsimp only
  split
  · exact kept
  · rename_i d hd
    exact (setDelivery_view_eq k hd).trans kept

/-- A reservation as an examination that finds it disturbed leaves it; `n` is the shift use before (R98). -/
def State.disturbedEntry (s : State) (r : Reservation) (e : FleetEntry) (n : Nat) : Reservation :=
  let cls := s.classOf e
  let q := effectiveAllowance r.capped (baseAllowance e.allowanceOv.val cls) cls
  let hold := holdInForce e.carry cls
  { r with
    allowance := q, hold := hold, watch := .disturbed
    causes := r.causes.join
      ⟨decide (n < e.carry.useAgainst r.shift), q.lower r.allowance, hold && !r.hold⟩ }

/-- What examining an entry on a report does: its values in force are set, and where it is found disturbed it is
marked with its delivery and re-evaluated. -/
theorem examine_cases (s : State) (h : Side) (e : FleetEntry) (n : Nat) :
    (s.reservation h = none ∧ s.examine h e n = s) ∨
    ∃ r r' : Reservation, s.reservation h = some r ∧ r'.terms = r.terms ∧
      (s.examine h e n = s.setReservation h (some r') ∨
        ∃ m, s.examine h e n = (s.withDisturbed h r').reevaluate h r' m) := by
  unfold State.examine
  cases hr : s.reservation h with
  | none => exact .inl ⟨rfl, rfl⟩
  | some r =>
    dsimp only
    split
    · exact .inr ⟨r, s.disturbedEntry r e n, rfl, rfl, .inr ⟨_, rfl⟩⟩
    · refine .inr ⟨r, _, rfl, ?_, .inl rfl⟩
      rfl

theorem examine_allKept (s : State) (h : Side) (e : FleetEntry) (n : Nat) : AllKept s (s.examine h e n) := by
  obtain ⟨-, eq⟩ | ⟨r, r', hr, same, eq | ⟨m, eq⟩⟩ := examine_cases s h e n
  · rw [eq]; exact .refl _
  · rw [eq]; exact .of_view_eq fun k => setReservation_view_eq k (by simp [hr, same])
  · rw [eq]
    exact (AllKept.of_view_eq (withDisturbed_view_eq hr same)).trans
      (reevaluate_allKept m (withDisturbed_reservation s h r') rfl)

theorem foldSides_related {R : State → State → Prop} (refl : ∀ s, R s s)
    (trans : ∀ {s t u}, R s t → R t u → R s u) {f : State → Side → State} (kept : ∀ s h, R s (f s h))
    (sides : List Side) (s : State) : R s (sides.foldl f s) := by
  induction sides generalizing s with
  | nil => exact refl _
  | cons h sides ih => exact trans (kept s h) (ih _)

/-- What holds of every examination holds of a report of source OTHER. -/
theorem reportOther_related {R : State → State → Prop} (refl : ∀ s, R s s)
    (trans : ∀ {s t u}, R s t → R t u → R s u) (examined : ∀ s h e n, R s (State.examine s h e n))
    (s : State) (v : Nat) (old : ReportValues) : R s (s.reportOther v old) := by
  unfold State.reportOther
  split
  · exact refl _
  · split
    · exact refl _
    · refine foldSides_related refl trans (fun s h => ?_) _ _
      split
      · exact examined _ _ _ _
      · exact refl _

theorem reportOther_allKept (s : State) (v : Nat) (old : ReportValues) : AllKept s (s.reportOther v old) :=
  reportOther_related AllKept.refl AllKept.trans examine_allKept s v old

theorem reportClass_allKept (s : State) (c : Nat) : AllKept s (s.reportClass c) := by
  unfold State.reportClass
  refine foldSides_related AllKept.refl AllKept.trans (fun s h => ?_) _ _
  split
  · exact .refl _
  · split
    · exact .refl _
    · split
      · exact examine_allKept _ _ _ _
      · exact .refl _

/-! ### Records -/

theorem changeEntry_allKept (s : State) (v : Nat) (f : FleetEntry → FleetEntry × Nat) :
    AllKept s (s.changeEntry v f) := by
  unfold State.changeEntry
  split
  · exact .refl _
  · exact ((setEntry_only _ _).trans (countLate_only _ _)).allKept.trans (reportOther_allKept _ _ _)

theorem takeIssue_allKept (s : State) (o : Nat) (r : IssueRecord) : AllKept s (s.takeIssue o r) := by
  unfold State.takeIssue
  split
  · exact (countNotApplied_only _).allKept
  · rename_i made
    exact (findOrMake_only made).allKept.trans (changeEntry_allKept _ _ _)

theorem takeService_allKept (s : State) (o e q : Nat) (r : ServiceRecord) : AllKept s (s.takeService o e q r) := by
  unfold State.takeService
  split
  · split
    · exact (countNotApplied_only _).allKept
    · rename_i made
      exact (findOrMake_only made).allKept.trans (changeEntry_allKept _ _ _)
  · exact (countNotApplied_only _).allKept

theorem takeVehicleNotice_allKept (s : State) (o : Nat) (n : VehicleNotice) : AllKept s (s.takeVehicleNotice o n) := by
  unfold State.takeVehicleNotice
  split
  · split
    · exact (countNotApplied_only _).allKept
    · rename_i made
      exact (findOrMake_only made).allKept.trans (changeEntry_allKept _ _ _)
  · exact (countNotApplied_only _).allKept

theorem takeClassNotice_allKept (s : State) (o : Nat) (n : ClassNotice) : AllKept s (s.takeClassNotice o n) := by
  unfold State.takeClassNotice
  split
  · dsimp only
    split
    · exact .refl _
    · refine AllKept.trans ?_ (requestPlan_only _ _ _).allKept
      split
      · exact (setClasses_only _ _).allKept
      · exact (setClasses_only _ _).allKept.trans (reportClass_allKept _ _)
  · exact (countNotApplied_only _).allKept

theorem ifAuthorised_allKept (s : State) (o : Nat) {f : State → State} (kept : AllKept s (f s)) :
    AllKept s (s.ifAuthorised o f) := by
  unfold State.ifAuthorised
  split
  · exact kept
  · exact (countUnauthorised_only _).allKept

theorem dispatch_allKept (s : State) (f : SiteFrame) : AllKept s (s.dispatch f) := by
  unfold State.dispatch
  split
  · exact takeIssue_allKept _ _ _
  · exact ifAuthorised_allKept _ _ (takeService_allKept _ _ _ _ _)
  · exact ifAuthorised_allKept _ _ (takeVehicleNotice_allKept _ _ _)
  · exact ifAuthorised_allKept _ _ (takeClassNotice_allKept _ _ _)
  · exact .refl _

theorem takeFrame_allKept (s : State) (f : SiteFrame) : AllKept s (s.takeFrame f) := by
  unfold State.takeFrame
  split
  · exact (takeOwnNumber_only _ _).allKept
  · split
    · exact (Only.next (b1 := [.line, .notice]) (bs := [.line, .notice])
        ((setLine_only _ _).next (beaconItem_only _ _)) (trySend_only _)).allKept
    · unfold State.takeRecordFrame
      dsimp only
      split
      · exact ((setLine_only _ _).trans (trySend_only _)).allKept
      · exact (((setLine_only _ _).trans (setLine_only _ _)).next (bs := [.line, .notice])
          (heardItem_only _ _)).allKept.trans ((dispatch_allKept _ _).trans (trySend_only _).allKept)

theorem handOver_allKept (s : State) (k : Kind) (f : SiteFrame) : AllKept s (s.handOver k f) := by
  unfold State.handOver
  split
  · exact takeFrame_allKept _ _
  · split
    · exact (setLine_only _ _).allKept
    · exact .refl _

/-- What holds of the receiver's own moves and of what a frame's end does holds of all bytes that arrive. -/
theorem hearBytes_related {R : State → State → Prop} (refl : ∀ s, R s s)
    (trans : ∀ {s t u}, R s t → R t u → R s u) (receiver : ∀ s bytes skipping, R s (s.setReceiver bytes skipping))
    (count : ∀ s : State, R s s.countBadFrame) {take : State → List Byte → Option State}
    (taken : ∀ u f t, take u f = some t → R u t) (s : State) (x : LineBytes) : R s (s.hearBytes x take) := by
  have run (s : State) : R s (s.hearRun x.bytes take) := by
    unfold State.hearRun
    split
    · exact refl _
    · split
      · exact refl _
      · exact receiver _ _ _
      · exact receiver _ _ _
      · exact trans (receiver _ _ _) (count _)
      · refine trans (receiver s [] true) ?_
        unfold State.frameEnded
        split
        · exact taken _ _ _ (by assumption)
        · split
          · exact refl _
          · exact count _
  have gap : R s s.gapPassed := by
    unfold State.gapPassed
    split
    · exact receiver _ _ _
    · exact trans (receiver _ _ _) (count _)
  unfold State.hearBytes
  split
  · split
    · exact trans gap (run _)
    · exact run _
  · exact refl _

theorem receive_allKept (s : State) (k : Kind) (x : LineBytes) : AllKept s (s.receive k x) := by
  refine hearBytes_related AllKept.refl AllKept.trans (fun _ _ _ => (setReceiver_only _ _ _).allKept)
    (fun _ => (countBadFrame_only _).allKept) (fun u f t e => ?_) s x
  obtain ⟨x, -, rfl⟩ := Option.map_eq_some_iff.1 e
  exact handOver_allKept _ _ _

end Sys2Proof.Machine

/-! Every operation keeps R5, R91 and R101 at both sides: the delivery cycle. -/

namespace Sys2Proof.Machine

set_option Elab.async false

theorem rest_not_live (x : Hook) : x.rest.live = false := by cases x <;> rfl

/-! ### Moves of a hose that is not live -/

theorem setHose_rest_allKept {s : State} {h : Side} {x : Hose} (before : (s.hose h).state.live = false)
    (live : x.state.live = false) (stage : x.stage = (s.hose h).stage := by rfl)
    (pump : x.pump = (s.hose h).pump := by rfl) : AllKept s (s.setHose h x) := by
  refine AllKept.of_side h (setHose_otherKept _ _ _) ?_
  rw [view_setHose_self]
  exact Kept.of_not_live before live stage pump rfl

theorem refuse_allKept {s : State} {h : Side} (r : RefusalReason) (before : (s.hose h).state.live = false) :
    AllKept s (s.refuse h r) :=
  AllKept.trans (setHose_rest_allKept before rfl) (hoseItem_only _ _).allKept

theorem leaveIdentifying_allKept {s : State} {h : Side} {n : HoseState} (before : (s.hose h).state.live = false)
    (live : n.live = false) : AllKept s (s.leaveIdentifying h n) :=
  AllKept.trans (setHose_rest_allKept before live) (setTag_only _ _ _).allKept

theorem startCycle_allKept {s : State} {h : Side} (before : (s.hose h).state.live = false) :
    AllKept s (s.startCycle h) :=
  AllKept.trans (setHose_rest_allKept before rfl) (setTag_only _ _ _).allKept

theorem hoseRecorded_allKept (s : State) (h : Side) : AllKept s (s.hoseRecorded h) := by
  unfold State.hoseRecorded
  dsimp only
  split
  · rename_i e
    exact setHose_rest_allKept (by rw [e]; rfl) (rest_not_live _)
  · split
    · rename_i e
      exact setHose_rest_allKept (by rw [e]; rfl) (by rw [e]; rfl)
    · exact .refl _

theorem clearFault_allKept (s : State) (h : Side) : AllKept s (s.clearFault h) := by
  refine AllKept.of_side h (clearFault_otherKept s h) ?_
  unfold State.clearFault
  dsimp only
  split
  · rename_i e
    rw [view_hoseItem, view_setHose_self, view_setMeter_self]
    exact Kept.of_not_live (by simp [State.view, e.1, HoseState.live]) (rest_not_live _) rfl rfl rfl
  · exact .refl _

/-! ### The append and the write-back -/

theorem recordDelivery_view_eq (s : State) (h : Side) (b : Bool) (k : Side) :
    (s.recordDelivery h b).view k = s.view k := by
  unfold State.recordDelivery
  split
  · rfl
  · rename_i e
    split
    · rfl
    · exact ((passAppend_only _ _ _).view_eq k).trans (setDelivery_view_eq k e)

theorem writeBackOver_allKept (s : State) (h : Side) (b : Bool) : AllKept s (s.writeBackOver h b) := by
  unfold State.writeBackOver
  dsimp only
  have forgot : AllKept s (s.setTag h (s.tag h).forget) := (setTag_only _ _ _).allKept
  split
  · rename_i e
    exact forgot.trans (AllKept.trans (setHose_rest_allKept (by simp [e, HoseState.live]) rfl)
      (.of_view_eq (recordDelivery_view_eq _ _ _)))
  · split
    · exact forgot.trans (.of_view_eq (recordDelivery_view_eq _ _ _))
    · exact forgot

theorem hangInWriteBack_allKept (s : State) (h : Side) : AllKept s (s.hangInWriteBack h) := by
  unfold State.hangInWriteBack
  dsimp only
  split
  · exact (setTag_only _ _ _).allKept.trans (writeBackOver_allKept _ _ _)
  · exact (setTag_only _ _ _).allKept

theorem hang_allKept (s : State) (h : Side) : AllKept s (s.hang h) := by
  unfold State.hang
  dsimp only
  split
  case h_1 e | h_2 e => exact setHose_rest_allKept (by rw [e]; rfl) rfl
  case h_3 e => exact leaveIdentifying_allKept (by rw [e]; rfl) rfl
  case h_4 | h_5 | h_6 => exact endDelivery_allKept _ _ _
  case h_7 => exact .of_view_eq fun k => setHose_view_eq k
  case h_8 => exact AllKept.trans (.of_view_eq fun k => setHose_view_eq k) (hangInWriteBack_allKept _ _)
  case h_9 =>
    split
    · exact hangInWriteBack_allKept _ _
    · exact .refl _
  all_goals exact .refl _

/-! ### The settle window's end -/

theorem ownAbsorb_view_eq (s : State) (h : Side) (d : Delivery) (i : Item) (k : Side) :
    (s.ownAbsorb h d i).view k = s.view k := by
  have raised (u : State) (n : Nat) : (u.raiseAbsorbed h n).view k = u.view k := by
    unfold State.raiseAbsorbed
    split
    · rfl
    · rename_i e
      exact setReservation_view_eq k (by rw [e]; rfl)
  unfold State.ownAbsorb
  dsimp only
  rw [raised]
  split
  · split
    · rfl
    · exact ((countLate_only _ _).view_eq k).trans (setHose_view_eq k)
  · split
    · rfl
    · exact ((setEntry_only _ _).trans (countLate_only _ _)).view_eq k

theorem absorbedFinal_view_eq {s : State} {h : Side} {d : Delivery} (e : (s.hose h).delivery = some d) (k : Side) :
    (s.absorbedFinal h d).view k = s.view k :=
  (ownAbsorb_view_eq _ _ _ _ k).trans (setDelivery_view_eq k e)

theorem afterSettle_view_eq (s : State) (h : Side) (d : Delivery) (k : Side) :
    (s.afterSettle h d).view k = s.view k := by
  unfold State.afterSettle
  split
  · exact recordDelivery_view_eq _ _ _ k
  · rfl

theorem settledState_not_live (c : Option FaultCause) (b : Bool) : (settledState c b).live = false := by
  unfold settledState
  split
  · rfl
  · split <;> rfl

theorem settleEnd_allKept {s : State} {h : Side} {d : Delivery} (closing : (s.hose h).state = .closing)
    (e : (s.hose h).delivery = some d) : AllKept s (s.settleEnd h d) := by
  refine AllKept.of_side h (settleEnd_otherKept s h d) ?_
  have view : ((s.settleEnd h d).view h) = { (s.released h d).view h with
      state := (s.settledHose h d).state, stage := (s.settledHose h d).stage, pump := (s.settledHose h d).pump
      delivery := (s.settledHose h d).delivery.map Delivery.terms } := by
    rw [settleEnd_eq, afterSettle_view_eq]
    unfold State.settled
    split <;> simp
  have live : (s.settledHose h d).state.live = false := settledState_not_live _ _
  have absorbed := absorbedFinal_view_eq e h
  rw [view]
  refine Steady.kept_of_not_open (.to_rest live (fun _ => ?_) fun shut => ?_) (not_open_of_not_live live)
  · simp [State.released]
  · have valves := shut (by simp [State.view, closing, HoseState.open])
    exact ⟨(congrArg SideView.stage absorbed).trans valves.1, (congrArg SideView.pump absorbed).trans valves.2⟩

/-! ### Meter updates -/

theorem markUncompensated_view_eq (s : State) (h k : Side) : (s.markUncompensated h).view k = s.view k := by
  unfold State.markUncompensated
  dsimp only
  split
  · rfl
  · rename_i e
    split
    · exact setDelivery_view_eq k e
    · rfl

theorem journalStep_view_eq {s : State} {h : Side} {d : Delivery} (n : Nat) (e : (s.hose h).delivery = some d)
    (k : Side) : (s.journalStep h d n).view k = s.view k := by
  unfold State.journalStep
  dsimp only
  rw [view_setTag, ownAbsorb_view_eq, (requestProgress_only _ _ _).view_eq k]
  exact setDelivery_view_eq k e

theorem actOnCompares_steady (s : State) (h : Side) (d : Delivery) (n : Nat) :
    Steady (s.view h) ((s.actOnCompares h d n).view h) := by
  unfold State.actOnCompares
  dsimp only
  split
  · exact (endDelivery_steady _ _ _).1
  · split
    · rename_i slow
      rw [view_setHose_self]
      have flowing : (s.view h).state = .flowing := slow.1
      refine ⟨fun r => ?_, fun _ => nofun, fun _ => ⟨by rw [flowing]; rfl, fun q hq => ⟨q, hq, Nat.le_refl _⟩⟩⟩
      unfold SideView.reserved at r ⊢
      rw [flowing] at r
      exact r
    · exact .refl _

/-- After the compares of an update at the net that stands in the meter unit, R101 holds. -/
theorem actOnCompares_drawn {s : State} {h : Side} {d : Delivery} (e : (s.view h).delivery = some d.terms)
    (flow : (s.hose h).state ≠ .authorised) : ((s.actOnCompares h d (s.meter h).lastNet).view h).drawn := by
  obtain ⟨d', hd', same⟩ := Option.map_eq_some_iff.1 e
  have target : d'.target = d.target := congrArg Terms.target same
  unfold State.actOnCompares
  dsimp only
  split
  · exact drawn_of_not_open (endDelivery_not_open _ _ _ hd')
  · rename_i lead
    have below : (s.meter h).lastNet ≤ d.target := by
      simp only [leadMet, decide_eq_true_eq] at lead
      omega
    split
    · rw [view_setHose_self]
      refine ⟨fun _ q hq => ?_, nofun⟩
      simp only [hd', Option.map_some, Option.some.injEq] at hq
      subst hq
      show (s.meter h).lastNet ≤ d'.target
      rw [target]
      exact below
    · refine ⟨fun _ q hq => ?_, fun a => absurd a flow⟩
      rw [e] at hq
      cases hq
      exact below

theorem startStall_view_eq (s : State) (h k : Side) : (s.startStall h).view k = s.view k := setHose_view_eq k

/-- The parts of an update in FLOWING or SLOWING: the stall timer, then the journal step that is due, and the
compares. -/
theorem flowUpdate_cases (s : State) (h : Side) (rose : Bool) :
    ∃ s1, s1 = (if rose then s.startStall h else s) ∧
      (((s1.hose h).delivery = none ∧ s.flowUpdate h rose = s1) ∨
        ∃ d s2, (s1.hose h).delivery = some d ∧
          s2 = (if s1.stepDue d (s1.meter h).lastNet then s1.journalStep h d (s1.meter h).lastNet else s1) ∧
          s.flowUpdate h rose = s2.actOnCompares h d (s1.meter h).lastNet) := by
  refine ⟨_, rfl, ?_⟩
  unfold State.flowUpdate
  dsimp only
  generalize (if rose then s.startStall h else s) = s1
  cases hd : (s1.hose h).delivery with
  | none => exact .inl ⟨rfl, rfl⟩
  | some d => exact .inr ⟨d, _, rfl, rfl, rfl⟩

theorem flowUpdate_steady_drawn (s : State) (h : Side) (rose : Bool) :
    Steady (s.view h) ((s.flowUpdate h rose).view h) ∧
      ((s.hose h).state ≠ .authorised → ((s.flowUpdate h rose).view h).drawn) := by
  obtain ⟨s1, hs1, cases⟩ := flowUpdate_cases s h rose
  have view1 : s1.view h = s.view h := by
    rw [hs1]
    split
    · exact startStall_view_eq _ _ _
    · rfl
  have state1 : (s1.hose h).state = (s.hose h).state := congrArg SideView.state view1
  obtain ⟨none, eq⟩ | ⟨d, s2, hd, hs2, eq⟩ := cases
  · rw [eq, view1]
    refine ⟨.refl _, fun flow => ⟨fun _ q hq => ?_, fun a => absurd a flow⟩⟩
    rw [← view1] at hq
    simp [State.view, none] at hq
  · have view2 : s2.view h = s1.view h := by
      rw [hs2]
      split
      · exact journalStep_view_eq _ hd _
      · rfl
    have net2 : (s2.meter h).lastNet = (s1.meter h).lastNet := congrArg SideView.lastNet view2
    have state2 : (s2.hose h).state = (s.hose h).state := congrArg SideView.state (view2.trans view1)
    have delivery2 : (s2.view h).delivery = some d.terms := by rw [view2]; simp [State.view, hd]
    rw [eq, ← view1, ← view2]
    exact ⟨actOnCompares_steady _ _ _ _, fun flow => net2 ▸ actOnCompares_drawn delivery2 (state2 ▸ flow)⟩

theorem startFlow_steady {s : State} {h : Side} (a : (s.hose h).state = .authorised) :
    Steady (s.view h) ((s.startFlow h).view h) ∧ ((s.startFlow h).hose h).state ≠ .authorised := by
  have view : (s.startFlow h).view h =
      { s.view h with state := if (s.hose h).stage = .low then .slowing else .flowing } := by
    simp [State.startFlow, State.view]
  have live : ((s.startFlow h).view h).state.live = true := by
    rw [view]
    dsimp only
    split <;> rfl
  have isOpen : ((s.startFlow h).view h).state.open = true := by
    rw [view]
    dsimp only
    split <;> rfl
  have authorised : (s.view h).state.live = true := by simp [State.view, a, HoseState.live]
  refine ⟨⟨fun r => ?_, fun _ o => ?_, fun _ => ⟨authorised, fun q hq => ?_⟩⟩, fun e => ?_⟩
  · unfold SideView.reserved at r ⊢
    rw [live, view]
    rw [authorised] at r
    exact r
  · rw [isOpen] at o
    cases o
  · rw [view] at hq
    exact ⟨q, hq, Nat.le_refl _⟩
  · have state : ((s.startFlow h).view h).state = .authorised := e
    rw [view] at state
    dsimp only at state
    split at state <;> cases state

theorem valveLeak_view (s : State) (h : Side) : ∃ g n, (s.valveLeak h).view h =
    { s.view h with state := .fault, gross := g, lastNet := n } := by
  refine ⟨0, 0, ?_⟩
  unfold State.valveLeak
  dsimp only
  split <;> simp [Meter.clear, State.view]

theorem watchesLeak_not_live {x : HoseState} (e : x.watchesLeak = true) : x.live = false := by
  cases x <;> simp_all [HoseState.watchesLeak, HoseState.live]

theorem meterUpdate_steady_drawn (s : State) (h : Side) (rose : Bool) :
    Steady (s.view h) ((s.meterUpdate h rose).view h) ∧
      (((s.hose h).state = .authorised → rose = true) → ((s.meterUpdate h rose).view h).drawn) := by
  have view1 := markUncompensated_view_eq s h h
  have state1 : ((s.markUncompensated h).hose h).state = (s.hose h).state := congrArg SideView.state view1
  unfold State.meterUpdate
  dsimp only
  rw [← view1, ← state1]
  generalize s.markUncompensated h = s1
  split
  · rename_i a
    split
    · obtain ⟨started, flow⟩ := startFlow_steady a
      obtain ⟨steady, drawn⟩ := flowUpdate_steady_drawn (s1.startFlow h) h true
      exact ⟨started.trans steady, fun _ => drawn flow⟩
    · rename_i fell
      exact ⟨.refl _, fun rises => absurd (rises a) fell⟩
  · rename_i a
    obtain ⟨steady, drawn⟩ := flowUpdate_steady_drawn s1 h rose
    exact ⟨steady, fun _ => drawn (by simp [a])⟩
  · rename_i a
    obtain ⟨steady, drawn⟩ := flowUpdate_steady_drawn s1 h rose
    exact ⟨steady, fun _ => drawn (by simp [a])⟩
  · rename_i notAuthorised notFlowing notSlowing
    split
    · rename_i leak
      obtain ⟨g, n, view⟩ := valveLeak_view s1 h
      have watches : (s1.hose h).state.watchesLeak = true := by simp_all
      rw [view]
      exact ⟨.of_not_live (watchesLeak_not_live watches) rfl rfl rfl rfl, fun _ => drawn_of_not_open rfl⟩
    · refine ⟨.refl _, fun _ => drawn_of_not_open ?_⟩
      show (s1.hose h).state.open = false
      cases a : (s1.hose h).state <;> simp_all [HoseState.open]

/-! ### An edge -/

theorem setMeter_steady (s : State) (h : Side) (m : Meter) : Steady (s.view h) ((s.setMeter h m).view h) := by
  rw [view_setMeter_self]
  exact ⟨id, id, fun l => ⟨l, fun q hq => ⟨q, hq, Nat.le_refl _⟩⟩⟩

theorem setMeter_view_eq {s : State} {h : Side} {m : Meter} (k : Side) (gross : m.gross = (s.meter h).gross := by rfl)
    (net : m.lastNet = (s.meter h).lastNet := by rfl) : (s.setMeter h m).view k = s.view k := by
  obtain rfl | rfl := h.eq_or_other k
  · simp [State.view, gross, net]
  · simp

theorem meterFault_allKept (s : State) (h : Side) : AllKept s (s.meterFault h) := by
  unfold State.meterFault
  dsimp only
  split
  · exact endDelivery_allKept _ _ _
  · split
    · rename_i e
      exact .of_view_eq fun k => setDelivery_view_eq k e
    · exact .refl _

theorem reportFaults_allKept (s : State) (h : Side) : AllKept s (s.reportFaults h) := by
  unfold State.reportFaults
  dsimp only
  split
  · exact AllKept.trans (.of_view_eq fun k => setMeter_view_eq k) (meterFault_allKept _ _)
  · exact .refl _

theorem recomputeGross_allKept (s : State) (h : Side) : AllKept s (s.recomputeGross h) := by
  refine AllKept.of_side h (recomputeGross_otherKept s h) ?_
  unfold State.recomputeGross
  dsimp only
  split
  · rename_i changed
    have steady (m m' : Meter) : Steady (s.view h) (((s.setMeter h m).setMeter h m').view h) :=
      (setMeter_steady _ _ _).trans (setMeter_steady _ _ _)
    obtain ⟨updated, drawn⟩ := meterUpdate_steady_drawn
      ((s.setMeter h ((s.meter h).weigh _ _)).setMeter h { (s.setMeter h _).meter h with lastNet := _, lastGross := _ })
      h (decide ((s.meter h).gross < grossOf (s.meter h).pulses (s.hoseCfg h).km))
    refine ((steady _ _).trans updated).kept fun _ before => drawn fun a => ?_
    have still : (s.meter h).gross = 0 := (before.2 a).1
    have differs : grossOf (s.meter h).pulses (s.hoseCfg h).km ≠ (s.meter h).gross := by simp_all
    simp only [decide_eq_true_eq]
    omega
  · exact .refl _

theorem record_eq (m : Meter) (ch : Channel) (l : Bool) : m.record ch l =
    { m with
      levelA := if ch = .a then l else m.levelA, levelB := if ch = .a then m.levelB else l, lastEdge := some ch } := by
  cases ch <;> rfl

/-- An edge is recorded, and then is a reference, a pulse fault, a forward or a reverse step (R30 to R32). -/
theorem edge_cases (m : Meter) (ch : Channel) (l : Bool) :
    m.edge ch l = m.record ch l ∨ m.edge ch l = (m.record ch l).countFault ∨
    m.edge ch l = { m.record ch l with pulses := min Config.pulseMax (m.pulses + 1) } ∨
    m.edge ch l = { m.record ch l with pulses := m.pulses - 1 } := by
  unfold Meter.edge
  dsimp only
  split
  · exact .inl rfl
  · exact .inr (.inl rfl)
  · exact .inr (.inr (.inl rfl))
  · split
    · exact .inr (.inl rfl)
    · exact .inr (.inr (.inr rfl))

theorem edge_view (m : Meter) (ch : Channel) (l : Bool) :
    (m.edge ch l).gross = m.gross ∧ (m.edge ch l).lastNet = m.lastNet := by
  obtain e | e | e | e := edge_cases m ch l <;> simp [e, record_eq, Meter.countFault]

theorem takeEdge_allKept (s : State) (h : Side) (ch : Channel) (l : Bool) : AllKept s (s.takeEdge h ch l) := by
  have edge : AllKept s (s.setMeter h ((s.meter h).edge ch l)) :=
    .of_view_eq fun k => setMeter_view_eq k (edge_view _ _ _).1 (edge_view _ _ _).2
  unfold State.takeEdge
  dsimp only
  have counted : AllKept s (if ((s.meter h).edge ch l).faultCount ≠ (s.meter h).faultCount
      then (s.setMeter h ((s.meter h).edge ch l)).reportFaults h else s.setMeter h ((s.meter h).edge ch l)) := by
    split
    · exact edge.trans (reportFaults_allKept _ _)
    · exact edge
  split
  · exact counted.trans (recomputeGross_allKept _ _)
  · exact counted

end Sys2Proof.Machine

/-! Every command keeps R5, R91 and R101 at both sides, and only a grant raises a target. -/

namespace Sys2Proof.Machine

set_option Elab.async false

/-! ### A grant -/

/-- A change that keeps R91, R5 and R101, and raises no target of a delivery that was live before. -/
structure Granted (v w : SideView) : Prop where
  reserved : v.reserved → w.reserved
  valves : v.shut → w.shut
  drawn : v.reserved → v.drawn → w.drawn
  rise : v.reserved → v.drawn → NoRise v w ∨ v.state.live = false

theorem Kept.granted {v w : SideView} (a : Kept v w) : Granted v w :=
  ⟨a.reserved, a.valves, a.drawn, fun r d => .inl (a.rise r d)⟩

/-- A change that stays within R5, R91 and R101 at both sides. -/
def AllGranted (s t : State) : Prop := ∀ k, Granted (s.view k) (t.view k)

theorem AllKept.granted {s t : State} (a : AllKept s t) : AllGranted s t := fun k => (a k).granted

/-- A grant after changes that no view shows. -/
theorem AllGranted.of_view_eq {s t u : State} (e : ∀ k, t.view k = s.view k) (a : AllGranted t u) : AllGranted s u :=
  fun k => e k ▸ a k

/-- A grant at a hose that was not live before. -/
theorem AllGranted.of_side {s t u : State} {h : Side} (a : AllKept s t) (still : (s.hose h).state.live = false)
    (b : AllGranted t u) (other : OtherHoseKept h t u) : AllGranted s u := by
  intro k
  obtain rfl | rfl := h.eq_or_other k
  · have kept := a k
    have granted := b k
    exact ⟨granted.reserved ∘ kept.reserved, granted.valves ∘ kept.valves,
      fun r d => granted.drawn (kept.reserved r) (kept.drawn r d), fun _ _ => .inr still⟩
  · rw [other.view_eq]
    exact (a _).granted

theorem grant_view (s : State) (h : Side) (c : Candidate) : (s.grant h c).view h =
    { state := .authorised, stage := grantStage (s.grantTarget h c) (s.hoseCfg h).band, pump := true
      delivery := some (s.grantDelivery h c).terms, reservation := some (s.grantDelivery h c).terms
      gross := 0, lastNet := 0 } := by
  simp [State.grant, State.grantHose, State.view, Meter.clear, Reservation.terms, Delivery.terms,
    State.grantReservation, State.grantDelivery]

theorem grant_allGranted {s : State} {h : Side} (c : Candidate) (still : (s.hose h).state.live = false) :
    AllGranted s (s.grant h c) := by
  intro k
  obtain rfl | rfl := h.eq_or_other k
  · rw [grant_view]
    exact ⟨fun _ => ⟨rfl, rfl⟩, fun _ => nofun, fun _ _ => ⟨fun _ _ _ => Nat.zero_le _, fun _ => ⟨rfl, rfl⟩⟩,
      fun _ _ => .inr still⟩
  · exact (Kept.of_eq (grant_otherKept s h c).view_eq).granted

theorem checked_allGranted {s : State} {h : Side} (c : Candidate) (still : (s.hose h).state.live = false) :
    AllGranted s (match s.checkStation h with
      | some r => s.refuse h r
      | none => s.judge h c) := by
  split
  · exact (refuse_allKept _ still).granted
  · unfold State.judge
    split
    · exact (refuse_allKept _ still).granted
    · exact grant_allGranted c still

/-! ### The end of identification -/

/-- A hose in which no fuel may pass keeps its state. -/
def ClosedStay (s t : State) : Prop := ∀ k, (s.hose k).state.open = false → (t.hose k).state = (s.hose k).state

theorem ClosedStay.refl (s : State) : ClosedStay s s := fun _ _ => rfl

theorem ClosedStay.trans {s t u : State} (a : ClosedStay s t) (b : ClosedStay t u) : ClosedStay s u := fun k e =>
  (b k (by rw [a k e]; exact e)).trans (a k e)

theorem ClosedStay.of_view_eq {s t : State} (e : ∀ k, t.view k = s.view k) : ClosedStay s t := fun k _ =>
  congrArg SideView.state (e k)

theorem endDelivery_closedStay (s : State) (h : Side) (r : EndReason) : ClosedStay s (s.endDelivery h r) := by
  intro k e
  obtain rfl | rfl := h.eq_or_other k
  · rw [endDelivery_of_not_open r e]
  · rw [(endDelivery_otherKept s h r).1]

theorem setTarget_state (s : State) (h k : Side) (n : Nat) :
    ((s.setTarget h n).hose k).state = (s.hose k).state := by
  obtain rfl | rfl := h.eq_or_other k
  · unfold State.setTarget
    dsimp only
    split <;> split <;> simp
  · rw [(setTarget_otherKept s h n).1]

theorem reevaluate_closedStay (s : State) (h : Side) (r : Reservation) (n : Nat) :
    ClosedStay s (s.reevaluate h r n) := by
  unfold State.reevaluate
  split
  case isFalse => exact .refl _
  split
  · exact endDelivery_closedStay _ _ _
  dsimp only
  split
  · exact .refl _
  · split
    · exact fun k _ => setTarget_state _ _ _ _
    · exact ClosedStay.trans (fun k _ => setTarget_state _ _ _ _) (endDelivery_closedStay _ _ _)

theorem examine_closedStay (s : State) (h : Side) (e : FleetEntry) (n : Nat) : ClosedStay s (s.examine h e n) := by
  obtain ⟨-, eq⟩ | ⟨r, r', hr, same, eq | ⟨m, eq⟩⟩ := examine_cases s h e n
  · rw [eq]; exact .refl _
  · rw [eq]; exact .of_view_eq fun k => setReservation_view_eq k (by simp [hr, same])
  · rw [eq]
    exact (ClosedStay.of_view_eq (withDisturbed_view_eq hr same)).trans (reevaluate_closedStay _ _ _ _)

theorem reportOther_closedStay (s : State) (v : Nat) (old : ReportValues) : ClosedStay s (s.reportOther v old) :=
  reportOther_related ClosedStay.refl ClosedStay.trans examine_closedStay s v old

theorem pin_view_eq (s : State) (h k : Side) (v : Nat) : (s.pin h v).view k = s.view k := setHose_view_eq k

theorem mergeTag_kept {s t : State} {h : Side} {i : Identity} {c : Option Carry} (e : s.mergeTag h i c = some t) :
    AllKept s t ∧ ClosedStay s t := by
  unfold State.mergeTag at e
  split at e
  · cases e
    rename_i entry _
    have view (k : Side) : (((s.setEntry (entry.takeTag i c s.line.siteTime).1).countLate
        (entry.takeTag i c s.line.siteTime).2).pin h i.vehicle).view k = s.view k :=
      (pin_view_eq _ _ _ _).trans (((setEntry_only _ _).trans (countLate_only _ _)).view_eq k)
    exact ⟨AllKept.trans (.of_view_eq view) (reportOther_allKept _ _ _),
      ClosedStay.trans (.of_view_eq view) (reportOther_closedStay _ _ _)⟩
  · obtain ⟨s1, made, rfl⟩ := Option.map_eq_some_iff.mp e
    have view (k : Side) : (s1.pin h i.vehicle).view k = s.view k :=
      (pin_view_eq _ _ _ _).trans ((addEntry_only made).view_eq k)
    exact ⟨.of_view_eq view, .of_view_eq view⟩

theorem showService_view_eq (s : State) (h k : Side) (r : ServiceResult) : (s.showService h r).view k = s.view k :=
  setHose_view_eq k

/-- The checks and their outcome, after changes that no view shows. -/
theorem checked_allGranted_of_view_eq {s t : State} {h : Side} (c : Candidate) (e : ∀ k, t.view k = s.view k)
    (still : (s.hose h).state.live = false) : AllGranted s (match t.checkStation h with
      | some r => t.refuse h r
      | none => t.judge h c) :=
  AllGranted.of_view_eq e (checked_allGranted c ((congrArg (fun v : SideView => v.state.live) (e h)).trans still))

theorem decideEntry_allGranted {s : State} {h : Side} (i : Identity) (n : Option Nat)
    (still : (s.hose h).state.live = false) : AllGranted s (s.decideEntry h i n) := by
  unfold State.decideEntry
  split
  · exact (AllKept.refl _).granted
  · exact checked_allGranted_of_view_eq _
      (fun k => (showService_view_eq _ _ _ _).trans ((setEntry_only _ _).view_eq k)) still

theorem decideStandIn_allGranted {s : State} {h : Side} (i : Identity) (n : Option Nat) (c : Option Carry)
    (still : (s.hose h).state.live = false) : AllGranted s (s.decideStandIn h i n c) := by
  unfold State.decideStandIn
  exact checked_allGranted_of_view_eq _ (fun k => (showService_view_eq _ _ _ _).trans (setHose_view_eq k)) still

theorem identified_allGranted {s : State} {h : Side} (still : (s.hose h).state = .identifying) :
    AllGranted s (s.identified h) := by
  have notLive : (s.hose h).state.live = false := by rw [still]; rfl
  unfold State.identified
  dsimp only
  split
  · exact (AllKept.refl _).granted
  · split
    · rename_i merged
      obtain ⟨kept, stay⟩ := mergeTag_kept merged
      refine AllGranted.of_side kept notLive (decideEntry_allGranted _ _ ?_) (decideEntry_otherKept _ _ _ _)
      rw [stay h (not_open_of_not_live notLive)]
      exact notLive
    · split
      · exact decideStandIn_allGranted _ _ _ notLive
      · unfold State.refuseUnknown
        split
        · exact (refuse_allKept _ notLive).granted
        · exact (refuse_allKept _ notLive).granted

/-! ### Readers -/

theorem readsOver_allGranted (s : State) (h : Side) : AllGranted s (s.readsOver h) := by
  have served (k : Side) : (s.serveTag h).view k = s.view k := (serveTag_only _ _).view_eq k
  unfold State.readsOver
  dsimp only
  split
  · rename_i still
    exact AllGranted.of_view_eq served (identified_allGranted still)
  · exact (AllKept.of_view_eq served).granted

theorem exchangeDone_allGranted (s : State) (h : Side) (r : Request) (x : Success) :
    AllGranted s (s.exchangeDone h r x) := by
  unfold State.exchangeDone
  dsimp only
  split
  · exact (AllKept.of_view_eq fun k => ((askNext_only _ _ _).view_eq k).trans
      ((setHose_view_eq k).trans ((setTag_only _ _ _).view_eq k))).granted
  · exact ((setTag_only _ _ _).trans (askNext_only _ _ _)).allKept.granted
  · exact AllGranted.of_view_eq (fun k => (setTag_only _ _ _).view_eq k) (readsOver_allGranted _ _)
  · exact ((setTag_only _ _ _).trans (serveTag_only _ _)).allKept.granted
  · split
    · exact (AllKept.trans ((setTag_only _ _ _).trans (serveTag_only _ _)).allKept
        (writeBackOver_allKept _ _ _)).granted
    · exact ((setTag_only _ _ _).trans (serveTag_only _ _)).allKept.granted

theorem exchangeGivenUp_allGranted (s : State) (h : Side) (r : Request) : AllGranted s (s.exchangeGivenUp h r) := by
  unfold State.exchangeGivenUp
  dsimp only
  split
  · exact ((setTag_only _ _ _).trans (askNext_only _ _ _)).allKept.granted
  · exact (((setTag_only _ _ _).trans (setTag_only _ _ _)).trans (askNext_only _ _ _)).allKept.granted
  · exact AllGranted.of_view_eq (fun k => ((setTag_only _ _ _).trans (setTag_only _ _ _)).view_eq k)
      (readsOver_allGranted _ _)
  · exact ((setTag_only _ _ _).trans (serveTag_only _ _)).allKept.granted
  · exact (AllKept.trans ((setTag_only _ _ _).trans (serveTag_only _ _)).allKept (writeBackOver_allKept _ _ _)).granted
  · exact ((setTag_only _ _ _).trans (serveTag_only _ _)).allKept.granted

theorem pollResult_view_eq (s : State) (h : Side) (b : Bool) (k : Side) : (s.pollResult h b).view k = s.view k := by
  unfold State.pollResult
  dsimp only
  split
  · exact (setHose_view_eq k).trans ((setTag_only _ _ _).view_eq k)
  · rfl

theorem endAttempt_allGranted (s : State) (h : Side) (x : Exchange) (a : ReaderAnswer) :
    AllGranted s (s.endAttempt h x a) := by
  unfold State.endAttempt
  split
  · split
    · unfold State.attemptEnded
      dsimp only
      refine AllGranted.of_view_eq (pollResult_view_eq s h ((s.tag h).answeredBy a)) ?_
      split
      · exact exchangeDone_allGranted _ _ _ _
      · split
        · exact (setTag_only _ _ _).allKept.granted
        · exact exchangeGivenUp_allGranted _ _ _
    · exact (AllKept.refl _).granted
  · split
    · exact ((setTag_only _ _ _).trans (serveTag_only _ _)).allKept.granted
    · exact (AllKept.refl _).granted
  · exact (AllKept.refl _).granted

theorem readerAnswer_allGranted (s : State) (h : Side) (n : BitVec 8) (a : ReaderAnswer) :
    AllGranted s (s.readerAnswer h n a) := by
  unfold State.readerAnswer
  split
  · exact (AllKept.refl _).granted
  · split
    · exact endAttempt_allGranted _ _ _ _
    · exact (AllKept.refl _).granted

/-! ### The converter scan -/

theorem cutOffAt_allKept (s : State) (h t : Side) : AllKept s (s.cutOffAt h t) := by
  unfold State.cutOffAt
  split
  · exact endDelivery_allKept _ _ _
  · exact .refl _

theorem testStockAt_view_eq (s : State) (h k : Side) : (s.testStockAt h).view k = s.view k := by
  unfold State.testStockAt
  dsimp only
  split
  · rfl
  · rename_i e
    split
    · exact setDelivery_view_eq k e
    · rfl

theorem testStock_view_eq (s : State) (k : Side) : s.testStock.view k = s.view k :=
  (testStockAt_view_eq _ _ _).trans (testStockAt_view_eq _ _ _)

theorem startScan_view_eq (s : State) (k : Side) : s.startScan.view k = s.view k :=
  (testStock_view_eq _ _).trans ((setScan_only _ _).view_eq k)

theorem levelUpdate_allKept (s : State) (t : Side) (n : Nat) : AllKept s (s.levelUpdate t n) := by
  unfold State.levelUpdate
  dsimp only
  split
  · exact AllKept.trans (setTank_only _ _ _).allKept ((cutOffAt_allKept _ _ _).trans (cutOffAt_allKept _ _ _))
  · exact (setTank_only _ _ _).allKept

theorem goodResponse_allKept (s : State) (pos : Nat) (e : ScanEntry) (code : BitVec 12) :
    AllKept s (s.goodResponse pos e code) := by
  unfold State.goodResponse
  dsimp only
  split
  · exact (setScan_only _ _).allKept
  · exact AllKept.trans (setScan_only _ _).allKept (levelUpdate_allKept _ _ _)

theorem clearPress_allKept (s : State) : AllKept s s.clearPress := by
  have cleared : AllKept s (if s.inRun then (s.clearFault .one).clearFault .two else s) := by
    split
    · exact (clearFault_allKept _ _).trans (clearFault_allKept _ _)
    · exact .refl _
  unfold State.clearPress
  dsimp only
  generalize (if s.inRun then (s.clearFault .one).clearFault .two else s) = s1 at cleared ⊢
  split
  · refine cleared.trans ?_
    unfold State.clearScan
    split
    · exact .of_view_eq fun k => (startScan_view_eq _ k).trans ((setScan_only _ _).view_eq k)
    · exact .refl _
  · exact cleared

/-! ### Starts, stages and completions -/

theorem startWith_view (s : State) (c : Cause) (a b : Bool) (k : Side) : (s.startWith c a b).view k =
    { state := .start, stage := .closed, pump := false, delivery := none, reservation := none, gross := 0
      lastNet := 0 } := by
  cases k <;> rfl

theorem startWith_allKept (s : State) (c : Cause) (a b : Bool) : AllKept s (s.startWith c a b) := by
  intro k
  rw [startWith_view]
  exact Steady.kept_of_not_open (.to_rest rfl (fun _ => rfl) fun _ => ⟨rfl, rfl⟩) rfl

theorem leaveHold_view_eq (s : State) (x : LineLevels) (k : Side) : (s.leaveHold x).view k = s.view k := by
  cases k <;> rfl

/-- A hose whose configuration is taken keeps all but its lead, and only its meter unit can lose its counts. -/
theorem loadConfig_view (s : State) (c : ConfigRecord) (k : Side) : ∃ g n,
    (s.loadConfig c).view k = { s.view k with gross := g, lastNet := n } := by
  have same (x : Hose) (g : HoseConfig) : (x.configured g s.start.cause).state = x.state ∧
      (x.configured g s.start.cause).stage = x.stage ∧ (x.configured g s.start.cause).pump = x.pump ∧
      (x.configured g s.start.cause).delivery = x.delivery := by
    unfold Hose.configured
    split <;> exact ⟨rfl, rfl, rfl, rfl⟩
  refine ⟨((s.loadConfig c).meter k).gross, ((s.loadConfig c).meter k).lastNet, ?_⟩
  cases k <;> simp [State.view, State.loadConfig, State.hose, State.reservation, Pair.get, same]

theorem judgeConfig_allKept {s : State} (still : ∀ k, (s.hose k).state = .start) : AllKept s s.judgeConfig := by
  unfold State.judgeConfig
  dsimp only
  split
  · exact (enterConfigFault_only _ _ _).allKept
  · intro k
    obtain ⟨g, n, view⟩ := loadConfig_view s (decodeConfig (memReadBytes s.mem 0 256)) k
    have notLive : (s.view k).state.live = false := by simp [State.view, still k, HoseState.live]
    rw [view]
    exact Kept.of_not_live notLive notLive rfl rfl rfl

theorem releaseHose_allKept {s : State} {h : Side} (still : (s.hose h).state = .start) :
    AllKept s (s.releaseHose h) := by
  unfold State.releaseHose
  split
  · exact setHose_rest_allKept (by rw [still]; rfl) (rest_not_live _)
  · exact .refl _

theorem releaseHose_hose_other (s : State) (h : Side) : (s.releaseHose h).hose h.other = s.hose h.other := by
  unfold State.releaseHose
  split <;> simp

theorem enterRun_allKept {s : State} (still : ∀ k, (s.hose k).state = .start) : AllKept s s.enterRun := by
  have one : ((s.setStart { s.start with stage := .run, listenTimer := none }).hose .one).state = .start := still _
  have two : (((s.setStart { s.start with stage := .run, listenTimer := none }).releaseHose .one).hose .two).state =
      .start := by
    rw [show Side.two = Side.one.other from rfl, releaseHose_hose_other]
    exact still _
  unfold State.enterRun
  exact (setStart_only _ _).allKept.trans ((releaseHose_allKept one).trans ((releaseHose_allKept two).trans
    ((setLine_only _ _).trans (trySend_only _)).allKept))

theorem endScan_view_eq (s : State) (k : Side) : s.endScan.view k = s.view k := by
  unfold State.endScan
  split
  · rfl
  · split
    · rw [(enterListen_only _).view_eq k]
      unfold State.placeScanEnd State.restoreTotalizer
      exact ((placeSiteTime_only _ _).view_eq k).trans ((setHose_view_eq k).trans ((setHose_view_eq k).trans
        ((setStart_only _ _).view_eq k)))
    · rfl

theorem runScan_view_eq (s : State) (failed : ScanFailures) (k : Side) : (s.runScan failed).view k = s.view k := by
  unfold State.runScan
  split
  · rw [endScan_view_eq]
    split
    · exact (scanRing_only _ _ _).view_eq k
    · exact (formatJournal_only _ _ _).view_eq k
  · rw [endScan_view_eq]
    exact (formatJournal_only _ _ _).view_eq k

theorem applyOwn_allKept (s : State) (r : Record) : AllKept s (s.applyOwn r) := by
  unfold State.applyOwn
  split
  · exact .refl _
  · exact takeService_allKept _ _ _ _ _
  · exact (takeVehicleNotice_allKept _ _ _).trans (countTurnedAway_only _ _).allKept
  · exact (takeClassNotice_allKept _ _ _).trans (countTurnedAway_only _ _).allKept

theorem appendDone_allKept (s : State) (src : AppendSource) (r : Record) : AllKept s (s.appendDone src r) := by
  unfold State.appendDone
  refine ((ownItem_only s r).next (bs := [.notice, .journal, .classes]) (afterService_only _)).allKept.trans ?_
  unfold State.reportAppend
  split
  · split
    · exact hoseRecorded_allKept _ _
    · exact .refl _
  · exact (applyOwn_allKept _ _).trans (reply_only _ _).allKept
  · unfold State.absorbRecovered
    split
    · exact takeIssue_allKept _ _ _
    · exact .refl _

end Sys2Proof.Machine

namespace Sys2Proof.Machine

set_option Elab.async false

/-! ### The commands -/

/-- A relation of states between a state and an answer that is a next state. -/
theorem next_related {R : State → State → Prop} {s t u : State} (e : (Host.Outcome.next u : Answer) = .next t)
    (a : R s u) : R s t := by cases e; exact a

theorem hose_start_of_stage {s : State} (r : s.reservationsOk) (stage : s.start.stage ≠ .run) (k : Side) :
    (s.hose k).state = .start := (r k).2 stage

/-- Every command keeps R91, R5 and R101, and raises no target of a live delivery. -/
theorem exec_allGranted {c : Instr} {s t : State} (r : s.reservationsOk) (e : exec c s = .next t) :
    AllGranted s t := by
  have still := hose_start_of_stage r
  cases c with
  | powerStart => exact next_related e (startWith_allKept _ _ _ _).granted
  | supplyDip => exact next_related e (startWith_allKept _ _ _ _).granted
  | resetLine => exact next_related e (startWith_allKept _ _ _ _).granted
  | holdEnd x =>
    simp only [exec, execHoldEnd] at e
    split at e
    · exact next_related e (AllKept.of_view_eq (leaveHold_view_eq _ _)).granted
    · exact next_related e (AllKept.refl _).granted
  | configAreaRead o f =>
    simp only [exec, execConfigAreaRead] at e
    split at e
    · rename_i reading
      have starting (m : List Host.Cell) (k : Side) : ((s.setMem m).hose k).state = .start :=
        still (by simp [State.readingConfig] at reading; simp [reading.1]) k
      split at e
      · exact next_related e (enterConfigFault_only _ _ _).allKept.granted
      · split at e
        · exact next_related e ((setMem_only _ _).allKept.trans (judgeConfig_allKept (starting _))).granted
        · cases e
    · exact next_related e (AllKept.refl _).granted
  | planAreaLoad o f =>
    simp only [exec, execPlanAreaLoad] at e
    have loaded (m : List Host.Cell) (f : BitVec 8) : AllKept s ((s.setMem m).loadPlans f) :=
      ((setMem_only _ _).next (bs := [.mem, .classes]) (loadPlans_only _ _)).allKept
    split at e
    · split at e
      · split at e
        · exact next_related e (AllKept.trans (loaded _ _) (AllKept.trans (setStart_only _ _).allKept
            (.of_view_eq (startScan_view_eq _)))).granted
        · exact next_related e (loaded _ _).granted
      · cases e
    · exact next_related e (AllKept.refl _).granted
  | journalScan o f =>
    simp only [exec, execJournalScan] at e
    split at e
    · split at e
      · exact next_related e (AllKept.trans (setMem_only _ _).allKept (.of_view_eq (runScan_view_eq _ _))).granted
      · cases e
    · exact next_related e (AllKept.refl _).granted
  | listenEnd =>
    simp only [exec, execListenEnd] at e
    split at e
    · rename_i listen
      exact next_related e (enterRun_allKept (still (by simp [listen.1]))).granted
    · exact next_related e (AllKept.refl _).granted
  | lift h =>
    simp only [exec, execLift] at e
    split at e
    · exact next_related e (AllKept.refl _).granted
    · split at e
      · rename_i idle
        exact next_related e (startCycle_allKept (by rw [idle]; rfl)).granted
      · exact next_related e (AllKept.of_view_eq fun k => setHose_view_eq k).granted
  | hang h =>
    simp only [exec, execHang] at e
    split at e
    · exact next_related e (AllKept.refl _).granted
    · exact next_related e (AllKept.trans (.of_view_eq fun k => setHose_view_eq k) (hang_allKept _ _)).granted
  | liftWaitExpiry h =>
    simp only [exec, execLiftWaitExpiry] at e
    split at e
    · rename_i identifying
      have notLive : (s.hose h).state.live = false := by rw [identifying.1]; rfl
      exact next_related e ((leaveIdentifying_allKept notLive rfl).trans
        (refuse_allKept _ (by simp [State.leaveIdentifying, HoseState.live]))).granted
    · exact next_related e (AllKept.refl _).granted
  | noFlowExpiry h =>
    simp only [exec, execNoFlowExpiry] at e
    split at e
    · exact next_related e (endDelivery_allKept _ _ _).granted
    · exact next_related e (AllKept.refl _).granted
  | stallExpiry h =>
    simp only [exec, execStallExpiry] at e
    split at e
    · exact next_related e (endDelivery_allKept _ _ _).granted
    · exact next_related e (AllKept.refl _).granted
  | tagLossExpiry h =>
    simp only [exec, execTagLossExpiry] at e
    split at e
    · exact next_related e (endDelivery_allKept _ _ _).granted
    · exact next_related e (AllKept.refl _).granted
  | settleExpiry h =>
    simp only [exec, execSettleExpiry] at e
    split at e
    · exact next_related e (AllKept.refl _).granted
    · rename_i hd
      split at e
      · rename_i closing
        exact next_related e (settleEnd_allKept closing.1 hd).granted
      · exact next_related e (AllKept.refl _).granted
  | channelEdge h ch l =>
    simp only [exec, execChannelEdge] at e
    split at e
    · exact next_related e (AllKept.refl _).granted
    · exact next_related e (takeEdge_allKept _ _ _ _).granted
  | readerBlock h n a b => exact next_related e (readerAnswer_allGranted _ _ _ _)
  | readerWritten h n a => exact next_related e (readerAnswer_allGranted _ _ _ _)
  | readerPresent h n a => exact next_related e (readerAnswer_allGranted _ _ _ _)
  | readerNoTag h n => exact next_related e (readerAnswer_allGranted _ _ _ _)
  | readerFault h n => exact next_related e (readerAnswer_allGranted _ _ _ _)
  | readerWindowExpiry h =>
    simp only [exec, execReaderWindowExpiry] at e
    split at e
    · exact next_related e (endAttempt_allGranted _ _ _ _)
    · exact next_related e (AllKept.refl _).granted
  | stopKey h pressed =>
    simp only [exec, execStopKey] at e
    split at e
    · exact next_related e (AllKept.refl _).granted
    · split at e
      · exact next_related e (AllKept.trans (setPanel_only _ _).allKept (endDelivery_allKept _ _ _)).granted
      · exact next_related e (setPanel_only _ _).allKept.granted
  | clearKey pressed =>
    simp only [exec, execClearKey] at e
    split at e
    · exact next_related e (AllKept.refl _).granted
    · split at e
      · exact next_related e (AllKept.trans (setPanel_only _ _).allKept (clearPress_allKept _)).granted
      · exact next_related e (setPanel_only _ _).allKept.granted
  | emergencyStopActive =>
    exact next_related e (AllKept.trans (setPanel_only _ _).allKept
      ((endDelivery_allKept _ _ _).trans (endDelivery_allKept _ _ _))).granted
  | issueFrame x => exact next_related e (receive_allKept _ _ _).granted
  | serviceFrame x => exact next_related e (receive_allKept _ _ _).granted
  | vehicleNoticeFrame x => exact next_related e (receive_allKept _ _ _).granted
  | classNoticeFrame x => exact next_related e (receive_allKept _ _ _).granted
  | appendComplete =>
    simp only [exec, execAppendComplete] at e
    have written (k : Side) : AllKept s ((s.writeOpen k .clear).endClaim) :=
      ((writeOpen_only _ _ _).next (bs := [.mem, .journal]) (setJournal_only _ _)).allKept
    split at e
    · split at e
      · split at e
        · exact next_related e ((written _).trans (appendDone_allKept _ _ _)).granted
        · exact next_related e (AllKept.refl _).granted
      · split at e
        · exact next_related e (appendDone_allKept _ _ _).granted
        · exact next_related e (AllKept.trans (setMem_only _ _).allKept (appendDone_allKept _ _ _)).granted
    · exact next_related e (AllKept.refl _).granted
  | headerWriteComplete =>
    simp only [exec, execHeaderWriteComplete] at e
    split at e
    · exact next_related e (AllKept.trans
        ((setMem_only _ _).next (bs := [.mem, .journal, .classes]) (afterService_only _)).allKept
        (.of_view_eq (endScan_view_eq _))).granted
    · exact next_related e (AllKept.refl _).granted
  | scanTimerExpiry =>
    simp only [exec, execScanTimerExpiry] at e
    split at e
    · exact next_related e (AllKept.of_view_eq (startScan_view_eq _)).granted
    · exact next_related e (AllKept.refl _).granted
  | converterResponse n ch code =>
    simp only [exec, execConverterResponse] at e
    split at e
    · split at e
      · exact next_related e (AllKept.refl _).granted
      · split at e
        · exact next_related e (goodResponse_allKept _ _ _ _).granted
        · exact next_related e (AllKept.refl _).granted
    · exact next_related e (AllKept.refl _).granted
  | failedStockTest =>
    simp only [exec, execFailedStockTest] at e
    split at e
    · exact next_related e (AllKept.of_view_eq (testStock_view_eq _)).granted
    · exact next_related e (AllKept.refl _).granted
  | _ =>
    exact ((exec_only e).allKept (by simp [touched]) (by simp [touched]) (by simp [touched])).granted

/-- One step keeps R91, R5 and R101, and raises no target of a live delivery. -/
theorem step_allGranted {s t : State} (r : s.reservationsOk) (e : step s = .next t) : AllGranted s t := by
  unfold step at e
  split at e
  · refine next_related e (AllKept.of_view_eq fun k => ?_).granted
    unfold State.tick
    split <;> rfl
  · rename_i c rest _
    exact exec_allGranted (s := { s with pending := rest }) r e

/-- Settles O8: no operation leaves a hose outside AUTHORISED, FLOWING and SLOWING with its valves open. -/
theorem valvesKept : Obligations.ValvesKept := fun _ _ r v e h => (step_allGranted r e h).valves (v h)

theorem targetsOk_iff (s : State) : s.targetsOk ↔ ∀ h, (s.view h).drawn :=
  forall_congr' fun h => (view_drawn_iff s h).symm

/-- Every step keeps R101, and no target rises while its delivery is live. -/
theorem step_targets {s t : State} (r : s.reservationsOk) (v : s.targetsOk) (e : step s = .next t) :
    t.targetsOk ∧ ∀ h d d', (s.hose h).state.live = true → (t.hose h).state.live = true →
      (s.hose h).delivery = some d → (t.hose h).delivery = some d' → d'.target ≤ d.target := by
  have granted := step_allGranted r e
  have reserved (h : Side) : (s.view h).reserved := (view_reserved_iff s h).2 (r h).1
  have drawn := (targetsOk_iff s).1 v
  refine ⟨(targetsOk_iff t).2 fun h => (granted h).drawn (reserved h) (drawn h), fun h d d' live live' hd hd' => ?_⟩
  obtain rise | dead := (granted h).rise (reserved h) (drawn h)
  · obtain ⟨-, below⟩ := rise live'
    obtain ⟨q, hq, le⟩ := below d'.terms (by simp [State.view, hd'])
    obtain rfl : d.terms = q := by simpa [State.view, hd] using hq
    exact le
  · exact absurd live (by rw [show (s.hose h).state.live = false from dead]; simp)

/-! ### The backoff window -/

/-- A change that keeps the backoff window in the range of R127. -/
def WindowKept (s t : State) : Prop := s.windowOk → t.windowOk

theorem WindowKept.refl (s : State) : WindowKept s s := id

theorem WindowKept.trans {s t u : State} (a : WindowKept s t) (b : WindowKept t u) : WindowKept s u := b ∘ a

theorem WindowKept.of_window_eq {s t : State} (e : t.line.window = s.line.window := by rfl) :
    WindowKept s t := fun w => by
  unfold State.windowOk
  rw [e]
  exact w

theorem Only.windowKept {s t : State} {bs : List Block} (e : Only bs s t) (m : Block.line ∉ bs := by decide) :
    WindowKept s t := .of_window_eq (by rw [e.line_eq m])

theorem setLine_windowKept {s : State} {l : SiteLine} (e : l.window = s.line.window := by rfl) :
    WindowKept s (s.setLine l) := .of_window_eq e

theorem windowFor_range (n : Nat) : 4 ≤ windowFor n ∧ windowFor n ≤ 512 := by
  unfold windowFor
  omega

theorem chooseNext_windowKept (s : State) : WindowKept s s.chooseNext := by
  intro w
  unfold State.chooseNext SiteLine.choose
  split
  · exact windowFor_range _
  · split
    · exact windowFor_range _
    · exact w

theorem trySend_windowKept (s : State) : WindowKept s s.trySend := by
  unfold State.trySend
  split
  · exact chooseNext_windowKept s
  · exact .refl _

theorem collide_windowKept (s : State) (now : Nat) : WindowKept s (s.setLine (s.line.collide now)) := by
  intro w
  unfold State.windowOk at w ⊢
  have window : (s.line.collide now).window = min (2 * s.line.window) 512 := by
    unfold SiteLine.collide
    dsimp only
    split <;> rfl
  rw [State.setLine_line, window]
  omega

theorem sendAtZero_windowKept (s : State) : WindowKept s s.sendAtZero := by
  unfold State.sendAtZero
  split
  · exact setLine_windowKept
  · exact .refl _

theorem guardPassed_windowKept (s : State) : WindowKept s s.guardPassed := by
  unfold State.guardPassed
  split
  · exact WindowKept.trans setLine_windowKept (sendAtZero_windowKept _)
  · exact WindowKept.trans (.of_window_eq) (sendAtZero_windowKept _)

theorem cleanEnd_windowKept (s : State) : WindowKept s s.cleanEnd := by
  unfold State.cleanEnd
  split
  · exact WindowKept.trans setLine_windowKept ((recordSent_only _).windowKept.trans
      ((chooseNext_windowKept _).trans (requestSendRead_only _).windowKept))
  · exact WindowKept.trans (.of_window_eq) (chooseNext_windowKept _)
  · exact .refl _

theorem sendReadDone_windowKept (s : State) (pos : Nat) (x : Option RingSlot) :
    WindowKept s (s.sendReadDone pos x) := by
  unfold State.sendReadDone
  dsimp only
  split
  · split
    · exact WindowKept.trans setLine_windowKept (setJournal_only _ _).windowKept
    · exact WindowKept.trans (setJournal_only _ _).windowKept (passOver_only _).windowKept
  · exact WindowKept.trans (setJournal_only _ _).windowKept (passOver_only _).windowKept

theorem readEnded_windowKept (s : State) (pos : Nat) (x : Option RingSlot) :
    WindowKept s ((s.sendReadDone pos x).afterService).trySend :=
  (sendReadDone_windowKept _ _ _).trans ((afterService_only _).windowKept.trans (trySend_windowKept _))

theorem enterConfigFault_windowKept (s : State) (r : ConfigFaultReason) (n : Nat) :
    WindowKept s (s.enterConfigFault r n) := .of_window_eq

theorem operationFails_windowKept (s : State) : WindowKept s s.operationFails := by
  unfold State.operationFails
  split
  · split
    · exact .of_window_eq
    · exact .of_window_eq
  · split
    · exact .refl _
    · exact readEnded_windowKept _ _ _
    · exact .of_window_eq

theorem mergeTime_window (l : SiteLine) (b : BeaconBody) : (l.mergeTime b).window = l.window := by
  unfold SiteLine.mergeTime
  split
  · rfl
  · split <;> rfl

theorem dispatch_line (s : State) (f : SiteFrame) : (s.dispatch f).line = s.line := by
  have authorised {g : State → State} {o : Nat} (e : (g s).line = s.line) : (s.ifAuthorised o g).line = s.line := by
    unfold State.ifAuthorised
    split
    · exact e
    · exact (countUnauthorised_only _).line_eq
  unfold State.dispatch
  split
  · exact (takeIssue_only _ _ _).line_eq
  · exact authorised (takeService_only _ _ _ _ _).line_eq
  · exact authorised (takeVehicleNotice_only _ _ _).line_eq
  · exact authorised (takeClassNotice_only _ _ _).line_eq
  · rfl

theorem hearBeacon_window (l : SiteLine) (f : SiteFrame) (b : BeaconBody) (now : Nat) :
    (l.hearBeacon f b now).window = l.window := rfl

/-- Hearing a beacon and merging its time leaves the backoff window as it was. -/
theorem heardBeacon_window (l : SiteLine) (f : SiteFrame) (b : BeaconBody) (now : Nat) :
    ((l.hearBeacon f b now).mergeTime b).window = l.window := by
  rw [mergeTime_window, hearBeacon_window]

theorem takeBeacon_windowKept (s : State) (f : SiteFrame) : WindowKept s (s.takeBeacon f) := by
  unfold State.takeBeacon
  dsimp only
  refine WindowKept.trans (setLine_windowKept (heardBeacon_window s.line f (decodeBeacon f.body) s.elapsed))
    ((beaconItem_only _ _).windowKept.trans (trySend_windowKept _))

theorem takeRecordFrame_windowKept (s : State) (f : SiteFrame) : WindowKept s (s.takeRecordFrame f) := by
  have heard : WindowKept s (s.setLine (s.line.hear f s.elapsed)) := setLine_windowKept
  have dispatched (u : State) : WindowKept u (u.dispatch f) := .of_window_eq (by rw [dispatch_line])
  unfold State.takeRecordFrame
  dsimp only
  split
  · exact heard.trans (trySend_windowKept _)
  · exact heard.trans (WindowKept.trans setLine_windowKept ((heardItem_only _ _).windowKept.trans
      ((dispatched _).trans (trySend_windowKept _))))

theorem takeFrame_windowKept (s : State) (f : SiteFrame) : WindowKept s (s.takeFrame f) := by
  unfold State.takeFrame
  split
  · unfold State.takeOwnNumber
    split
    · exact .refl _
    · exact setLine_windowKept
  · split
    · exact takeBeacon_windowKept _ _
    · exact takeRecordFrame_windowKept _ _

theorem handOver_windowKept (s : State) (k : Kind) (f : SiteFrame) : WindowKept s (s.handOver k f) := by
  unfold State.handOver
  split
  · exact takeFrame_windowKept _ _
  · split
    · unfold State.takeBeaconInFault
      dsimp only
      split
      · exact setLine_windowKept (mergeTime_window _ _)
      · exact setLine_windowKept
    · exact .refl _

theorem countBadFrame_windowKept (s : State) : WindowKept s s.countBadFrame := by
  unfold State.countBadFrame
  split
  · exact setLine_windowKept
  · exact .refl _

theorem setReceiver_windowKept (s : State) (bytes : List Byte) (skipping : Bool) :
    WindowKept s (s.setReceiver bytes skipping) := .of_window_eq

theorem receive_windowKept (s : State) (k : Kind) (x : LineBytes) : WindowKept s (s.receive k x) := by
  refine hearBytes_related WindowKept.refl WindowKept.trans setReceiver_windowKept countBadFrame_windowKept
    (fun u f t e => ?_) s x
  obtain ⟨x, -, rfl⟩ := Option.map_eq_some_iff.1 e
  exact handOver_windowKept _ _ _

theorem gapPassed_windowKept (s : State) : WindowKept s s.gapPassed := by
  unfold State.gapPassed
  split
  · exact setReceiver_windowKept _ _ _
  · exact (setReceiver_windowKept _ _ _).trans (countBadFrame_windowKept _)

theorem endScan_windowKept (s : State) : WindowKept s s.endScan := by
  unfold State.endScan
  split
  · exact .refl _
  · split
    · exact WindowKept.trans (.of_window_eq) (enterListen_only _).windowKept
    · exact .refl _

theorem runScan_windowKept (s : State) (failed : ScanFailures) : WindowKept s (s.runScan failed) := by
  unfold State.runScan
  split
  · refine WindowKept.trans ?_ (endScan_windowKept _)
    split
    · exact (scanRing_only _ _ _).windowKept
    · exact (formatJournal_only _ _ _).windowKept
  · exact (formatJournal_only _ _ _).windowKept.trans (endScan_windowKept _)

theorem startWith_windowKept (s : State) (c : Cause) (a b : Bool) : WindowKept s (s.startWith c a b) := by
  intro _
  have window : (s.startWith c a b).line.window = 4 := by
    show (s.tearWrite.line.atStart c).window = 4
    unfold SiteLine.atStart
    split <;> rfl
  unfold State.windowOk
  omega

end Sys2Proof.Machine

namespace Sys2Proof.Machine

set_option Elab.async false

/-! ### The backoff window through the commands -/

theorem judgeConfig_windowKept (s : State) : WindowKept s s.judgeConfig := by
  unfold State.judgeConfig
  dsimp only
  split
  · exact enterConfigFault_windowKept _ _ _
  · exact .of_window_eq

theorem enterRun_windowKept (s : State) : WindowKept s s.enterRun := by
  have released (u : State) (h : Side) : WindowKept u (u.releaseHose h) := (releaseHose_only u h).windowKept
  exact ((setStart_only _ _).windowKept.trans ((released _ _).trans (released _ _))).trans
    (WindowKept.trans setLine_windowKept (trySend_windowKept _))

/-- Every command keeps the backoff window in range: those that touch the line unit set it by the count of
stations heard, double it under its bound, put it back at a start, or leave it. -/
theorem exec_windowKept {c : Instr} {s t : State} (e : exec c s = .next t) : WindowKept s t := by
  cases c with
  | powerStart => exact next_related e (startWith_windowKept _ _ _ _)
  | supplyDip => exact next_related e (startWith_windowKept _ _ _ _)
  | resetLine => exact next_related e (startWith_windowKept _ _ _ _)
  | configAreaRead o f =>
    simp only [exec, execConfigAreaRead] at e
    split at e
    · split at e
      · exact next_related e (enterConfigFault_windowKept _ _ _)
      · split at e
        · exact next_related e ((setMem_only _ _).windowKept.trans (judgeConfig_windowKept _))
        · cases e
    · exact next_related e (.refl _)
  | journalScan o f =>
    simp only [exec, execJournalScan] at e
    split at e
    · split at e
      · exact next_related e (WindowKept.trans (setMem_only _ _).windowKept (runScan_windowKept _ _))
      · cases e
    · exact next_related e (.refl _)
  | listenEnd =>
    simp only [exec, execListenEnd] at e
    split at e
    · exact next_related e (enterRun_windowKept _)
    · exact next_related e (.refl _)
  | issueFrame x => exact next_related e (receive_windowKept _ _ _)
  | serviceFrame x => exact next_related e (receive_windowKept _ _ _)
  | vehicleNoticeFrame x => exact next_related e (receive_windowKept _ _ _)
  | classNoticeFrame x => exact next_related e (receive_windowKept _ _ _)
  | beaconFrame x => exact next_related e (receive_windowKept _ _ _)
  | badFrame x =>
    exact next_related e (hearBytes_related WindowKept.refl WindowKept.trans setReceiver_windowKept
      countBadFrame_windowKept (fun _ _ _ h => by cases h) s x)
  | receiveGap =>
    simp only [exec, execReceiveGap] at e
    split at e
    · exact next_related e (gapPassed_windowKept _)
    · exact next_related e (.refl _)
  | peerStale n => exact next_related e setLine_windowKept
  | carrier =>
    simp only [exec, execCarrier] at e
    split at e
    · exact next_related e setLine_windowKept
    · exact next_related e (.refl _)
  | guardTimePassed =>
    simp only [exec, execGuardTimePassed] at e
    split at e
    · exact next_related e (guardPassed_windowKept _)
    · exact next_related e (.refl _)
  | slotCounted =>
    simp only [exec, execSlotCounted] at e
    split at e
    · exact next_related e (WindowKept.trans setLine_windowKept (sendAtZero_windowKept _))
    · exact next_related e (.refl _)
  | readBackCollision =>
    simp only [exec, execReadBackCollision] at e
    split at e
    · exact next_related e (collide_windowKept _ _)
    · exact next_related e (.refl _)
  | cleanReadBack =>
    simp only [exec, execCleanReadBack] at e
    split at e
    · exact next_related e (cleanEnd_windowKept _)
    · exact next_related e (.refl _)
  | congestionExpiry =>
    simp only [exec, execCongestionExpiry] at e
    split at e
    · exact next_related e (WindowKept.trans setLine_windowKept (chooseNext_windowKept _))
    · exact next_related e (.refl _)
  | beaconTimerExpiry =>
    simp only [exec, execBeaconTimerExpiry] at e
    split at e
    · exact next_related e (WindowKept.trans setLine_windowKept (trySend_windowKept _))
    · exact next_related e (.refl _)
  | headerWriteComplete =>
    simp only [exec, execHeaderWriteComplete] at e
    split at e
    · exact next_related e (WindowKept.trans
        ((setMem_only _ _).windowKept.trans (afterService_only _).windowKept) (endScan_windowKept _))
    · exact next_related e (.refl _)
  | sendReadComplete o =>
    simp only [exec, execSendReadComplete] at e
    split at e
    · split at e
      · exact next_related e ((setMem_only _ _).windowKept.trans (readEnded_windowKept _ _ _))
      · cases e
    · exact next_related e (.refl _)
  | memoryOpFailed => exact next_related e (operationFails_windowKept _)
  | memoryOpTimeout => exact next_related e (operationFails_windowKept _)
  | setTime x =>
    refine next_related e ?_
    have set (u : State) (n : Nat) : WindowKept u (u.setSiteTime n) := by
      unfold State.setSiteTime
      split
      · exact (reply_only _ _).windowKept
      · exact WindowKept.trans setLine_windowKept (reply_only _ _).windowKept
    unfold State.hearSubmission
    split
    · split
      · exact .refl _
      · split
        · rename_i taken
          obtain ⟨n, -, rfl⟩ := Option.map_eq_some_iff.1 taken
          exact (takeInHand_only _ _).windowKept.trans (set _ _)
        · split
          · exact .refl _
          · exact (takeInHand_only _ _).windowKept.trans (reply_only _ _).windowKept
    · exact .refl _
  | readOnlyPassEnd o f =>
    simp only [exec, execReadOnlyPassEnd] at e
    split at e
    · split at e
      · exact next_related e ((setMem_only _ _).windowKept.trans setLine_windowKept)
      · cases e
    · exact next_related e (.refl _)
  | _ => exact (exec_only e).windowKept (by simp [touched])

/-- Every step keeps the backoff window between 4 and 512 slots (R127). -/
theorem step_windowKept {s t : State} (e : step s = .next t) : WindowKept s t := by
  unfold step at e
  split at e
  · refine next_related e (.of_window_eq ?_)
    unfold State.tick
    split
    · rfl
    · dsimp only
      split <;> rfl
  · rename_i c rest _
    exact exec_windowKept (s := { s with pending := rest }) e

end Sys2Proof.Machine

namespace Sys2Proof.Machine

set_option Elab.async false

/-! ### Tighter frames of the delivery cycle -/

theorem startStall_only (s : State) (h : Side) : Only [.hoses] s (s.startStall h) := setHose_only _ _ _

theorem journalStep_frame (s : State) (h : Side) (d : Delivery) (n : Nat) :
    Only [.hoses, .tags, .reservations, .journal, .classes, .fleet] s (s.journalStep h d n) :=
  Only.next (b1 := [.hoses, .journal, .classes, .fleet, .reservations])
    (Only.next (b1 := [.hoses, .journal, .classes]) ((setDelivery_only s _ _).next (requestProgress_only _ _ _))
      (ownAbsorb_only _ _ _ _)) (setTag_only _ _ _)

theorem actOnCompares_frame (s : State) (h : Side) (d : Delivery) (n : Nat) :
    Only endBlocks s (s.actOnCompares h d n) := by
  unfold State.actOnCompares
  dsimp only
  split
  · exact endDelivery_only _ _ _
  · split
    · exact (setHose_only _ _ _).mono
    · exact Only.refl _ _

theorem flowUpdate_frame (s : State) (h : Side) (b : Bool) :
    Only (.fleet :: .classes :: endBlocks) s (s.flowUpdate h b) := by
  obtain ⟨s1, rfl, ⟨-, eq⟩ | ⟨d, s2, -, rfl, eq⟩⟩ := flowUpdate_cases s h b
  all_goals
    have stall : Only [.hoses] s (if b then s.startStall h else s) := by
      split
      · exact startStall_only _ _
      · exact Only.refl _ _
    rw [eq]
  · exact stall.mono
  · generalize (if b then s.startStall h else s) = s1 at stall ⊢
    have stepped : Only [.hoses, .tags, .reservations, .journal, .classes, .fleet] s1
        (if s1.stepDue d (s1.meter h).lastNet then s1.journalStep h d (s1.meter h).lastNet else s1) := by
      split
      · exact journalStep_frame _ _ _ _
      · exact Only.refl _ _
    exact Only.next (b1 := [.hoses, .tags, .reservations, .journal, .classes, .fleet]) (stall.next stepped)
      (actOnCompares_frame _ _ _ _)

theorem mergeTag_frame {s t : State} {h : Side} {i : Identity} {c : Option Carry} (e : s.mergeTag h i c = some t) :
    Only recordBlocks s t := by
  unfold State.mergeTag at e
  split at e
  · cases e
    exact Only.next (b1 := [.fleet, .hoses]) (((setEntry_only s _).trans (countLate_only _ _)).next
      (setHose_only _ _ _)) (reportOther_only _ _ _)
  · obtain ⟨s1, made, rfl⟩ := Option.map_eq_some_iff.mp e
    exact (addEntry_only made).next (setHose_only _ _ _)

/-! ### The ranges of the meter units -/

/-- A change that keeps each meter unit within the ranges of R29. -/
def MetersKept (s t : State) : Prop := ∀ k, (s.meter k).inRange → (t.meter k).inRange

theorem MetersKept.refl (s : State) : MetersKept s s := fun _ => id

theorem MetersKept.trans {s t u : State} (a : MetersKept s t) (b : MetersKept t u) : MetersKept s u :=
  fun k => b k ∘ a k

theorem Only.metersKept {s t : State} {bs : List Block} (e : Only bs s t) (m : Block.meters ∉ bs := by decide) :
    MetersKept s t := fun k r => by rw [e.meter_eq k m]; exact r

theorem setMeter_metersKept {s : State} {h : Side} {x : Meter} (e : (s.meter h).inRange → x.inRange) :
    MetersKept s (s.setMeter h x) := by
  intro k r
  obtain rfl | rfl := h.eq_or_other k
  · rw [State.setMeter_meter_self]
    exact e r
  · rw [State.setMeter_meter_other]
    exact r

theorem clear_inRange {m : Meter} (r : m.inRange) : m.clear.inRange := ⟨Nat.zero_le _, Nat.zero_le _, r.2.2⟩

theorem reset_inRange : Meter.reset.inRange := ⟨Nat.zero_le _, Nat.zero_le _, Nat.zero_le _⟩

theorem countUp_le (n : Nat) : countUp n ≤ countMax := by
  unfold countUp satAdd
  omega

theorem countFault_inRange {m : Meter} (r : m.inRange) : m.countFault.inRange := ⟨r.1, countUp_le _, countUp_le _⟩

theorem record_inRange {m : Meter} (ch : Channel) (l : Bool) (r : m.inRange) : (m.record ch l).inRange := by
  cases ch <;> exact r

theorem edge_inRange {m : Meter} (ch : Channel) (l : Bool) (r : m.inRange) : (m.edge ch l).inRange := by
  have recorded := record_inRange ch l r
  have pulses : m.pulses ≤ Config.pulseMax := r.1
  unfold Meter.edge
  dsimp only
  split
  · exact recorded
  · exact countFault_inRange recorded
  · exact ⟨Nat.min_le_left _ _, recorded.2⟩
  · split
    · exact countFault_inRange recorded
    · exact ⟨(Nat.sub_le _ _).trans pulses, recorded.2⟩

theorem valveLeak_metersKept (s : State) (h : Side) : MetersKept s (s.valveLeak h) := by
  unfold State.valveLeak
  dsimp only
  split
  · exact (setMeter_metersKept clear_inRange).trans (Only.metersKept (bs := [.hoses, .tags, .notice])
      (((setHose_only _ _ _).next (bs := [.hoses, .tags]) (setTag_only _ _ _)).next (hoseItem_only _ _)))
  · exact (setMeter_metersKept clear_inRange).trans (Only.metersKept (bs := [.hoses, .notice])
      ((setHose_only _ _ _).next (hoseItem_only _ _)))

theorem meterUpdate_metersKept (s : State) (h : Side) (b : Bool) : MetersKept s (s.meterUpdate h b) := by
  have flow (u : State) (b : Bool) : MetersKept u (u.flowUpdate h b) := (flowUpdate_frame u h b).metersKept
  unfold State.meterUpdate
  dsimp only
  refine (markUncompensated_only s h).metersKept.trans ?_
  split
  · split
    · exact (startFlow_only _ _).metersKept.trans (flow _ _)
    · exact .refl _
  · exact flow _ _
  · exact flow _ _
  · split
    · exact valveLeak_metersKept _ _
    · exact .refl _

theorem reportFaults_metersKept (s : State) (h : Side) : MetersKept s (s.reportFaults h) := by
  unfold State.reportFaults
  dsimp only
  split
  · exact (setMeter_metersKept (h := h) (x := { s.meter h with faultReported := true }) id).trans
      (meterFault_only _ _).metersKept
  · exact .refl _

theorem recomputeGross_metersKept (s : State) (h : Side) : MetersKept s (s.recomputeGross h) := by
  unfold State.recomputeGross
  dsimp only
  split
  · refine MetersKept.trans (setMeter_metersKept ?_) (MetersKept.trans (setMeter_metersKept ?_)
      (meterUpdate_metersKept _ _ _))
    · exact id
    · exact id
  · exact .refl _

theorem takeEdge_metersKept (s : State) (h : Side) (ch : Channel) (l : Bool) : MetersKept s (s.takeEdge h ch l) := by
  have counted : MetersKept s (s.setMeter h ((s.meter h).edge ch l)) := setMeter_metersKept (edge_inRange ch l)
  unfold State.takeEdge
  dsimp only
  generalize s.setMeter h ((s.meter h).edge ch l) = s1 at counted ⊢
  split
  · split
    · exact counted.trans ((reportFaults_metersKept _ _).trans (recomputeGross_metersKept _ _))
    · exact counted.trans (recomputeGross_metersKept _ _)
  · split
    · exact counted.trans (reportFaults_metersKept _ _)
    · exact counted

theorem settleEnd_metersKept (s : State) (h : Side) (d : Delivery) : MetersKept s (s.settleEnd h d) := by
  have absorbed : Only [.hoses, .fleet, .reservations] s (s.absorbedFinal h d) :=
    (setDelivery_only _ _ _).next (ownAbsorb_only _ _ _ _)
  have released : MetersKept s (s.released h d) :=
    absorbed.metersKept.trans ((requestFinal_only _ _ _).metersKept.trans ((setReservation_only _ _ _).metersKept.trans
      (setMeter_metersKept fun r => by
        rw [State.setReservation_meter, (requestFinal_only _ _ _).meter_eq] at r
        exact clear_inRange r)))
  rw [settleEnd_eq]
  refine MetersKept.trans ?_ (afterSettle_only _ _ _).metersKept
  unfold State.settled
  split
  · exact released.trans (setHose_only _ _ _).metersKept
  · exact released.trans ((setHose_only _ _ _).metersKept.trans (hoseItem_only _ _).metersKept)

theorem clearFault_metersKept (s : State) (h : Side) : MetersKept s (s.clearFault h) := by
  unfold State.clearFault
  dsimp only
  split
  · exact (setMeter_metersKept clear_inRange).trans ((setHose_only _ _ _).metersKept.trans
      (hoseItem_only _ _).metersKept)
  · exact .refl _

theorem clearPress_metersKept (s : State) : MetersKept s s.clearPress := by
  have cleared : MetersKept s (if s.inRun then (s.clearFault .one).clearFault .two else s) := by
    split
    · exact (clearFault_metersKept _ _).trans (clearFault_metersKept _ _)
    · exact .refl _
  unfold State.clearPress
  dsimp only
  generalize (if s.inRun then (s.clearFault .one).clearFault .two else s) = s1 at cleared ⊢
  split
  · exact cleared.trans (clearScan_only _).metersKept
  · exact cleared

/-! ### The meter units through a reader's answer -/

theorem judge_metersKept (s : State) (h : Side) (c : Candidate) : MetersKept s (s.judge h c) := by
  unfold State.judge
  split
  · exact (refuse_only _ _ _).metersKept
  · unfold State.grant
    dsimp only
    have before : MetersKept s ((((s.setJournal { s.journal with claims := s.journal.claims + 1 }).takeSequence
        ).setReservation h (some (s.grantReservation h c))).setHose h (s.grantHose h c)) :=
      (setJournal_only _ _).metersKept.trans ((takeSequence_only _).metersKept.trans
        ((setReservation_only _ _ _).metersKept.trans (setHose_only _ _ _).metersKept))
    have same : ((((s.setJournal { s.journal with claims := s.journal.claims + 1 }).takeSequence
        ).setReservation h (some (s.grantReservation h c))).setHose h (s.grantHose h c)).meter h = s.meter h := by
      simp [(takeSequence_only _).meter_eq]
    exact before.trans ((setMeter_metersKept fun r => by rw [same] at r; exact clear_inRange r).trans
      (setTag_only _ _ _).metersKept)

theorem checked_metersKept (s : State) (h : Side) (c : Candidate) : MetersKept s (match s.checkStation h with
    | some r => s.refuse h r
    | none => s.judge h c) := by
  split
  · exact (refuse_only _ _ _).metersKept
  · exact judge_metersKept _ _ _

theorem identified_metersKept (s : State) (h : Side) : MetersKept s (s.identified h) := by
  unfold State.identified
  dsimp only
  split
  · exact .refl _
  · split
    · rename_i merged
      refine (mergeTag_frame merged).metersKept.trans ?_
      unfold State.decideEntry
      split
      · exact .refl _
      · exact (setEntry_only _ _).metersKept.trans
          ((showService_only _ _ _).metersKept.trans (checked_metersKept _ _ _))
    · split
      · exact (setHose_only _ _ _).metersKept.trans ((showService_only _ _ _).metersKept.trans
          (checked_metersKept _ _ _))
      · exact (refuseUnknown_only _ _).metersKept

theorem readsOver_metersKept (s : State) (h : Side) : MetersKept s (s.readsOver h) := by
  unfold State.readsOver
  dsimp only
  split
  · exact (serveTag_only _ _).metersKept.trans (identified_metersKept _ _)
  · exact (serveTag_only _ _).metersKept

theorem exchangeDone_metersKept (s : State) (h : Side) (r : Request) (x : Success) :
    MetersKept s (s.exchangeDone h r x) := by
  unfold State.exchangeDone
  dsimp only
  split
  · exact (setTag_only _ _ _).metersKept.trans ((setHose_only _ _ _).metersKept.trans (askNext_only _ _ _).metersKept)
  · exact ((setTag_only _ _ _).trans (askNext_only _ _ _)).metersKept
  · exact (setTag_only _ _ _).metersKept.trans (readsOver_metersKept _ _)
  · exact ((setTag_only _ _ _).trans (serveTag_only _ _)).metersKept
  · split
    · exact ((setTag_only _ _ _).trans (serveTag_only _ _)).metersKept.trans (writeBackOver_only _ _ _).metersKept
    · exact ((setTag_only _ _ _).trans (serveTag_only _ _)).metersKept

theorem exchangeGivenUp_metersKept (s : State) (h : Side) (r : Request) : MetersKept s (s.exchangeGivenUp h r) := by
  unfold State.exchangeGivenUp
  dsimp only
  split
  · exact ((setTag_only _ _ _).trans (askNext_only _ _ _)).metersKept
  · exact (((setTag_only _ _ _).trans (setTag_only _ _ _)).trans (askNext_only _ _ _)).metersKept
  · exact ((setTag_only _ _ _).trans (setTag_only _ _ _)).metersKept.trans (readsOver_metersKept _ _)
  · exact ((setTag_only _ _ _).trans (serveTag_only _ _)).metersKept
  · exact ((setTag_only _ _ _).trans (serveTag_only _ _)).metersKept.trans (writeBackOver_only _ _ _).metersKept
  · exact ((setTag_only _ _ _).trans (serveTag_only _ _)).metersKept

theorem endAttempt_metersKept (s : State) (h : Side) (x : Exchange) (a : ReaderAnswer) :
    MetersKept s (s.endAttempt h x a) := by
  unfold State.endAttempt
  split
  · split
    · unfold State.attemptEnded
      dsimp only
      refine (pollResult_only s h ((s.tag h).answeredBy a)).metersKept.trans ?_
      split
      · exact exchangeDone_metersKept _ _ _ _
      · split
        · exact (setTag_only _ _ _).metersKept
        · exact exchangeGivenUp_metersKept _ _ _
    · exact .refl _
  · split
    · exact ((setTag_only _ _ _).trans (serveTag_only _ _)).metersKept
    · exact .refl _
  · exact .refl _

theorem readerAnswer_metersKept (s : State) (h : Side) (n : BitVec 8) (a : ReaderAnswer) :
    MetersKept s (s.readerAnswer h n a) := by
  unfold State.readerAnswer
  split
  · exact .refl _
  · split
    · exact endAttempt_metersKept _ _ _ _
    · exact .refl _

/-! ### The meter units through the commands -/

theorem startWith_metersKept (s : State) (c : Cause) (a b : Bool) : MetersKept s (s.startWith c a b) :=
  fun k _ => by cases k <;> exact reset_inRange

theorem leaveHold_metersKept (s : State) (x : LineLevels) : MetersKept s (s.leaveHold x) :=
  fun k r => by cases k <;> exact r

theorem judgeConfig_metersKept (s : State) : MetersKept s s.judgeConfig := by
  have configured {m : Meter} (g : HoseConfig) (r : m.inRange) : (m.configured g).inRange := by
    unfold Meter.configured
    split
    · exact r
    · exact reset_inRange
  unfold State.judgeConfig
  dsimp only
  split
  · exact (enterConfigFault_only _ _ _).metersKept
  · exact fun k r => by cases k <;> exact configured _ r

/-- Every command keeps the meter units in range: an edge counts under the bounds of R29, and what else
touches a unit clears it or puts it back to its reset values. -/
theorem exec_metersKept {c : Instr} {s t : State} (e : exec c s = .next t) : MetersKept s t := by
  cases c with
  | powerStart => exact next_related e (startWith_metersKept _ _ _ _)
  | supplyDip => exact next_related e (startWith_metersKept _ _ _ _)
  | resetLine => exact next_related e (startWith_metersKept _ _ _ _)
  | holdEnd x =>
    simp only [exec, execHoldEnd] at e
    split at e
    · exact next_related e (leaveHold_metersKept _ _)
    · exact next_related e (.refl _)
  | configAreaRead o f =>
    simp only [exec, execConfigAreaRead] at e
    split at e
    · split at e
      · exact next_related e (enterConfigFault_only _ _ _).metersKept
      · split at e
        · exact next_related e ((setMem_only _ _).metersKept.trans (judgeConfig_metersKept _))
        · cases e
    · exact next_related e (.refl _)
  | settleExpiry h =>
    simp only [exec, execSettleExpiry] at e
    split at e
    · exact next_related e (.refl _)
    · split at e
      · exact next_related e (settleEnd_metersKept _ _ _)
      · exact next_related e (.refl _)
  | channelEdge h ch l =>
    simp only [exec, execChannelEdge] at e
    split at e
    · exact next_related e (.refl _)
    · exact next_related e (takeEdge_metersKept _ _ _ _)
  | readerBlock h n a b => exact next_related e (readerAnswer_metersKept _ _ _ _)
  | readerWritten h n a => exact next_related e (readerAnswer_metersKept _ _ _ _)
  | readerPresent h n a => exact next_related e (readerAnswer_metersKept _ _ _ _)
  | readerNoTag h n => exact next_related e (readerAnswer_metersKept _ _ _ _)
  | readerFault h n => exact next_related e (readerAnswer_metersKept _ _ _ _)
  | readerWindowExpiry h =>
    simp only [exec, execReaderWindowExpiry] at e
    split at e
    · exact next_related e (endAttempt_metersKept _ _ _ _)
    · exact next_related e (.refl _)
  | clearKey pressed =>
    simp only [exec, execClearKey] at e
    split at e
    · exact next_related e (.refl _)
    · split at e
      · exact next_related e ((setPanel_only _ _).metersKept.trans (clearPress_metersKept _))
      · exact next_related e (setPanel_only _ _).metersKept
  | _ => exact (exec_only e).metersKept (by simp [touched])

/-- Every step keeps the meter units within the ranges of R29. -/
theorem step_metersKept {s t : State} (e : step s = .next t) : MetersKept s t := by
  unfold step at e
  split at e
  · refine next_related e fun k r => ?_
    unfold State.tick
    split <;> exact r
  · rename_i c rest _
    exact exec_metersKept (s := { s with pending := rest }) e

/-- Settles O5: the backoff window and the meter counts stay in range by the rule of each command that touches
them, and the targets by what a step can do to one side. -/
theorem rangesAndTargetsKept : Obligations.RangesAndTargetsKept :=
  ⟨fun _ _ w e => step_windowKept e w, fun _ _ m e k => step_metersKept e k (m k),
    fun _ _ r v e => step_targets r v e⟩

end Sys2Proof.Machine

namespace Sys2Proof.Machine

set_option Elab.async false

/-! ### The reset state -/

theorem reset_hose (h : Side) : (State.reset.hose h).state = .start ∧ (State.reset.hose h).stage = .closed ∧
    (State.reset.hose h).pump = false := by
  cases h <;> exact ⟨rfl, rfl, rfl⟩

theorem reset_reservation (h : Side) : State.reset.reservation h = none := by cases h <;> rfl

theorem reset_meter (h : Side) : State.reset.meter h = .reset := by cases h <;> rfl

theorem reset_valvesOk : State.reset.valvesOk := fun h _ => (reset_hose h).2

theorem reset_reservationsOk : State.reset.reservationsOk := by
  intro h
  obtain ⟨state, -, -⟩ := reset_hose h
  refine ⟨?_, fun _ => state⟩
  rw [reset_reservation, reservationMatches, state]
  rfl

theorem reset_metersOk : State.reset.metersOk := fun h => by rw [reset_meter]; exact reset_inRange

theorem reset_targetsOk : State.reset.targetsOk := by
  intro h
  obtain ⟨state, -, -⟩ := reset_hose h
  rw [state]
  exact ⟨nofun, nofun⟩

theorem reset_cycleOk (h : Side) : State.reset.cycleOk h := by
  cases h <;> exact ⟨nofun, by decide, by decide, by decide, fun _ _ none => by cases none⟩

theorem reset_claimsOk : State.reset.claimsOk :=
  ⟨reset_cycleOk, by decide, fun _ => ⟨rfl, rfl, rfl⟩, by decide, by decide, by decide,
    fun pending => absurd rfl pending⟩

/-- Settles O3: the reset state meets what every step keeps, block by block. -/
theorem resetInvariants : Obligations.ResetInvariants :=
  ⟨reset_memoryOk, ⟨⟨by decide, by decide⟩, reset_valvesOk, reset_reservationsOk, reset_metersOk⟩, reset_targetsOk,
    reset_claimsOk⟩

end Sys2Proof.Machine

namespace Sys2Proof.Machine

set_option Elab.async false

/-! ### The end of LISTEN (R7, R180) -/

theorem releaseHose_hose_self (s : State) (h : Side) : (s.releaseHose h).hose h =
    if (s.hoseCfg h).present then { s.hose h with state := (s.hose h).hook.rest } else s.hose h := by
  unfold State.releaseHose
  split <;> simp

theorem releaseHose_one_two (s : State) (h : Side) : ((s.releaseHose .one).releaseHose .two).hose h =
    if (s.hoseCfg h).present then { s.hose h with state := (s.hose h).hook.rest } else s.hose h := by
  have cfg : (s.releaseHose .one).hoseCfg = s.hoseCfg := funext fun k => (releaseHose_only s .one).hoseCfg_eq k
  cases h with
  | one => rw [show Side.one = Side.two.other from rfl, releaseHose_hose_other, show Side.two.other = Side.one from rfl,
      releaseHose_hose_self]
  | two => rw [releaseHose_hose_self, cfg, show Side.two = Side.one.other from rfl, releaseHose_hose_other]

theorem enterRun_hose (s : State) (h : Side) : s.enterRun.hose h =
    if (s.hoseCfg h).present then { s.hose h with state := (s.hose h).hook.rest } else s.hose h := by
  have after : s.enterRun.hose h =
      (((s.setStart { s.start with stage := .run, listenTimer := none }).releaseHose .one).releaseHose .two).hose h :=
    (trySend_only _).hose_eq h
  rw [after, releaseHose_one_two]
  rfl

/-- A line unit released with a beacon due: the sender, where it was in IDLE, has chosen the beacon. -/
theorem trySend_beacon {s : State} (free : s.line.held = false) (due : s.line.beaconDue = true) :
    s.trySend.line = if s.line.sender = .idle then s.line.chosen .beacon else s.line := by
  unfold State.trySend SiteLine.choose
  by_cases idle : s.line.sender = .idle <;> simp [idle, free, due]

theorem enterRun_line (s : State) : s.enterRun.line =
    if s.line.sender = .idle then { s.line with held := false, beaconDue := true }.chosen .beacon
    else { s.line with held := false, beaconDue := true } := by
  have released (u : State) (h : Side) : (u.releaseHose h).line = u.line := (releaseHose_only u h).line_eq
  unfold State.enterRun
  dsimp only
  rw [trySend_beacon rfl rfl, State.setLine_line, released, released]
  rfl

theorem enterRun_start (s : State) : s.enterRun.start = { s.start with stage := .run, listenTimer := none } := by
  have released (u : State) (h : Side) : (u.releaseHose h).start = u.start := (releaseHose_only u h).start_eq
  unfold State.enterRun
  dsimp only
  rw [(trySend_only _).start_eq, State.setLine_start, released, released, State.setStart_start]

/-- Settles O17: the end of LISTEN enters RUN, each hose and the sender leaving by their own rules. -/
theorem listenEndsInRun : Obligations.ListenEndsInRun := by
  intro s listen timer
  have line := enterRun_line s
  refine ⟨s.enterRun, by simp [exec, execListenEnd, listen, timer], enterRun_start s, fun h => ?_, ?_, ?_,
    fun idle => ?_, enterRun_only s⟩
  · rw [enterRun_hose]
    cases (s.hose h).hook <;> rfl
  · rw [line]
    split <;> rfl
  · rw [line]
    split <;> rfl
  · rw [line, if_pos idle]
    exact ⟨rfl, rfl, rfl, rfl⟩

end Sys2Proof.Machine

namespace Sys2Proof.Machine

set_option Elab.async false

/-! ### What a tag unit serves (R52, R53) -/

section
variable {u : TagUnit} {now : Nat}

theorem serve_of_busy (busy : u.state ≠ .ready ∨ u.quiet ≠ none) : u.serve now = u := by
  unfold TagUnit.serve
  exact if_neg fun ⟨ready, quiet⟩ => busy.elim (· ready) (· quiet)

theorem serve_writeBack {w : List Byte} (ready : u.state = .ready) (quiet : u.quiet = none)
    (waits : u.waitingWriteBack = some w) :
    u.serve now = ({ u with waitingWriteBack := none } : TagUnit).begin now (.writeBack w) := by
  unfold TagUnit.serve
  rw [if_pos ⟨ready, quiet⟩, waits]

theorem serve_progress {p : List Byte} (ready : u.state = .ready) (quiet : u.quiet = none)
    (noWriteBack : u.waitingWriteBack = none) (waits : u.waitingProgress = some p) :
    u.serve now = ({ u with waitingProgress := none } : TagUnit).begin now (.progress p) := by
  unfold TagUnit.serve
  rw [if_pos ⟨ready, quiet⟩, noWriteBack, waits]

theorem serve_read {k : ReadKind} (ready : u.state = .ready) (quiet : u.quiet = none)
    (noWriteBack : u.waitingWriteBack = none) (noProgress : u.waitingProgress = none)
    (waits : u.waitingRead = some k) :
    u.serve now = ({ u with waitingRead := none } : TagUnit).begin now (.read k) := by
  unfold TagUnit.serve
  rw [if_pos ⟨ready, quiet⟩, noWriteBack, noProgress, waits]

/-- Nothing waits and no poll is due: there is nothing to serve. -/
theorem serve_idle (noWriteBack : u.waitingWriteBack = none) (noProgress : u.waitingProgress = none)
    (noRead : u.waitingRead = none) (noPoll : (u.polling && u.pollDue) = false) : u.serve now = u := by
  unfold TagUnit.serve
  rw [noWriteBack, noProgress, noRead]
  simp [noPoll]

/-- Serving begins an exchange; what the unit knows of the tag stays. -/
theorem serve_knows (u : TagUnit) (now : Nat) : (u.serve now).bound = u.bound ∧ (u.serve now).identity = u.identity ∧
    (u.serve now).hours = u.hours ∧ (u.serve now).carry = u.carry := by
  unfold TagUnit.serve
  split
  · split
    · exact ⟨rfl, rfl, rfl, rfl⟩
    · exact ⟨rfl, rfl, rfl, rfl⟩
    · exact ⟨rfl, rfl, rfl, rfl⟩
    · split <;> exact ⟨rfl, rfl, rfl, rfl⟩
  · exact ⟨rfl, rfl, rfl, rfl⟩

end

/-! ### Lift and hang -/

theorem startCycle_tag (s : State) (h : Side) : (s.startCycle h).tag h = (s.tag h).startCycle s.elapsed :=
  State.setTag_tag_self ..

theorem startCycle_hose (s : State) (h : Side) : (s.startCycle h).hose h = { s.hose h with
    hook := .lifted, state := .identifying, reason := none, serviceShown := none
    liftWait := some (s.elapsed + (s.hoseCfg h).liftWait * 1000) } := by
  simp [State.startCycle]

/-- Settles O20: the tag unit forgets the tag and serves, by its order, the READ IDENTITY now waiting. -/
theorem liftInIdleStartsCycle : Obligations.LiftInIdleStartsCycle := by
  intro h s fitted idle
  let u : TagUnit := { (s.tag h).forget with waitingRead := some .identity }
  have asks : (s.startCycle h).tag h = u.serve s.elapsed := startCycle_tag s h
  obtain ⟨bound, identity, hours, carry⟩ := serve_knows u s.elapsed
  refine ⟨s.startCycle h, by simp [exec, execLift, fitted, idle], startCycle_hose s h, ?_, ?_, ?_, ?_, ?_, ?_, ?_,
    startCycle_otherKept s h, startCycle_only s h⟩
  all_goals rw [asks]
  · exact bound
  · exact identity
  · exact hours
  · exact carry
  · intro ready quiet noWriteBack noProgress
    rw [serve_read (u := u) (k := .identity) ready quiet noWriteBack noProgress rfl]
    exact ⟨rfl, rfl, rfl, rfl, rfl⟩
  · intro w ready quiet ahead
    obtain waits | ⟨noWriteBack, waits⟩ := ahead
    · rw [serve_writeBack (u := u) ready quiet waits, waits]
      exact ⟨rfl, rfl, rfl, rfl, rfl⟩
    · rw [serve_progress (u := u) ready quiet noWriteBack waits, noWriteBack]
      exact ⟨rfl, rfl, rfl, noWriteBack, rfl⟩
  · intro busy
    rw [serve_of_busy (u := u) busy]
    exact ⟨rfl, rfl, rfl⟩

theorem exec_lift_unfitted {h : Side} {s : State} (unfitted : s.unfitted h = true) : exec (.lift h) s = .next s := by
  simp [exec, execLift, unfitted]

theorem exec_hang_unfitted {h : Side} {s : State} (unfitted : s.unfitted h = true) : exec (.hang h) s = .next s := by
  simp [exec, execHang, unfitted]

theorem exec_lift_elsewhere {h : Side} {s : State} (fitted : s.unfitted h = false) (state : (s.hose h).state ≠ .idle) :
    exec (.lift h) s = .next (s.setHose h { s.hose h with hook := .lifted }) := by
  simp [exec, execLift, fitted, state]

theorem exec_hang {h : Side} {s : State} (fitted : s.unfitted h = false) :
    exec (.hang h) s = .next ((s.setHose h { s.hose h with hook := .hung }).hang h) := by
  simp [exec, execHang, fitted]

theorem hose_with_state {x : Hose} {n : HoseState} (e : x.state = n) : x = { x with state := n } := by rw [← e]

/-- A hang where no delivery is live, no identification runs and no write-back is under way. -/
theorem hang_apart {h : Side} {s : State}
    (state : (s.hose h).state = .start ∨ (s.hose h).state = .idle ∨ (s.hose h).state = .recording ∨
      (s.hose h).state = .unarmed ∨ (s.hose h).state = .refused ∨ (s.hose h).state = .closing) :
    (s.hang h).hose h = { s.hose h with
      state := if (s.hose h).state = .unarmed ∨ (s.hose h).state = .refused then .idle else (s.hose h).state
      tagAbsent := if (s.hose h).state = .closing then true else (s.hose h).tagAbsent } ∧
    Only [.hoses] s (s.hang h) := by
  unfold State.hang
  obtain e | e | e | e | e | e := state
  all_goals simp only [e]
  · exact ⟨hose_with_state e, Only.refl _ _⟩
  · exact ⟨hose_with_state e, Only.refl _ _⟩
  · exact ⟨hose_with_state e, Only.refl _ _⟩
  · exact ⟨State.setHose_hose_self .., setHose_only _ _ _⟩
  · exact ⟨State.setHose_hose_self .., setHose_only _ _ _⟩
  · exact ⟨by simp, setHose_only _ _ _⟩

/-- The reads of an identification abandoned (R54). -/
theorem abandon_eq (u : TagUnit) : u.abandon = { u with
    bound := none, identity := none, hours := none, carry := none, waitingRead := none
    state := if u.state = .inFlight then .abandoned else u.state } := by
  unfold TagUnit.abandon
  split <;> rfl

theorem hookHung_otherKept (s : State) (h : Side) : OtherHoseKept h s (s.setHose h { s.hose h with hook := .hung }) :=
  setHose_otherKept _ _ _

theorem leaveIdentifying_hose (s : State) (h : Side) (n : HoseState) : (s.leaveIdentifying h n).hose h =
    { s.hose h with state := n, liftWait := none, pinned := none, standIn := none } := by
  simp [State.leaveIdentifying]

theorem leaveIdentifying_tag (s : State) (h : Side) (n : HoseState) :
    (s.leaveIdentifying h n).tag h = (s.tag h).abandon := State.setTag_tag_self ..

theorem refuse_hose (s : State) (h : Side) (r : RefusalReason) : (s.refuse h r).hose h = { s.hose h with
    state := .refused, reason := some (.refusal r), liftWait := none, pinned := none, standIn := none } := by
  simp [State.refuse]

/-- Settles O21: what a hook event does by the hose's state, and how IDENTIFYING is left. -/
theorem hookOutsideDelivery : Obligations.HookOutsideDelivery := by
  refine ⟨fun h s => ⟨fun unfitted => ⟨exec_lift_unfitted unfitted, exec_hang_unfitted unfitted⟩,
    fun fitted state => ⟨_, exec_lift_elsewhere fitted state, ?_, ?_, ?_⟩, fun fitted state => ?_⟩,
    fun h s identifying => ⟨fun fitted => ⟨_, exec_hang fitted, ?_⟩, fun timer => ?_⟩⟩
  · exact State.setHose_hose_self ..
  · exact setHose_otherKept _ _ _
  · exact setHose_only _ _ _
  · obtain ⟨hose, only⟩ := hang_apart (s := s.setHose h { s.hose h with hook := .hung }) (h := h) (by simpa using state)
    refine ⟨_, exec_hang fitted, by simpa using hose, (hookHung_otherKept s h).trans (hang_otherKept _ _),
      (setHose_only _ _ _).trans only⟩
  · have left : (s.setHose h { s.hose h with hook := .hung }).hang h =
        (s.setHose h { s.hose h with hook := .hung }).leaveIdentifying h .idle := by
      simp [State.hang, identifying]
    rw [left, leaveIdentifying_hose, leaveIdentifying_tag, abandon_eq]
    exact ⟨by simp, rfl, (hookHung_otherKept s h).trans (leaveIdentifying_otherKept _ _ _),
      (setHose_only _ _ _).next (leaveIdentifying_only _ _ _)⟩
  · refine ⟨(s.leaveIdentifying h .identifying).refuse h .tagUnreadable,
      by simp [exec, execLiftWaitExpiry, identifying, timer], ?_, ?_,
      (leaveIdentifying_otherKept _ _ _).trans (refuse_otherKept _ _ _),
      (leaveIdentifying_only _ _ _).next (refuse_only _ _ _)⟩
    · rw [refuse_hose, leaveIdentifying_hose]
    · rw [(refuse_only _ _ _).tag_eq, leaveIdentifying_tag, abandon_eq]

end Sys2Proof.Machine

namespace Sys2Proof.Machine

set_option Elab.async false

/-! ### The causes of R17 and the emergency stop -/

/-- A cause of R17 taken while fuel may pass ends the delivery, after a change that only the hook position and
the panel show. -/
theorem exec_endCause {s : State} {h : Side} {r : EndReason} {c : Instr} (cause : EndCause s h r c)
    (o : (s.hose h).state.open = true) : r ≠ .meterFault ∧ ∃ s1, exec c s = .next (s1.endDelivery h r) ∧
      s1.hose h = { s.hose h with hook := if r = .nozzleHung then .hung else (s.hose h).hook } ∧
      OtherHoseKept h s s1 ∧ Only [.hoses, .panel] s s1 := by
  obtain ⟨rfl, rfl, fitted⟩ | ⟨rfl, rfl, timer⟩ | ⟨rfl, rfl, state, timer⟩ | ⟨rfl, rfl, state, timer⟩ |
    ⟨rfl, rfl, run, released⟩ := cause
  · refine ⟨nofun, s.setHose h { s.hose h with hook := .hung }, ?_, by simp, setHose_otherKept _ _ _,
      (setHose_only _ _ _).mono⟩
    rw [exec_hang fitted]
    have open' : ((s.setHose h { s.hose h with hook := .hung }).hose h).state.open = true := by simpa using o
    generalize s.setHose h { s.hose h with hook := .hung } = s1 at open'
    unfold State.hang
    cases state : (s1.hose h).state <;> simp_all [HoseState.open]
  · exact ⟨nofun, s, by simp [exec, execTagLossExpiry, timer], rfl, .refl _ _, Only.refl _ _⟩
  · exact ⟨nofun, s, by simp [exec, execNoFlowExpiry, state, timer], rfl, .refl _ _, Only.refl _ _⟩
  · have flows : (s.hose h).state = .flowing ∨ (s.hose h).state = .slowing := by
      cases e : (s.hose h).state <;> simp_all [HoseState.open]
    exact ⟨nofun, s, by simp [exec, execStallExpiry, flows, timer], rfl, .refl _ _, Only.refl _ _⟩
  · refine ⟨nofun, s.setPanel { s.panel with stopPressed := s.panel.stopPressed.set h true },
      by simp [exec, execStopKey, run, released, State.inRun], rfl, (setPanel_only _ _).otherKept h,
      (setPanel_only _ _).mono⟩

theorem rest_of_hang (p : Prop) [Decidable p] (x : Hook) :
    (if p then Hook.hung else x).rest = if p ∨ x = .hung then .idle else .unarmed := by
  by_cases hung : p
  · rw [if_pos hung, if_pos (.inl hung)]
    rfl
  · cases x <;> simp [hung, Hook.rest]

/-- Settles O22: each cause of R17 is the end of the delivery by endDelivery. -/
theorem liveDeliveryEnds : Obligations.LiveDeliveryEnds := by
  refine ⟨fun h s c r d cause o e g => ?_, fun h s c r d cause o e g k => ?_⟩
  all_goals
    obtain ⟨noFault, s1, run, hose, other, only⟩ := exec_endCause cause o
    have open1 : (s1.hose h).state.open = true := by rw [hose]; exact o
    have delivery1 : (s1.hose h).delivery = some d := by rw [hose]; exact e
    have ended : s1.endedHose h d r = { s.endedHose h d r with
        hook := if r = .nozzleHung then .hung else (s.hose h).hook } := by
      simp only [State.endedHose, hose, only.tag_eq, only.line_eq]
  · obtain ⟨hose', tag, frame⟩ := endDelivery_closing r open1 delivery1 (by rwa [only.meter_eq])
    refine ⟨_, run, by rw [hose', ended, only.elapsed_eq]; rfl, ?_, ?_, ?_, ?_,
      other.trans (endDelivery_otherKept _ _ _), only.next frame⟩
    all_goals rw [tag]; rfl
  · obtain ⟨hose', tag, reservation, journal⟩ := endDelivery_dropped r open1 delivery1 (by rwa [only.meter_eq]) k
    refine ⟨_, run, ?_, reservation, by rw [journal, only.journal_eq], ?_, ?_,
      other.trans (endDelivery_otherKept _ _ _), only.next (endDelivery_only _ _ _)⟩
    · rw [hose', ended, hose, if_neg noFault, if_neg noFault, if_neg noFault, rest_of_hang]
      rfl
    all_goals rw [tag]; rfl

theorem rest_not_open (x : Hook) : x.rest.open = false := by cases x <;> rfl

/-- The end of a live delivery shuts the valves, stops the pump and shows its reason. -/
theorem endDelivery_shuts {s : State} {h : Side} {r : EndReason} (o : (s.hose h).state.open = true)
    (e : (s.hose h).delivery.isSome = true) (noFault : r ≠ .meterFault) :
    ((s.endDelivery h r).hose h).state.open = false ∧ ((s.endDelivery h r).hose h).reason = some (.ended r) ∧
    ((s.endDelivery h r).hose h).stage = .closed ∧ ((s.endDelivery h r).hose h).pump = false := by
  obtain ⟨d, hd⟩ := Option.isSome_iff_exists.1 e
  by_cases g : 0 < (s.meter h).gross ∨ 1 ≤ d.steps
  · obtain ⟨hose, -, -⟩ := endDelivery_closing r o hd g
    rw [hose]
    exact ⟨rfl, rfl, rfl, rfl⟩
  · obtain ⟨hose, -⟩ := endDelivery_dropped r o hd (by omega) (by omega)
    rw [hose, if_neg noFault, if_neg noFault, if_neg noFault]
    exact ⟨rest_not_open _, rfl, rfl, rfl⟩

/-- The delivery of each hose ended in turn: at each hose as if its own were the only one. -/
theorem endBoth_hose (s : State) (r : EndReason) (h : Side) :
    ∃ u : State, ((s.endDelivery .one r).endDelivery .two r).hose h = (u.endDelivery h r).hose h ∧
      u.hose h = s.hose h := by
  cases h with
  | one => exact ⟨s, (endDelivery_otherKept (s.endDelivery .one r) .two r).1, rfl⟩
  | two => exact ⟨s.endDelivery .one r, rfl, (endDelivery_otherKept s .one r).1⟩

/-- Settles O23: the stop line shuts all outputs by itself, and ends each live delivery by endDelivery. -/
theorem emergencyStopEndsDeliveries : Obligations.EmergencyStopEndsDeliveries := by
  intro s live
  let s1 := s.setPanel { s.panel with emergency := true }
  have frame : Only endBlocks s1 ((s1.endDelivery .one .emergencyStop).endDelivery .two .emergencyStop) :=
    (endDelivery_only _ _ _).trans (endDelivery_only _ _ _)
  have panel := frame.panel_eq
  refine ⟨⟨(s1.endDelivery .one .emergencyStop).endDelivery .two .emergencyStop, rfl, panel, fun h => ?_, fun h => ?_,
    fun h shut => ?_, fun h o => ?_, (setPanel_only _ _).next frame⟩,
    ⟨s.setPanel { s.panel with emergency := false }, rfl, rfl, setPanel_only _ _⟩⟩
  · unfold State.outputs
    rw [panel]
    rfl
  all_goals
    obtain ⟨u, hose, same⟩ := endBoth_hose s1 .emergencyStop h
    rw [hose]
    rw [show s1.hose h = s.hose h from rfl] at same
  · cases o : (s.hose h).state.open with
    | false => rw [endDelivery_of_not_open _ (by rw [same]; exact o), same, o]
    | true =>
      exact (endDelivery_shuts (by rw [same]; exact o) (by rw [same]; exact live h o) (r := .emergencyStop) nofun).1
  · rw [endDelivery_of_not_open _ (by rw [same]; exact shut), same]
  · exact (endDelivery_shuts (by rw [same]; exact o) (by rw [same]; exact live h o) (r := .emergencyStop) nofun).2

end Sys2Proof.Machine

namespace Sys2Proof.Machine

set_option Elab.async false

/-! ### A good response of the converter (R162, R165, R168) -/

/-- The scan unit after a good response to the entry at a position. -/
def State.sampledScan (s : State) (pos : Nat) (code : BitVec 12) : ScanUnit :=
  let u : ScanUnit := { s.scan with
    samples := s.scan.samples.modify pos fun x => x.take code (fun t => (s.tankCfg t).span) s.elapsed
    window := none }
  if pos + 1 < s.scan.list.length then u.request (pos + 1) s.elapsed s.cfg.responseWindow else u.ended

theorem goodResponse_meterTemp {e : ScanEntry} {k : Side} (s : State) (pos : Nat) (code : BitVec 12)
    (purpose : e.purpose = .meterTemp k) : s.goodResponse pos e code = s.setScan (s.sampledScan pos code) := by
  simp only [State.goodResponse, purpose]
  rfl

theorem goodResponse_tankLevel {e : ScanEntry} {k : Side} (s : State) (pos : Nat) (code : BitVec 12)
    (purpose : e.purpose = .tankLevel k) : s.goodResponse pos e code =
      (s.setScan (s.sampledScan pos code)).levelUpdate k (levelOf code.toNat (s.tankCfg k).span) := by
  simp only [State.goodResponse, purpose]
  rfl

theorem sampledScan_samples (s : State) (pos : Nat) (code : BitVec 12) : (s.sampledScan pos code).samples =
    s.scan.samples.modify pos fun x => x.take code (fun t => (s.tankCfg t).span) s.elapsed := by
  unfold State.sampledScan
  dsimp only
  split <;> rfl

theorem sampledScan_list (s : State) (pos : Nat) (code : BitVec 12) : (s.sampledScan pos code).list = s.scan.list := by
  unfold State.sampledScan
  dsimp only
  split <;> rfl

/-- A good response is taken by the sample of its entry alone. -/
theorem sampledScan_sample {s : State} {pos : Nat} {x : Sample} (code : BitVec 12)
    (hx : s.scan.samples[pos]? = some x) :
    (s.sampledScan pos code).samples[pos]? = some (x.take code (fun t => (s.tankCfg t).span) s.elapsed) ∧
    ∀ i, i ≠ pos → (s.sampledScan pos code).samples[i]? = s.scan.samples[i]? := by
  rw [sampledScan_samples]
  refine ⟨by simp [hx], fun i other => ?_⟩
  simp [Ne.symm other]

/-- The scan goes on with the next entry of the list, or ends with the last one (R161, R163). -/
theorem sampledScan_last {s : State} {pos : Nat} (code : BitVec 12) (last : pos + 1 = s.scan.list.length) :
    (s.sampledScan pos code).state = .waiting ∧ (s.sampledScan pos code).current = none ∧
    (s.sampledScan pos code).window = none ∧ (s.sampledScan pos code).timeouts = 0 := by
  unfold State.sampledScan
  rw [if_neg (by omega)]
  exact ⟨rfl, rfl, rfl, rfl⟩

theorem sampledScan_more {s : State} {pos : Nat} (code : BitVec 12) (more : pos + 1 < s.scan.list.length) :
    (s.sampledScan pos code).state = s.scan.state ∧ (s.sampledScan pos code).current = some (pos + 1) ∧
    (s.sampledScan pos code).sentNumber = s.scan.nextNumber ∧
    (s.sampledScan pos code).nextNumber = s.scan.nextNumber + 1 ∧
    (s.sampledScan pos code).window = some (s.elapsed + s.cfg.responseWindow) := by
  unfold State.sampledScan
  rw [if_pos more]
  exact ⟨rfl, rfl, rfl, rfl, rfl⟩

theorem exec_converterResponse {s : State} {pos : Nat} {e : ScanEntry} (current : s.scan.current = some pos)
    (window : s.scan.window.isSome = true) (entry : s.scan.list[pos]? = some e) (n : BitVec 8) (c : BitVec 4)
    (code : BitVec 12) : exec (.converterResponse n c code) s =
      if s.scan.state = .running ∧ n = s.scan.sentNumber ∧ c = e.channel then .next (s.goodResponse pos e code)
      else .next s := by
  obtain ⟨w, hw⟩ := Option.isSome_iff_exists.1 window
  simp only [exec, execConverterResponse, current, hw, entry]

theorem levelUpdate_above {s : State} {k : Side} {n : Nat}
    (above : (s.tankCfg k).cutOff < stockOf (s.tankCfg k).points n) :
    s.levelUpdate k n = s.setTank k ⟨some (stockOf (s.tankCfg k).points n)⟩ := by
  unfold State.levelUpdate
  dsimp only
  rw [State.setTank_tankCfg, if_neg (by omega)]

theorem levelUpdate_below {s : State} {k : Side} {n : Nat}
    (below : stockOf (s.tankCfg k).points n ≤ (s.tankCfg k).cutOff) :
    s.levelUpdate k n =
      ((s.setTank k ⟨some (stockOf (s.tankCfg k).points n)⟩).cutOffAt .one k).cutOffAt .two k := by
  unfold State.levelUpdate
  dsimp only
  rw [State.setTank_tankCfg, if_pos below]

theorem cutOffAt_otherKept (s : State) (h t : Side) : OtherHoseKept h s (s.cutOffAt h t) := by
  unfold State.cutOffAt
  split
  · exact endDelivery_otherKept _ _ _
  · exact .refl _ _

/-- The cut-off at both hoses is, at one hose that names the tank, the end of its own delivery; where the other
hose names another tank, it is nothing else. -/
theorem cutOffBoth {s : State} {h k : Side} (tank : (s.hoseCfg h).tank = k) (fitted : s.unfitted h = false) :
    ∃ u, Only endBlocks s u ∧ OtherHoseKept h.other s u ∧
      ((s.cutOffAt .one k).cutOffAt .two k).hose h = (u.endDelivery h .tankCutOff).hose h ∧
      ((s.cutOffAt .one k).cutOffAt .two k).reservation h = (u.endDelivery h .tankCutOff).reservation h ∧
      ((s.hoseCfg h.other).tank ≠ k → OtherHoseKept h s ((s.cutOffAt .one k).cutOffAt .two k)) := by
  have own (u : State) (e : Only endBlocks s u) : u.cutOffAt h k = u.endDelivery h .tankCutOff := by
    have same : u.unfitted h = false := by simpa [State.unfitted, e.hoseCfg_eq, e.start_eq] using fitted
    simp [State.cutOffAt, e.hoseCfg_eq, tank, same]
  have elsewhere (u : State) (j : Side) (e : Only endBlocks s u) (away : (s.hoseCfg j).tank ≠ k) :
      u.cutOffAt j k = u := by
    simp [State.cutOffAt, e.hoseCfg_eq, away]
  cases h with
  | one =>
    have other := cutOffAt_otherKept (s.cutOffAt .one k) .two k
    refine ⟨s, Only.refl _ _, .refl _ _, ?_⟩
    rw [← own s (Only.refl _ _)]
    refine ⟨other.1, other.2.2.2, fun away => ?_⟩
    rw [elsewhere _ .two (cutOffAt_only _ _ _) away]
    exact cutOffAt_otherKept _ _ _
  | two =>
    refine ⟨s.cutOffAt .one k, cutOffAt_only _ _ _, cutOffAt_otherKept _ _ _, ?_⟩
    rw [← own _ (cutOffAt_only _ _ _)]
    refine ⟨rfl, rfl, fun away => ?_⟩
    rw [elsewhere s .one (Only.refl _ _) away]
    exact cutOffAt_otherKept _ _ _

theorem take_tankLevel {x : Sample} {k : Side} (purpose : x.purpose = .tankLevel k) (code : BitVec 12)
    (span : Side → Nat) (now : Nat) : x.take code span now = { x with
      code := some code, value := some (levelOf code.toNat (span k) : Int), lastGood := some now } := by
  simp only [Sample.take, purpose]

theorem take_meterTemp {x : Sample} {k : Side} (purpose : x.purpose = .meterTemp k) (code : BitVec 12)
    (span : Side → Nat) (now : Nat) : x.take code span now = { x with
      code := some code, value := some (temperatureOf code.toNat).1, outOfRange := (temperatureOf code.toNat).2
      lastGood := some now } := by
  simp only [Sample.take, purpose]

theorem clampInt_eq (raw : Int) : clampInt (-200) 700 raw = max (-200) (min 700 raw) := by
  unfold clampInt
  omega

/-- The tag absent mark at an end that neither a lost tag nor a hang has caused (R16). -/
theorem endedHose_tagAbsent (s : State) (h : Side) (d : Delivery) {r : EndReason} (lost : r ≠ .tagLost)
    (hung : r ≠ .nozzleHung) :
    (s.endedHose h d r).tagAbsent = ((s.hose h).tagAbsent || !(s.tag h).lastAnswered) := by
  show ((s.hose h).tagAbsent || !(s.tag h).lastAnswered || decide (r = .tagLost) || decide (r = .nozzleHung)) = _
  simp [lost, hung]

theorem rest_eq (x : Hook) : x.rest = if x = .hung then .idle else .unarmed := by cases x <;> rfl

/-- Settles O54: a good response is a sample taken, the next entry requested or the scan ended, and for a tank
level the tank's update with its cut-off. -/
theorem tankLevelIsSampled : Obligations.TankLevelIsSampled := by
  refine ⟨?_, ?_, ?_⟩
  · intro s pos e k code level x running current window entry purpose last hx own level_eq above
    subst level_eq
    have run := exec_converterResponse current window entry
    obtain ⟨sample, others⟩ := sampledScan_sample code hx
    obtain ⟨state, cur, win, timeouts⟩ := sampledScan_last code last
    refine ⟨⟨s.goodResponse pos e code, by rw [run, if_pos ⟨running, rfl, rfl⟩], ?_⟩, fun n c wrong => ?_⟩
    · rw [goodResponse_tankLevel _ _ _ purpose, levelUpdate_above (by exact above)]
      refine ⟨?_, state, cur, win, timeouts, sampledScan_list _ _ _, others, ?_, ?_,
        (setScan_only _ _).next (setTank_only _ _ _)⟩
      · rw [State.setTank_scan, State.setScan_scan, sample, take_tankLevel (own.trans purpose)]
        rfl
      · simp [levelOf]
      · simp
    · rw [run, if_neg (by tauto)]
  · intro s pos e k code raw x running current window entry purpose hx own raw_eq
    subst raw_eq
    obtain ⟨sample, others⟩ := sampledScan_sample code hx
    refine ⟨s.goodResponse pos e code, by
      rw [exec_converterResponse current window entry, if_pos ⟨running, rfl, rfl⟩], ?_⟩
    rw [goodResponse_meterTemp _ _ _ purpose]
    refine ⟨?_, others, fun more => ?_, fun last => sampledScan_last code last, setScan_only _ _⟩
    · rw [State.setScan_scan, sample, take_meterTemp (own.trans purpose)]
      simp [temperatureOf, clampInt_eq]
    · obtain ⟨state, goesOn⟩ := sampledScan_more code more
      exact ⟨state.trans running, goesOn⟩
  · intro s pos e k h code level d running current window entry purpose level_eq below tank fitted o hd
    subst level_eq
    let s1 := (s.setScan (s.sampledScan pos code)).setTank k
      ⟨some (stockOf (s.tankCfg k).points (levelOf code.toNat (s.tankCfg k).span))⟩
    have before : Only [.scan, .tanks] s s1 := (setScan_only _ _).next (setTank_only _ _ _)
    have eq : s.goodResponse pos e code = (s1.cutOffAt .one k).cutOffAt .two k := by
      rw [goodResponse_tankLevel _ _ _ purpose, levelUpdate_below (by exact below)]
      rfl
    have after : Only endBlocks s1 ((s1.cutOffAt .one k).cutOffAt .two k) :=
      (cutOffAt_only _ _ _).trans (cutOffAt_only _ _ _)
    obtain ⟨u, frame, ⟨hoseU, meterU, tagU, -⟩, hose, reservation, alone⟩ := cutOffBoth (s := s1) tank fitted
    rw [Side.other_other] at hoseU meterU tagU
    have openU : (u.hose h).state.open = true := by rw [hoseU]; exact o
    have deliveryU : (u.hose h).delivery = some d := by rw [hoseU]; exact hd
    have ended : u.endedHose h d .tankCutOff = s.endedHose h d .tankCutOff := by
      simp only [State.endedHose, hoseU, tagU, frame.line_eq]
      rfl
    have absent := endedHose_tagAbsent s h d (r := .tankCutOff) nofun nofun
    have elapsed : u.elapsed = s.elapsed := frame.elapsed_eq
    refine ⟨(s1.cutOffAt .one k).cutOffAt .two k, by
      rw [exec_converterResponse current window entry, if_pos ⟨running, rfl, rfl⟩, eq], ?_, fun g => ?_,
      fun g zero => ?_, fun away => (before.otherKept h).trans (alone away), before.next after⟩
    · rw [after.tanks_eq]
      simp [s1, levelOf]
    · obtain ⟨closing, -, -⟩ := endDelivery_closing .tankCutOff openU deliveryU (by rw [meterU]; exact g)
      rw [hose, closing, ended, elapsed, ← absent]
      rfl
    · obtain ⟨dropped, -, gone, -⟩ := endDelivery_dropped .tankCutOff openU deliveryU (by rw [meterU]; exact g) zero
      refine ⟨?_, reservation.trans gone⟩
      rw [hose, dropped, ended, hoseU, show s1.hose h = s.hose h from rfl, ← absent, rest_eq]
      rfl

end Sys2Proof.Machine

namespace Sys2Proof.Machine

set_option Elab.async false

/-! ### The settle window's end (R20) -/

theorem ownAbsorb_hose (s : State) (h : Side) (d : Delivery) (i : Item) :
    ∃ y, (s.ownAbsorb h d i).hose h = { s.hose h with standIn := y } := by
  have raised (u : State) (n : Nat) : (u.raiseAbsorbed h n).hose h = u.hose h := (raiseAbsorbed_only u h n).hose_eq h
  unfold State.ownAbsorb
  dsimp only
  rw [raised]
  split
  · split
    · exact ⟨_, rfl⟩
    · exact ⟨_, by rw [(countLate_only _ _).hose_eq, State.setHose_hose_self]⟩
  · split
    · exact ⟨_, rfl⟩
    · exact ⟨(s.hose h).standIn, by rw [(countLate_only _ _).hose_eq, (setEntry_only _ _).hose_eq]⟩

theorem absorbedFinal_hose (s : State) (h : Side) (d : Delivery) : ∃ y, (s.absorbedFinal h d).hose h =
    { s.hose h with delivery := some (s.settledDelivery h d (s.netNow h)), standIn := y } := by
  obtain ⟨y, e⟩ := ownAbsorb_hose (s.setDelivery h (s.settledDelivery h d (s.netNow h))) h
    (s.settledDelivery h d (s.netNow h))
    ((s.settledDelivery h d (s.netNow h)).item ((s.settledDelivery h d (s.netNow h)).endTime.getD 0) (s.netNow h) true)
  exact ⟨y, e.trans (by simp [State.setDelivery])⟩

theorem absorbedFinal_only (s : State) (h : Side) (d : Delivery) :
    Only [.hoses, .fleet, .reservations] s (s.absorbedFinal h d) :=
  (setDelivery_only _ _ _).next (ownAbsorb_only _ _ _ _)

/-- A hose that shows the fault pending at the settle window's end, if any (R20 step 8). -/
def Hose.showFault (x : Hose) : Option FaultCause → Hose
  | none => x
  | some c => { x with faultCause := some c, reason := some (.faulted c) }

theorem showFault_delivery (x : Hose) (p : Option FaultCause) (e : Option Delivery) :
    { x.showFault p with delivery := e } = { x with delivery := e }.showFault p := by cases p <;> rfl

/-- The hose as the settle window's end leaves it, before the write-back or the append. -/
theorem settled_hose (s : State) (h : Side) (d : Delivery) : (s.settled h d).hose h =
    (s.settledHose h d).showFault (s.settledRecord h d).pendingFault := by
  unfold State.settled
  split
  all_goals
    rename_i fault
    rw [fault]
  · exact State.setHose_hose_self ..
  · rw [hoseItem_hose]
    exact State.setHose_hose_self ..

theorem settled_reservation (s : State) (h : Side) (d : Delivery) : (s.settled h d).reservation h = none := by
  unfold State.settled
  split <;> simp [State.released]

theorem settled_meter (s : State) (h : Side) (d : Delivery) : (s.settled h d).meter h = (s.meter h).clear := by
  have same : (s.absorbedFinal h d).meter h = s.meter h := (absorbedFinal_only s h d).meter_eq h
  unfold State.settled
  split <;> simp [State.released, same]

theorem passAppend_hose (s : State) (src : AppendSource) (r : Record) (k : Side) :
    (s.passAppend src r).hose k = s.hose k := (passAppend_only _ _ _).hose_eq k

/-- The write-back placed, or the append passed, leaves the hose but for one flag of its delivery record. -/
theorem afterSettle_hose {s : State} {h : Side} {d : Delivery} (e : (s.hose h).delivery = some d) (x : Delivery) :
    ∃ f, (s.afterSettle h x).hose h = { s.hose h with delivery := some { d with flags := f } } := by
  unfold State.afterSettle
  split
  · unfold State.recordDelivery
    rw [e]
    dsimp only
    split
    · exact ⟨d.flags, by rw [← e]⟩
    · exact ⟨_, by rw [passAppend_hose]; exact State.setHose_hose_self ..⟩
  · exact ⟨d.flags, by rw [State.setTag_hose, ← e]⟩

theorem settleFault_eq (pending : Option FaultCause) (net target limit : Nat) :
    settleFault pending net target limit = if pending = some .meterFault then some .meterFault
      else if (limit : Int) < (net : Int) - target then some .valveOverrun else pending := by
  unfold settleFault
  split
  · assumption
  · rfl

/-- The hose at the settle window's end, to the flags of its delivery record and the stand-in that the final
absorb leaves. -/
theorem settleEnd_hose (s : State) (h : Side) (d : Delivery) : ∃ f y, (s.settleEnd h d).hose h =
    Hose.showFault { s.hose h with
      delivery := some { s.settledRecord h d with flags := f }
      state := settledState (s.settledRecord h d).pendingFault (s.hose h).tagAbsent
      settle := none, standIn := y
      totalizer := totalizerAdd (s.hose h).totalizer (s.meter h).gross
      lead := settleLead (s.hose h).lead (s.settledDelivery h d (s.netNow h)) (s.netNow h) }
      (s.settledRecord h d).pendingFault := by
  obtain ⟨y, absorbed⟩ := absorbedFinal_hose s h d
  have settled := settled_hose s h d
  have record : ((s.settled h d).hose h).delivery = some (s.settledRecord h d) := by
    rw [settled]
    cases (s.settledRecord h d).pendingFault <;> rfl
  obtain ⟨f, after⟩ := afterSettle_hose record (s.settledRecord h d)
  refine ⟨f, y, ?_⟩
  rw [settleEnd_eq, after, settled, showFault_delivery]
  unfold State.settledHose
  rw [absorbed]

/-- Settles O24: the hose, its reservation and its meter unit as the settle window's end leaves them. -/
theorem settleWindowEnds : Obligations.SettleWindowEnds := by
  intro h s d net fault closing timer hd net_eq fault_eq
  subst net_eq
  have run : exec (.settleExpiry h) s = .next (s.settleEnd h d) := by
    simp [exec, execSettleExpiry, hd, closing, timer]
  have pending : (s.settledRecord h d).pendingFault = fault := by
    rw [fault_eq]
    exact settleFault_eq _ _ _ _
  have after := afterSettle_only (s.settled h d) h (s.settledRecord h d)
  obtain ⟨hoseOther, meterOther, tagOther, reservationOther⟩ := settleEnd_otherKept s h d
  obtain ⟨f, y, hose⟩ := settleEnd_hose s h d
  obtain ⟨y', absorbed⟩ := absorbedFinal_hose s h d
  have total : (s.settledImage h d).totalizer = ((s.hose h).totalizer + (s.meter h).gross) % 100000000000 := by
    show totalizerAdd ((s.absorbedFinal h d).hose h).totalizer (s.meter h).gross = _
    rw [absorbed]
    rfl
  rw [pending] at hose
  refine ⟨s.settleEnd h d, run, ?_, ?_, ?_, ?_, ?_, ?_, ?_, ?_, ?_, ?_, ?_, hoseOther, meterOther, tagOther,
    reservationOther, (exec_only run).mem_eq (by simp [touched])⟩
  case refine_9 => rw [settleEnd_eq, after.reservation_eq, settled_reservation]
  case refine_10 =>
    rw [settleEnd_eq, after.meter_eq, settled_meter]
    rfl
  all_goals
    rw [hose]
    clear fault_eq
  · cases fault <;> rfl
  · rintro c rfl
    exact ⟨rfl, rfl⟩
  · rintro rfl
    exact ⟨rfl, rfl⟩
  · cases fault <;> rfl
  · cases fault <;> rfl
  · cases fault <;> rfl
  · cases fault <;> rfl
  · cases fault <;> rfl
  · exact ⟨{ s.settledRecord h d with flags := f }, s.settledImage h d, by cases fault <;> rfl, rfl, pending, rfl, rfl,
      rfl, rfl, rfl, rfl, rfl, total⟩

end Sys2Proof.Machine

namespace Sys2Proof.Machine

set_option Elab.async false

/-! ### Keys (R24, R164, R183) -/

theorem clearFault_hose_self {s : State} {h : Side} (fault : (s.hose h).state = .fault)
    (none : (s.hose h).delivery = none) : (s.clearFault h).hose h = { s.hose h with
      state := (s.hose h).hook.rest, faultCause := .none
      totalizer := totalizerAdd (s.hose h).totalizer (s.meter h).gross } ∧
    (s.clearFault h).meter h = (s.meter h).clear := by
  simp [State.clearFault, fault, none]

theorem clearFault_of_other {s : State} {h : Side} (e : (s.hose h).state ≠ .fault ∨ (s.hose h).delivery ≠ none) :
    s.clearFault h = s := by
  unfold State.clearFault
  exact if_neg (by tauto)

/-- Both hoses cleared in turn: at each hose as if it were the only one. -/
theorem clearBoth (s : State) (h : Side) : ∃ u : State, u.hose h = s.hose h ∧ u.meter h = s.meter h ∧
    ((s.clearFault .one).clearFault .two).hose h = (u.clearFault h).hose h ∧
    ((s.clearFault .one).clearFault .two).meter h = (u.clearFault h).meter h := by
  cases h with
  | one =>
    obtain ⟨hose, meter, -⟩ := clearFault_otherKept (s.clearFault .one) .two
    exact ⟨s, rfl, rfl, hose, meter⟩
  | two =>
    obtain ⟨hose, meter, -⟩ := clearFault_otherKept s .one
    exact ⟨s.clearFault .one, hose, meter, rfl, rfl⟩

theorem clearPress_run {s : State} (run : s.start.stage = .run) (scan : s.scan.state ≠ .failed) :
    s.clearPress = (s.clearFault .one).clearFault .two := by
  have frame : Only [.hoses, .meters, .notice] s ((s.clearFault .one).clearFault .two) :=
    (clearFault_only _ _).trans (clearFault_only _ _)
  unfold State.clearPress State.clearScan
  simp [State.inRun, run, frame.scan_eq, scan]

/-- A CLEAR press taken with the supervisor key on. -/
theorem exec_clearKey_press {s : State} (awake : s.start.stage ≠ .hold) (on : s.panel.supervisorOn = true)
    (up : s.panel.clearPressed = false) : exec (.clearKey true) s =
      .next (s.setPanel { s.panel with clearPressed := true }).clearPress := by
  simp [exec, execClearKey, awake, on, up]

theorem clearPress_clears {s : State} (run : s.start.stage = .run) (scan : s.scan.state ≠ .failed) (h : Side) :
    ((s.hose h).state = .fault → (s.hose h).delivery = none →
      s.clearPress.hose h = { s.hose h with
        state := if (s.hose h).hook = .hung then .idle else .unarmed, faultCause := none
        totalizer := ((s.hose h).totalizer + (s.meter h).gross) % 100000000000 } ∧
      s.clearPress.meter h = (s.meter h).clear) ∧
    ((s.hose h).state ≠ .fault ∨ (s.hose h).delivery ≠ none →
      s.clearPress.hose h = s.hose h ∧ s.clearPress.meter h = s.meter h) := by
  obtain ⟨u, hoseU, meterU, hose, meter⟩ := clearBoth s h
  rw [clearPress_run run scan, hose, meter, ← hoseU, ← meterU]
  refine ⟨fun fault none => ?_, fun e => ?_⟩
  · obtain ⟨hose', meter'⟩ := clearFault_hose_self fault none
    rw [hose', meter', rest_eq]
    exact ⟨rfl, rfl⟩
  · rw [clearFault_of_other e]
    exact ⟨rfl, rfl⟩

/-- The test for UNKNOWN stock where no fuel may pass changes nothing. -/
theorem testStock_of_shut {s : State} (shut : ∀ h, (s.hose h).state.open = false) : s.testStock = s := by
  have at' (h : Side) : s.testStockAt h = s := by
    unfold State.testStockAt
    dsimp only
    rw [shut h]
    split <;> rfl
  rw [State.testStock, at', at']

theorem startScan_of_shut {s : State} (shut : ∀ h, (s.hose h).state.open = false) :
    s.startScan = s.setScan (s.scan.started s.elapsed s.cfg.responseWindow) :=
  testStock_of_shut shut

theorem clearScan_of_failed {s : State} (failed : s.scan.state = .failed) (shut : ∀ h, (s.hose h).state.open = false) :
    s.clearScan = s.setScan
      ({ s.scan with timeouts := 0, state := .waiting }.started s.elapsed s.cfg.responseWindow) := by
  unfold State.clearScan
  rw [if_pos failed, startScan_of_shut (by exact shut)]
  rfl

theorem started_of_cons {u : ScanUnit} {e : ScanEntry} {rest : List ScanEntry} (list : u.list = e :: rest)
    (now window : Nat) : u.started now window = { u with
      timer := some (now + 1000), timedOut := false, state := .running, current := some 0
      sentNumber := u.nextNumber, nextNumber := u.nextNumber + 1, window := some (now + window) } := by
  unfold ScanUnit.started
  exact if_neg (by simp [list])

theorem started_of_nil {u : ScanUnit} (list : u.list = []) (now window : Nat) : u.started now window = { u with
    timer := some (now + 1000), timedOut := false, state := .waiting, current := none, window := none
    timeouts := 0 } := by
  unfold ScanUnit.started
  exact if_pos list

/-- A CLEAR press at a FAILED scan with no hose to clear: the scan starts at once. -/
theorem clearPress_of_failed {s : State}
    (stage : s.start.stage = .journalScan ∨ s.start.stage = .listen ∨ s.start.stage = .run)
    (failed : s.scan.state = .failed)
    (still : ∀ h, (s.hose h).state ≠ .fault ∧ (s.hose h).state.open = false) : s.clearPress = s.setScan
      ({ s.scan with timeouts := 0, state := .waiting }.started s.elapsed s.cfg.responseWindow) := by
  have untouched (h : Side) : s.clearFault h = s := clearFault_of_other (.inl (still h).1)
  have same : (if s.inRun then (s.clearFault .one).clearFault .two else s) = s := by
    rw [untouched, untouched, ite_self]
  unfold State.clearPress
  dsimp only
  rw [same, if_pos (by simpa [State.listening] using stage), clearScan_of_failed failed fun h => (still h).2]

/-- Settles O25: a CLEAR press, key by key and hose by hose, and the presses that only the panel records. -/
theorem keysAct : Obligations.KeysAct := by
  refine ⟨fun s run on up scan => ?_, fun h s awake => ?_, fun s stage on up failed still => ?_⟩
  · let s1 := s.setPanel { s.panel with clearPressed := true }
    have clears := clearPress_clears (s := s1) run scan
    have frame : Only [.hoses, .meters, .notice] s1 s1.clearPress := by
      rw [clearPress_run (s := s1) run scan]
      exact (clearFault_only _ _).trans (clearFault_only _ _)
    refine ⟨s1.clearPress, exec_clearKey_press (by rw [run]; nofun) on up, frame.panel_eq, fun h fault none => ?_,
      fun h => (clears h).2, (setPanel_only _ _).next frame⟩
    obtain ⟨hose, meter⟩ := (clears h).1 fault none
    rw [hose, meter]
    exact ⟨rfl, rfl, rfl, rfl, rfl⟩
  · refine ⟨fun on => ⟨_, by simp [exec, execSupervisorKeyChange, awake], rfl, setPanel_only _ _⟩,
      ⟨s.setPanel { s.panel with clearPressed := false }, by simp [exec, execClearKey, awake], rfl, setPanel_only _ _⟩,
      fun idle => ⟨s.setPanel { s.panel with clearPressed := true }, ?_, rfl, setPanel_only _ _⟩,
      fun pressed idle => ⟨s.setPanel { s.panel with stopPressed := s.panel.stopPressed.set h pressed }, ?_, rfl,
        setPanel_only _ _⟩⟩
    · obtain off | held := idle
      · simp [exec, execClearKey, awake, off]
      · simp [exec, execClearKey, awake, held]
    · have shut (e : (s.hose h).state.open = false) :
          (s.setPanel { s.panel with stopPressed := s.panel.stopPressed.set h pressed }).endDelivery h .stopKey =
          s.setPanel { s.panel with stopPressed := s.panel.stopPressed.set h pressed } := endDelivery_of_not_open _ e
      obtain rfl | held | closed := idle
      · simp [exec, execStopKey, awake]
      · simp [exec, execStopKey, awake, held]
      · simp [exec, execStopKey, awake, shut closed]
  · let s1 := s.setPanel { s.panel with clearPressed := true }
    have eq := clearPress_of_failed (s := s1) stage failed still
    refine ⟨_, by rw [exec_clearKey_press _ on up, eq]; obtain e | e | e := stage <;> rw [e] <;> nofun, rfl,
      fun e rest list => ?_, fun list => ?_, (setPanel_only _ _).next (setScan_only _ _)⟩
    · exact started_of_cons (u := { s.scan with timeouts := 0, state := .waiting }) list _ _
    · exact started_of_nil (u := { s.scan with timeouts := 0, state := .waiting }) list _ _

end Sys2Proof.Machine

namespace Sys2Proof.Machine

set_option Elab.async false

/-! ### How an edge counts (R30 to R32) -/

section
variable {m : Meter} {ch : Channel}

theorem edge_reference (l : Bool) (first : m.lastEdge = none) : m.edge ch l = m.record ch l := by
  simp only [Meter.edge, edgeKind, first]

theorem edge_again (l : Bool) (same : m.lastEdge = some ch) : m.edge ch l = (m.record ch l).countFault := by
  simp only [Meter.edge, edgeKind, same, if_true]

/-- An edge on the other channel is a step, forward or in reverse by the levels after it. -/
theorem edge_step {x : Channel} (l : Bool) (last : m.lastEdge = some x) (turn : x ≠ ch) : m.edge ch l =
    if (if ch = .a then (m.record ch l).levelA != (m.record ch l).levelB
      else (m.record ch l).levelA == (m.record ch l).levelB) then
      { m.record ch l with pulses := min Config.pulseMax (m.pulses + 1) }
    else if m.pulses = 0 then (m.record ch l).countFault else { m.record ch l with pulses := m.pulses - 1 } := by
  have kind : edgeKind m.lastEdge ch (m.record ch l).levelA (m.record ch l).levelB =
      if (if ch = .a then (m.record ch l).levelA != (m.record ch l).levelB
        else (m.record ch l).levelA == (m.record ch l).levelB) then .forward else .reverse := by
    simp only [edgeKind, last, if_neg turn]
    generalize (m.record ch l).levelA = a
    generalize (m.record ch l).levelB = b
    cases ch <;> cases a <;> cases b <;> rfl
  unfold Meter.edge
  dsimp only
  rw [kind]
  generalize (if ch = .a then (m.record ch l).levelA != (m.record ch l).levelB
    else (m.record ch l).levelA == (m.record ch l).levelB) = forward
  cases forward <;> rfl

end

theorem exec_channelEdge {s : State} {h : Side} (ch : Channel) (l : Bool) (awake : s.start.stage ≠ .hold)
    (fitted : s.unfitted h = false) : exec (.channelEdge h ch l) s = .next (s.takeEdge h ch l) := by
  simp [exec, execChannelEdge, awake, fitted]

/-- Before a good record an edge only counts. -/
theorem takeEdge_of_no_record {s : State} {h : Side} (ch : Channel) (l : Bool) (noRecord : s.start.recordGood = false) :
    s.takeEdge h ch l = s.setMeter h ((s.meter h).edge ch l) := by
  have quiet (u : State) (e : u.start.recordGood = false) : u.reportFaults h = u ∧ u.recomputeGross h = u := by
    simp [State.reportFaults, State.recomputeGross, e]
  obtain ⟨reported, recomputed⟩ := quiet (s.setMeter h ((s.meter h).edge ch l)) noRecord
  unfold State.takeEdge
  dsimp only
  rw [reported, ite_self, recomputed, ite_self]

/-- A pulse fault below the count's limit is counted and may be reported; P stays. -/
theorem takeEdge_of_fault {s : State} {h : Side} {ch : Channel} {l : Bool} (same : (s.meter h).lastEdge = some ch)
    (below : (s.meter h).faultCount < 65535) :
    s.takeEdge h ch l = (s.setMeter h ((s.meter h).record ch l).countFault).reportFaults h := by
  have fault := edge_again (m := s.meter h) l same
  have counts : (((s.meter h).record ch l).countFault).faultCount ≠ (s.meter h).faultCount := by
    rw [record_eq]
    simp only [Meter.countFault, countUp, satAdd, countMax]
    omega
  have pulses : (((s.meter h).record ch l).countFault).pulses = (s.meter h).pulses := by
    rw [record_eq]
    rfl
  unfold State.takeEdge
  dsimp only
  rw [fault, if_pos counts, if_neg (by simp [pulses])]

/-! ### The report of a fault count (R17, R18, R19, R31) -/

theorem reportFaults_silent {s : State} {h : Side}
    (e : (s.meter h).faultCount ≤ (s.hoseCfg h).faultLimit ∨ (s.meter h).faultReported = true) :
    s.reportFaults h = s := by
  unfold State.reportFaults
  refine if_neg ?_
  obtain below | reported := e
  · simp [Nat.not_lt.2 below]
  · simp [reported]

theorem reportFaults_reports {s : State} {h : Side} (good : s.start.recordGood = true)
    (above : (s.hoseCfg h).faultLimit < (s.meter h).faultCount) (first : (s.meter h).faultReported = false) :
    s.reportFaults h = (s.setMeter h { s.meter h with faultReported := true }).meterFault h := by
  unfold State.reportFaults
  exact if_pos (by simp [good, above, first])

theorem meterFault_of_open {s : State} {h : Side} (o : (s.hose h).state.open = true) :
    s.meterFault h = s.endDelivery h .meterFault := by
  unfold State.meterFault
  exact if_pos o

theorem meterFault_of_closing {s : State} {h : Side} {d : Delivery} (closing : (s.hose h).state = .closing)
    (hd : (s.hose h).delivery = some d) :
    s.meterFault h = s.setDelivery h { d with pendingFault := some .meterFault } := by
  simp [State.meterFault, closing, hd, HoseState.open]

theorem meterFault_of_not_live {s : State} {h : Side} (dead : (s.hose h).state.live = false) :
    s.meterFault h = s := by
  unfold State.meterFault
  dsimp only
  rw [not_open_of_not_live dead]
  split
  · contradiction
  · split
    · rename_i closing _
      rw [closing] at dead
      cases dead
    · rfl

/-! ### A forward step (R33, R34, R36, R37) -/

theorem weigh_of_rise {m : Meter} {g : Nat} (rises : m.gross < g) (t : Int × Bool) : m.weigh g t = { m with
    gross := g, weighted := m.weighted + ((g : Int) - m.gross) * t.1, uncompensated := m.uncompensated || t.2 } := by
  unfold Meter.weigh
  rw [if_neg (by omega)]

/-- G raised by a change of P: the change is weighted, and one update is sent. -/
theorem recomputeGross_of_rise {s : State} {h : Side} {g : Nat} (good : s.start.recordGood = true)
    (hg : g = grossOf (s.meter h).pulses (s.hoseCfg h).km) (rises : (s.meter h).gross < g) :
    s.recomputeGross h = (s.setMeter h { (s.meter h).weigh g (s.temperature h) with
      lastNet := (s.setMeter h ((s.meter h).weigh g (s.temperature h))).netNow h, lastGross := g }).meterUpdate h
        true := by
  unfold State.recomputeGross
  dsimp only
  rw [← hg, if_pos (by simp [good]; omega), decide_eq_true rises, State.setMeter_meter_self, State.setMeter_setMeter]

/-- A forward step that raises G is one update of the meter unit, taken by the hose. -/
theorem takeEdge_of_step {s : State} {h : Side} {ch : Channel} {level : Bool} {g net : Nat}
    (step : ForwardStep s h ch level g net) :
    s.takeEdge h ch level = (s.setMeter h (s.meterAfterStep h ch level g net)).meterUpdate h true := by
  obtain ⟨-, good, -, ⟨x, last, turn⟩, forward, room, hg, rises, hnet⟩ := step
  have edge : (s.meter h).edge ch level =
      { (s.meter h).record ch level with pulses := (s.meter h).pulses + 1 } := by
    rw [edge_step level last turn, if_pos]
    · rw [show min Config.pulseMax ((s.meter h).pulses + 1) = (s.meter h).pulses + 1 from Nat.min_eq_right room]
    · cases ch <;> simpa [Meter.record] using forward
  have counts : ((s.meter h).edge ch level).faultCount = (s.meter h).faultCount := by
    rw [edge, record_eq]
  have pulses : ((s.meter h).edge ch level).pulses = (s.meter h).pulses + 1 := by rw [edge]
  have gross : ((s.meter h).edge ch level).gross = (s.meter h).gross := (edge_view _ _ _).1
  have counted : s.takeEdge h ch level = (s.setMeter h ((s.meter h).edge ch level)).recomputeGross h := by
    unfold State.takeEdge
    dsimp only
    rw [if_pos (show ((s.meter h).edge ch level).pulses ≠ (s.meter h).pulses by omega), counts, if_neg fun e => e rfl]
  have recomputed := recomputeGross_of_rise (s := s.setMeter h ((s.meter h).edge ch level)) (h := h) (g := g) good
    (by rw [State.setMeter_meter_self, pulses, hg]; rfl) (by rw [State.setMeter_meter_self, gross]; exact rises)
  rw [counted, recomputed]
  rw [State.setMeter_meter_self, State.setMeter_setMeter, State.setMeter_setMeter,
    weigh_of_rise (by rw [gross]; exact rises), edge, record_eq]
  refine congrArg (fun m => (s.setMeter h m).meterUpdate h true) ?_
  unfold State.meterAfterStep State.netNow
  rw [State.setMeter_meter_self, hnet]
  rfl

theorem markUncompensated_of_not_live {s : State} {h : Side} (dead : (s.hose h).state.live = false) :
    s.markUncompensated h = s := by
  unfold State.markUncompensated
  dsimp only
  rw [dead]
  split <;> rfl

/-- An update at a hose with no live delivery can only be a VALVE LEAK (R23). -/
theorem meterUpdate_of_leakWatch {s : State} {h : Side} (rose : Bool) (watches : (s.hose h).state.watchesLeak = true) :
    s.meterUpdate h rose = if (s.hoseCfg h).overrun < (s.meter h).gross then s.valveLeak h else s := by
  unfold State.meterUpdate
  dsimp only
  rw [markUncompensated_of_not_live (watchesLeak_not_live watches)]
  split
  case h_4 => simp [watches]
  all_goals
    rename_i state
    rw [state] at watches
    cases watches

theorem valveLeak_frame (s : State) (h : Side) : Only [.meters, .hoses, .tags, .notice] s (s.valveLeak h) := by
  unfold State.valveLeak
  dsimp only
  split
  · exact Only.next (b1 := [.meters, .hoses, .tags]) (Only.next (b1 := [.meters, .hoses])
      ((setMeter_only _ _ _).next (setHose_only _ _ _)) (setTag_only _ _ _)) (hoseItem_only _ _)
  · exact Only.next (b1 := [.meters, .hoses]) ((setMeter_only _ _ _).next (setHose_only _ _ _)) (hoseItem_only _ _)

theorem valveLeak_meter (s : State) (h : Side) : (s.valveLeak h).meter h = (s.meter h).clear := by
  unfold State.valveLeak
  dsimp only
  split <;> simp

theorem valveLeak_hose {s : State} {h : Side} (state : (s.hose h).state ≠ .identifying) :
    (s.valveLeak h).hose h = { s.hose h with
      state := .fault, faultCause := some .valveLeak, reason := some (.faulted .valveLeak)
      totalizer := totalizerAdd (s.hose h).totalizer (s.meter h).gross } ∧
    (s.valveLeak h).tag h = s.tag h := by
  simp [State.valveLeak, state]

theorem valveLeak_hose_identifying {s : State} {h : Side} (state : (s.hose h).state = .identifying) :
    (s.valveLeak h).hose h = { s.hose h with
      state := .fault, faultCause := some .valveLeak, reason := some (.faulted .valveLeak)
      totalizer := totalizerAdd (s.hose h).totalizer (s.meter h).gross
      liftWait := none, pinned := none, standIn := none } ∧
    (s.valveLeak h).tag h = (s.tag h).abandon := by
  simp [State.valveLeak, state]

theorem fitted_of_present {s : State} {h : Side} (present : (s.hoseCfg h).present = true) : s.unfitted h = false := by
  simp [State.unfitted, present]

/-! ### The three parts of O26 -/

theorem unfitted_of_no_record {s : State} (h : Side) (noRecord : s.start.recordGood = false) :
    s.unfitted h = false := by
  simp [State.unfitted, noRecord]

/-- A meter unit after a pulse fault. -/
theorem countFault_eq (m : Meter) : m.countFault = { m with
    faultCount := min 65535 (m.faultCount + 1), faultTotal := min 65535 (m.faultTotal + 1) } := rfl

/-- Settles O26: an edge before a good record counts by its kind; a fault count is reported; stray gross leaks. -/
theorem edgeIsCounted : Obligations.EdgeIsCounted := by
  refine ⟨?_, ?_, ?_⟩
  · intro h ch level s a b forward m m' awake noRecord hm ha hb hf hm'
    have recorded : m.record ch level = m' := by
      rw [hm', ha, hb, record_eq]
      cases ch <;> rfl
    have levels : (if ch = .a then (m.record ch level).levelA != (m.record ch level).levelB
        else (m.record ch level).levelA == (m.record ch level).levelB) = forward := by
      rw [recorded, hm', hf]
    refine ⟨s.setMeter h (m.edge ch level), ?_, ?_, ?_, ?_, by simp, setMeter_only _ _ _⟩
    · rw [exec_channelEdge ch level awake (unfitted_of_no_record h noRecord),
        takeEdge_of_no_record ch level noRecord, hm]
    all_goals rw [State.setMeter_meter_self]
    · intro first
      rw [edge_reference level first, recorded]
    · intro same
      rw [edge_again level same, recorded, hm']
      rfl
    · rintro ⟨l, last, turn⟩
      rw [edge_step level last turn, levels, recorded]
      refine ⟨fun f => by rw [f]; rfl, fun f some => ?_, fun f none => ?_⟩
      · rw [f, if_neg nofun, if_neg (by omega)]
      · rw [f, if_neg nofun, if_pos none, hm']
        rfl
  · intro h ch level s m awake good present same below hm
    have faulted : ((s.meter h).record ch level).countFault = m := by
      have count : min 65535 ((s.meter h).faultCount + 1) = (s.meter h).faultCount + 1 := Nat.min_eq_right below
      rw [hm, record_eq, countFault_eq]
      dsimp only
      rw [count, same]
    have run : exec (.channelEdge h ch level) s = .next ((s.setMeter h m).reportFaults h) := by
      rw [exec_channelEdge ch level awake (fitted_of_present present), takeEdge_of_fault same below, faulted]
    have gross : m.gross = (s.meter h).gross := by rw [hm]
    refine ⟨(s.setMeter h m).reportFaults h, run,
      (setMeter_otherKept _ _ _).trans (reportFaults_otherKept _ _), fun silent => ?_, fun above first => ?_⟩
    · rw [reportFaults_silent (by simpa using silent)]
      exact ⟨by simp, setMeter_only _ _ _⟩
    · let u := s.setMeter h { m with faultReported := true }
      have reported : (s.setMeter h m).reportFaults h = u.meterFault h := by
        rw [reportFaults_reports (s := s.setMeter h m) (h := h) good (by rw [State.setMeter_meter_self]; exact above)
          (by rw [State.setMeter_meter_self]; exact first), State.setMeter_meter_self, State.setMeter_setMeter]
      have before : Only [.meters] s u := setMeter_only _ _ _
      have same : u.hose h = s.hose h := rfl
      have grossU : (u.meter h).gross = (s.meter h).gross := by
        rw [State.setMeter_meter_self]
        exact gross
      have ended (d : Delivery) : u.endedHose h d .meterFault = s.endedHose h d .meterFault := rfl
      have absent (d : Delivery) := endedHose_tagAbsent s h d (r := .meterFault) nofun nofun
      rw [reported]
      refine ⟨?_, fun d o hd g => ?_, fun d o hd g zero => ?_, fun d closing hd => ?_, fun dead => ?_⟩
      · rw [(meterFault_only _ _).meter_eq, State.setMeter_meter_self]
      · obtain ⟨hose, -, frame⟩ := endDelivery_closing .meterFault (s := u) o hd (by rw [grossU]; exact g)
        rw [meterFault_of_open (s := u) o, hose, ended, ← absent d]
        exact ⟨rfl, before.next frame⟩
      · obtain ⟨hose, -, reservation, journal⟩ := endDelivery_dropped .meterFault (s := u) o hd
          (by rw [grossU]; exact g) zero
        rw [meterFault_of_open (s := u) o, hose, ended, ← absent d]
        exact ⟨rfl, reservation, journal, before.next (endDelivery_only _ _ _)⟩
      · rw [meterFault_of_closing (s := u) closing hd]
        exact ⟨State.setHose_hose_self .., before.next (setDelivery_only _ _ _)⟩
      · rw [meterFault_of_not_live (s := u) dead]
        exact ⟨rfl, before⟩
  · intro h ch level s g net step state
    have watches : (s.hose h).state.watchesLeak = true := by
      obtain e | e | e | e | e | e := state <;> rw [e] <;> rfl
    have present : (s.hoseCfg h).present = true := step.2.2.1
    let u := s.setMeter h (s.meterAfterStep h ch level g net)
    have meterU : u.meter h = s.meterAfterStep h ch level g net := State.setMeter_meter_self ..
    have before : Only [.meters] s u := setMeter_only _ _ _
    have run : exec (.channelEdge h ch level) s =
        .next (if (s.hoseCfg h).overrun < g then u.valveLeak h else u) := by
      rw [exec_channelEdge ch level step.1 (fitted_of_present present), takeEdge_of_step step,
        meterUpdate_of_leakWatch (s := u) true watches, meterU]
      rfl
    refine ⟨_, run, fun within => ?_, fun leaks => ?_⟩
    · rw [if_neg (by omega)]
      exact ⟨meterU, by simp [u], before⟩
    · have frame := before.next (bs := [.meters, .hoses, .tags, .notice]) (valveLeak_frame u h)
      rw [if_pos leaks]
      refine ⟨?_, fun elsewhere => ?_, fun identifying => ?_,
        (setMeter_otherKept _ _ _).trans (valveLeak_otherKept _ _), frame⟩
      · rw [valveLeak_meter, meterU]
        rfl
      · obtain ⟨hose, tag⟩ := valveLeak_hose (s := u) (h := h) elsewhere
        rw [hose, tag, meterU]
        exact ⟨rfl, rfl⟩
      · obtain ⟨hose, tag⟩ := valveLeak_hose_identifying (s := u) (h := h) identifying
        rw [hose, tag, meterU, abandon_eq]
        exact ⟨rfl, rfl⟩

end Sys2Proof.Machine

namespace Sys2Proof.Machine

set_option Elab.async false

/-! ### Entries of the fleet table -/

theorem entry_vehicle {s : State} {v : Nat} {e : FleetEntry} (h : s.entry v = some e) : e.vehicle = v := by
  simpa using List.find?_some h

theorem entry_setEntry (s : State) (e : FleetEntry) (v : Nat) :
    (s.setEntry e).entry v = (s.entry v).map fun x => if x.vehicle == e.vehicle then e else x := by
  have same : ((fun x : FleetEntry => x.vehicle == v) ∘ fun x => if x.vehicle == e.vehicle then e else x) =
      fun x => x.vehicle == v := by
    funext x
    by_cases replaced : x.vehicle = e.vehicle <;> simp [replaced]
  exact (List.find?_map ..).trans (by rw [same]; rfl)

theorem entry_setEntry_self {s : State} {v : Nat} {e e' : FleetEntry} (found : s.entry v = some e)
    (same : e'.vehicle = v) : (s.setEntry e').entry v = some e' := by
  rw [entry_setEntry, found, Option.map_some, entry_vehicle found, same, beq_self_eq_true, if_pos rfl]

theorem entry_setEntry_other {s : State} {v : Nat} {e : FleetEntry} (away : e.vehicle ≠ v) :
    (s.setEntry e).entry v = s.entry v := by
  rw [entry_setEntry]
  cases found : s.entry v with
  | none => rfl
  | some x => simp [entry_vehicle found, Ne.symm away]

theorem entry_of_fleet {s t : State} (e : t.fleet = s.fleet) (v : Nat) : t.entry v = s.entry v := by
  unfold State.entry
  rw [e]

/-! ### A journal unit at work -/

theorem serveNext_of_busy {s : State} (busy : s.journal.inService.isSome = true) : s.serveNext = s := by
  obtain ⟨op, inService⟩ := Option.isSome_iff_exists.1 busy
  unfold State.serveNext
  dsimp only
  rw [inService]

theorem pushOp_of_busy {s : State} (busy : s.journal.inService.isSome = true) (op : MemOp) :
    s.pushOp op = s.setJournal { s.journal with queue := s.journal.queue ++ [op] } :=
  serveNext_of_busy (by exact busy)

/-- A progress rewrite joins the queue of a unit at work with a place left and none of its own waiting. -/
theorem requestProgress_of_busy {s : State} {h : Side} (img : IssueRecord) (busy : s.journal.inService.isSome = true)
    (room : s.journal.queue.length < 6) (none : ∀ op ∈ s.journal.queue, op.isProgressOf h = false) :
    s.requestProgress h img = s.setJournal { s.journal with queue := s.journal.queue ++ [.progress h img] } := by
  have noProgress : s.journal.queue.any (MemOp.isProgressOf h) = false := by
    simpa using none
  unfold State.requestProgress
  dsimp only
  rw [noProgress, if_neg nofun, if_neg (show ¬Config.queueSize ≤ s.journal.queue.length from Nat.not_le.2 room),
    pushOp_of_busy busy]

/-! ### An update of a live delivery (R13 to R15) -/

/-- A delivery record with the flag of R36 taken from its meter unit. -/
def State.markedDelivery (s : State) (h : Side) (d : Delivery) : Delivery :=
  { d with flags := { d.flags with uncompensated := d.flags.uncompensated || (s.meter h).uncompensated } }

/-- The hose after a rise of gross and before its journal step and compares: the flag of R36 taken, the flow
begun where it was AUTHORISED, the stall timer started anew. -/
def State.flowingHose (s : State) (h : Side) (d : Delivery) : Hose :=
  { s.hose h with
    state := if (s.hose h).state = .authorised then (if (s.hose h).stage = .low then .slowing else .flowing)
      else (s.hose h).state
    noFlow := if (s.hose h).state = .authorised then none else (s.hose h).noFlow
    stall := some (s.elapsed + (s.hoseCfg h).stall * 1000)
    delivery := some (s.markedDelivery h d) }

theorem markUncompensated_of_live {s : State} {h : Side} {d : Delivery} (live : (s.hose h).state.live = true)
    (hd : (s.hose h).delivery = some d) : s.markUncompensated h = s.setHose h { s.hose h with
      delivery := some (s.markedDelivery h d) } := by
  unfold State.markUncompensated State.markedDelivery
  simp only [hd, live, Bool.true_and]
  cases (s.meter h).uncompensated with
  | true => simp [State.setDelivery]
  | false =>
    have same : s.setHose h (s.hose h) = s := by cases h <;> rfl
    simp only [Bool.or_false, Bool.false_eq_true, if_false]
    rw [← hd, same]

theorem flowUpdate_of_delivery {s : State} {h : Side} {d : Delivery} (hd : (s.hose h).delivery = some d) :
    s.flowUpdate h true = State.actOnCompares (if (s.startStall h).stepDue d (s.meter h).lastNet then
      (s.startStall h).journalStep h d (s.meter h).lastNet else s.startStall h) h d (s.meter h).lastNet := by
  have hd' : ((s.startStall h).hose h).delivery = some d := by simpa [State.startStall] using hd
  unfold State.flowUpdate
  simp only [if_true, hd']
  rfl

/-- A rise of gross at a live delivery: the flow begins or goes on, then the journal step that is due, then the
compares. -/
theorem meterUpdate_of_open {s : State} {h : Side} {d : Delivery} (o : (s.hose h).state.open = true)
    (hd : (s.hose h).delivery = some d) :
    s.meterUpdate h true = State.actOnCompares
      (if s.stepDue (s.markedDelivery h d) (s.meter h).lastNet then
        (s.setHose h (s.flowingHose h d)).journalStep h (s.markedDelivery h d) (s.meter h).lastNet
      else s.setHose h (s.flowingHose h d)) h (s.markedDelivery h d) (s.meter h).lastNet := by
  have marked := markUncompensated_of_live (live_of_open o) hd
  have flows (w : State) (hw : (w.hose h).delivery = some (s.markedDelivery h d)) (meter : w.meter h = s.meter h)
      (stalled : w.startStall h = s.setHose h (s.flowingHose h d)) : w.flowUpdate h true = State.actOnCompares
        (if s.stepDue (s.markedDelivery h d) (s.meter h).lastNet then
          (s.setHose h (s.flowingHose h d)).journalStep h (s.markedDelivery h d) (s.meter h).lastNet
        else s.setHose h (s.flowingHose h d)) h (s.markedDelivery h d) (s.meter h).lastNet := by
    rw [flowUpdate_of_delivery hw, stalled, meter]
    rfl
  unfold State.meterUpdate
  dsimp only
  rw [marked, State.setHose_hose_self]
  cases state : (s.hose h).state
  case authorised =>
    exact flows _ (by simp [State.startFlow]) (by simp [State.startFlow])
      (by simp [State.startFlow, State.startStall, State.flowingHose, state])
  case flowing => exact flows _ (by simp) (by simp) (by simp [State.startStall, State.flowingHose, state])
  case slowing => exact flows _ (by simp) (by simp) (by simp [State.startStall, State.flowingHose, state])
  all_goals
    rw [state] at o
    cases o

/-! ### The compares (R41, R42) -/

section
variable {s : State} {h : Side} {d : Delivery} {net : Nat}

theorem actOnCompares_reached (met : (d.target : Int) - net ≤ ((s.hose h).lead : Int)) :
    s.actOnCompares h d net = s.endDelivery h .targetReached := by
  unfold State.actOnCompares
  exact if_pos (decide_eq_true met)

/-- Short of the lead, the compares can only slow a full flow down. -/
theorem actOnCompares_short (short : ((s.hose h).lead : Int) < (d.target : Int) - net) : s.actOnCompares h d net =
    if (s.hose h).state = .flowing ∧ (d.target : Int) - net ≤ ((s.hoseCfg h).band : Int) * 1000 then
      s.setHose h { s.hose h with state := .slowing, stage := .low }
    else s := by
  unfold State.actOnCompares leadMet slowDownMet
  simp only [decide_eq_true_eq]
  exact if_neg (by omega)

end

/-! ### A journal step (R15, R60, R74, R95, R149) -/

theorem raiseAbsorbed_some {s : State} {h : Side} {r : Reservation} (hr : s.reservation h = some r) (n : Nat) :
    s.raiseAbsorbed h n = s.setReservation h (some { r with absorbed := max r.absorbed n }) := by
  simp only [State.raiseAbsorbed, hr]

/-- An entry with a delivery's item absorbed. -/
def State.absorbedEntry (s : State) (e : FleetEntry) (i : Item) : FleetEntry :=
  { e with
    carry := (e.carry.absorb i).1
    touched := if (e.carry.absorb i).1 = e.carry then e.touched else s.line.siteTime }

theorem ownAbsorb_known {s : State} {h : Side} {d : Delivery} {e : FleetEntry} (known : d.flags.unknownVehicle = false)
    (he : s.entry d.vehicle = some e) (i : Item) : s.ownAbsorb h d i =
      ((s.setEntry (s.absorbedEntry e i)).countLate (bitCode (e.carry.absorb i).2)).raiseAbsorbed h i.net := by
  simp only [State.ownAbsorb, known, he]
  rfl

/-- The delivery record of a journal step: the steps within the net are taken. -/
def State.steppedDelivery (s : State) (d : Delivery) (net : Nat) : Delivery := { d with steps := net / s.stepVolume }

/-- The OPEN image of a journal step's progress rewrite. -/
def State.stepImage (s : State) (h : Side) (d : Delivery) (net : Nat) : IssueRecord :=
  (s.steppedDelivery d net).image h s.line.siteTime (s.meter h).gross net
    (totalizerAdd (s.hose h).totalizer (s.meter h).gross) (s.meanNow h)

/-- The state of a journal step of a known vehicle, before its progress write is placed. -/
def State.stepAbsorbed (s : State) (h : Side) (d : Delivery) (net : Nat) (e : FleetEntry) (r : Reservation) : State :=
  let i := (s.steppedDelivery d net).item s.line.siteTime net false
  ((((s.setDelivery h (s.steppedDelivery d net)).setJournal
    { s.journal with queue := s.journal.queue ++ [.progress h (s.stepImage h d net)] }).setEntry
      (s.absorbedEntry e i)).countLate (bitCode (e.carry.absorb i).2)).setReservation h
        (some { r with absorbed := max r.absorbed net })

section
variable {s : State} {h : Side} {d : Delivery} {net : Nat} {e : FleetEntry} {r : Reservation}

theorem journalStep_known (known : d.flags.unknownVehicle = false) (he : s.entry d.vehicle = some e)
    (hr : s.reservation h = some r) (busy : s.journal.inService.isSome = true) (room : s.journal.queue.length < 6)
    (none : ∀ op ∈ s.journal.queue, op.isProgressOf h = false) : s.journalStep h d net =
      (s.stepAbsorbed h d net e r).setTag h ((s.tag h).askProgress s.elapsed
        ((s.stepAbsorbed h d net e r).blockContent h (s.steppedDelivery d net))) := by
  have requested := requestProgress_of_busy (s := s.setDelivery h (s.steppedDelivery d net)) (h := h)
    (s.stepImage h d net) busy room none
  have absorbed := ownAbsorb_known (h := h) (s := (s.setDelivery h (s.steppedDelivery d net)).setJournal
    { s.journal with queue := s.journal.queue ++ [.progress h (s.stepImage h d net)] })
    (d := s.steppedDelivery d net) known he ((s.steppedDelivery d net).item s.line.siteTime net false)
  rw [raiseAbsorbed_some (r := r) (by exact hr)] at absorbed
  unfold State.journalStep
  dsimp only
  rw [show ({ d with steps := net / s.stepVolume } : Delivery) = s.steppedDelivery d net from rfl]
  rw [show (s.steppedDelivery d net).image h s.line.siteTime (s.meter h).gross net
    (totalizerAdd (s.hose h).totalizer (s.meter h).gross) (s.meanNow h) = s.stepImage h d net from rfl, requested]
  rw [show ((s.setDelivery h (s.steppedDelivery d net)).journal) = s.journal from rfl, absorbed]
  rfl

theorem stepAbsorbed_hose : (s.stepAbsorbed h d net e r).hose h =
    { s.hose h with delivery := some (s.steppedDelivery d net) } := by
  rw [State.stepAbsorbed, State.setReservation_hose, (countLate_only _ _).hose_eq, (setEntry_only _ _).hose_eq]
  exact State.setHose_hose_self ..

theorem stepAbsorbed_entry (he : s.entry d.vehicle = some e) : (s.stepAbsorbed h d net e r).entry d.vehicle =
    some (s.absorbedEntry e ((s.steppedDelivery d net).item s.line.siteTime net false)) :=
  entry_setEntry_self (s := (s.setDelivery h (s.steppedDelivery d net)).setJournal _) he
    (show e.vehicle = d.vehicle from entry_vehicle he)

theorem stepAbsorbed_only : Only [.hoses, .journal, .fleet, .reservations] s (s.stepAbsorbed h d net e r) :=
  Only.next (b1 := [.hoses, .journal, .fleet]) (Only.next (b1 := [.hoses, .journal])
    ((setDelivery_only _ _ _).next (setJournal_only _ _)) ((setEntry_only _ _).trans (countLate_only _ _)))
    (setReservation_only _ _ _)

/-- The vehicle whose number a carry block of a delivery bears: that of the identity block held (R62). -/
def State.blockVehicle (s : State) (h : Side) (d : Delivery) : Nat :=
  match (s.tag h).identity with
  | none => d.vehicle
  | some i => i.vehicle

/-- The progress write of a journal step carries the delivery's absorbed carry. -/
theorem stepAbsorbed_blockContent (known : d.flags.unknownVehicle = false) (he : s.entry d.vehicle = some e) :
    (s.stepAbsorbed h d net e r).blockContent h (s.steppedDelivery d net) =
      carryBlock (s.blockVehicle h d)
        (e.carry.absorb ((s.steppedDelivery d net).item s.line.siteTime net false)).1 := by
  have carry : (s.stepAbsorbed h d net e r).carryOf h (s.steppedDelivery d net) =
      (e.carry.absorb ((s.steppedDelivery d net).item s.line.siteTime net false)).1 := by
    unfold State.carryOf
    rw [show (s.steppedDelivery d net).flags.unknownVehicle = false from known,
      show (s.steppedDelivery d net).vehicle = d.vehicle from rfl, stepAbsorbed_entry he]
    rfl
  unfold State.blockContent State.blockVehicle
  rw [carry, stepAbsorbed_only.tag_eq]
  cases (s.tag h).identity <;> rfl

/-- A tag unit with an exchange in flight keeps a progress write waiting (R60). -/
theorem askProgress_inFlight {u : TagUnit} (inFlight : u.state = .inFlight) (now : Nat) (content : List Byte) :
    u.askProgress now content = { u with waitingProgress := some content } :=
  serve_of_busy (u := { u with waitingProgress := some content }) (.inl (by rw [inFlight]; nofun))

end

/-! ### O27 -/

/-- The hose after a forward step and before its journal step and compares. -/
def State.flowedHose (s : State) (h : Side) (d : Delivery) : Hose :=
  { s.hose h with
    state := if (s.hose h).state = .authorised then (if (s.hose h).stage = .low then .slowing else .flowing)
      else (s.hose h).state
    noFlow := if (s.hose h).state = .authorised then none else (s.hose h).noFlow
    stall := some (s.elapsed + (s.hoseCfg h).stall * 1000)
    delivery := some (s.deliveryAfterStep h d) }

/-- The state after a forward step and before its journal step and compares. -/
def State.flowed (s : State) (h : Side) (d : Delivery) (m : Meter) : State :=
  (s.setMeter h m).setHose h (s.flowedHose h d)

section
variable (s : State) (h : Side) (d : Delivery) (m : Meter)

theorem flowed_hose : (s.flowed h d m).hose h = s.flowedHose h d := State.setHose_hose_self ..

theorem flowed_meter : (s.flowed h d m).meter h = m := by
  rw [State.flowed, State.setHose_meter, State.setMeter_meter_self]

theorem flowed_only : Only [.meters, .hoses] s (s.flowed h d m) := (setMeter_only _ _ _).next (setHose_only _ _ _)

theorem flowed_otherKept : OtherHoseKept h s (s.flowed h d m) :=
  (setMeter_otherKept _ _ _).trans (setHose_otherKept _ _ _)

end

section
variable {s : State} {h : Side} {ch : Channel} {level : Bool} {g net : Nat} {d : Delivery}

/-- A forward step at a hose in which fuel may pass. -/
theorem exec_step_of_open (step : ForwardStep s h ch level g net) (o : (s.hose h).state.open = true)
    (hd : (s.hose h).delivery = some d) :
    exec (.channelEdge h ch level) s = .next (State.actOnCompares
      (if (d.steps + 1) * (s.cfg.journalStep * 1000) ≤ net then
        (s.flowed h d (s.meterAfterStep h ch level g net)).journalStep h (s.deliveryAfterStep h d) net
      else s.flowed h d (s.meterAfterStep h ch level g net)) h (s.deliveryAfterStep h d) net) := by
  have meter : (s.setMeter h (s.meterAfterStep h ch level g net)).meter h = s.meterAfterStep h ch level g net :=
    State.setMeter_meter_self ..
  have marked : (s.setMeter h (s.meterAfterStep h ch level g net)).markedDelivery h d = s.deliveryAfterStep h d := by
    unfold State.markedDelivery State.deliveryAfterStep
    rw [meter, Bool.or_assoc]
    rfl
  rw [exec_channelEdge ch level step.1 (fitted_of_present step.2.2.1), takeEdge_of_step step,
    meterUpdate_of_open (s := s.setMeter h (s.meterAfterStep h ch level g net)) o hd, State.flowingHose, marked, meter]
  simp only [State.stepDue, decide_eq_true_eq]
  rfl

/-- Compares that no net has reached leave the hose as it is. -/
theorem actOnCompares_flows (short : ((s.hose h).lead : Int) < (d.target : Int) - net)
    (far : (s.hose h).state = .flowing → ((s.hoseCfg h).band : Int) * 1000 < (d.target : Int) - net) :
    s.actOnCompares h d net = s := by
  rw [actOnCompares_short short, if_neg]
  rintro ⟨flowing, slow⟩
  have := far flowing
  omega

end

/-- The first rise of gross is a step at a hose in AUTHORISED with the stage FULL. -/
theorem firstGross_flows {h : Side} {ch : Channel} {level : Bool} {s : State} {d : Delivery} {g net : Nat}
    (step : ForwardStep s h ch level g net) (authorised : (s.hose h).state = .authorised)
    (full : (s.hose h).stage = .full) (hd : (s.hose h).delivery = some d)
    (noStep : net < (d.steps + 1) * (s.cfg.journalStep * 1000))
    (noLead : ((s.hose h).lead : Int) < (d.target : Int) - net)
    (noSlow : ((s.hoseCfg h).band : Int) * 1000 < (d.target : Int) - net) :
    exec (.channelEdge h ch level) s = .next (s.flowed h d (s.meterAfterStep h ch level g net)) ∧
    s.flowedHose h d = { s.hose h with
      state := .flowing, noFlow := none, stall := some (s.elapsed + (s.hoseCfg h).stall * 1000)
      delivery := some (s.deliveryAfterStep h d) } := by
  have eq := exec_step_of_open step (by rw [authorised]; rfl) hd
  have flows := actOnCompares_flows (s := s.flowed h d (s.meterAfterStep h ch level g net)) (h := h)
    (d := s.deliveryAfterStep h d) (net := net) (by rw [flowed_hose]; exact noLead) fun _ => noSlow
  rw [if_neg (by omega), flows] at eq
  refine ⟨eq, ?_⟩
  simp [State.flowedHose, authorised, full]

end Sys2Proof.Machine

namespace Sys2Proof.Machine

set_option Elab.async false

/-! ### What a forward step at an open hose does -/

section
variable {s : State} {h : Side} {ch : Channel} {level : Bool} {g net : Nat} {d : Delivery}

theorem open_cases {x : HoseState} (o : x.open = true) : x = .authorised ∨ x = .flowing ∨ x = .slowing := by
  cases x
  case authorised => exact .inl rfl
  case flowing => exact .inr (.inl rfl)
  case slowing => exact .inr (.inr rfl)
  all_goals cases o

theorem flowed_state_slowing (slow : ((s.hose h).state = .authorised ∧ (s.hose h).stage = .low) ∨
    (s.hose h).state = .slowing) : (s.flowedHose h d).state = .slowing := by
  obtain ⟨authorised, low⟩ | slowing := slow
  · simp [State.flowedHose, authorised, low]
  · simp [State.flowedHose, slowing]

/-- A step short of the lead: a full flow within the slow-down band slows down. -/
theorem step_slowing (step : ForwardStep s h ch level g net) (o : (s.hose h).state.open = true)
    (hd : (s.hose h).delivery = some d) (noStep : net < (d.steps + 1) * (s.cfg.journalStep * 1000))
    (short : ((s.hose h).lead : Int) < (d.target : Int) - net) :
    ∃ t, exec (.channelEdge h ch level) s = .next t ∧ t.hose h =
      (if (s.flowedHose h d).state = .flowing ∧ (d.target : Int) - net ≤ ((s.hoseCfg h).band : Int) * 1000 then
        { s.flowedHose h d with state := .slowing, stage := .low }
      else s.flowedHose h d) ∧ t.meter h = s.meterAfterStep h ch level g net ∧ OtherHoseKept h s t ∧
      Only [.meters, .hoses] s t := by
  have compared := actOnCompares_short (s := s.flowed h d (s.meterAfterStep h ch level g net)) (h := h)
    (d := s.deliveryAfterStep h d) (net := net) (by rw [flowed_hose]; exact short)
  have frame := flowed_only s h d (s.meterAfterStep h ch level g net)
  have other := flowed_otherKept s h d (s.meterAfterStep h ch level g net)
  rw [flowed_hose, frame.hoseCfg_eq, show (s.deliveryAfterStep h d).target = d.target from rfl] at compared
  refine ⟨_, by rw [exec_step_of_open step o hd, if_neg (by omega), compared], ?_⟩
  by_cases slows : (s.flowedHose h d).state = .flowing ∧ (d.target : Int) - net ≤ ((s.hoseCfg h).band : Int) * 1000
  · rw [if_pos slows, if_pos slows]
    exact ⟨State.setHose_hose_self .., by rw [State.setHose_meter, flowed_meter], other.trans (setHose_otherKept _ _ _),
      frame.trans (setHose_only _ _ _).mono⟩
  · rw [if_neg slows, if_neg slows]
    exact ⟨flowed_hose _ _ _ _, flowed_meter _ _ _ _, other, frame⟩

/-- A step that reaches the lead ends the delivery. -/
theorem step_reaches (step : ForwardStep s h ch level g net) (o : (s.hose h).state.open = true)
    (hd : (s.hose h).delivery = some d) (noStep : net < (d.steps + 1) * (s.cfg.journalStep * 1000))
    (met : (d.target : Int) - net ≤ ((s.hose h).lead : Int)) :
    exec (.channelEdge h ch level) s =
      .next ((s.flowed h d (s.meterAfterStep h ch level g net)).endDelivery h .targetReached) := by
  have compared := actOnCompares_reached (s := s.flowed h d (s.meterAfterStep h ch level g net)) (h := h)
    (d := s.deliveryAfterStep h d) (net := net) (by rw [flowed_hose]; exact met)
  rw [exec_step_of_open step o hd, if_neg (by omega), compared]

theorem flowedHose_open (o : (s.hose h).state.open = true) : (s.flowedHose h d).state.open = true := by
  obtain e | e | e := open_cases o
  · simp only [State.flowedHose, e, if_true]
    split <;> rfl
  · simp [State.flowedHose, e, HoseState.open]
  · simp [State.flowedHose, e, HoseState.open]

/-- The delivery ended by the lead compare stands in CLOSING. -/
theorem flowed_closing (o : (s.hose h).state.open = true) {m : Meter} (gross : 0 < m.gross) :
    ((s.flowed h d m).endDelivery h .targetReached).hose h = { s.hose h with
      state := .closing, stage := .closed, pump := false
      delivery := some { s.deliveryAfterStep h d with
        endReason := some .targetReached, endTime := some s.line.siteTime }
      reason := some (.ended .targetReached), noFlow := none, stall := none, tagLoss := none
      settle := some (s.elapsed + 3000), tagAbsent := (s.hose h).tagAbsent || !(s.tag h).lastAnswered } ∧
    ((s.flowed h d m).endDelivery h .targetReached).tag h = (s.tag h).deliveryEnd ∧
    Only [.hoses, .tags, .notice] (s.flowed h d m) ((s.flowed h d m).endDelivery h .targetReached) := by
  obtain ⟨hose, tag, frame⟩ := endDelivery_closing (s := s.flowed h d m) (h := h) (d := s.deliveryAfterStep h d)
    .targetReached (by rw [flowed_hose]; exact flowedHose_open o) (by rw [flowed_hose]; rfl)
    (.inl (by rw [flowed_meter]; exact gross))
  refine ⟨?_, tag, frame⟩
  have absent := endedHose_tagAbsent s h d (r := .targetReached) nofun nofun
  rw [hose, State.endedHose, flowed_hose, ← absent]
  rfl

theorem flowed_stepAbsorbed_otherKept {m : Meter} {e : FleetEntry} {r : Reservation} {u : TagUnit} :
    OtherHoseKept h s (((s.flowed h d m).stepAbsorbed h (s.deliveryAfterStep h d) net e r).setTag h u) := by
  refine (flowed_otherKept s h d m).trans (OtherHoseKept.trans ?_ (setTag_otherKept _ _ _))
  exact (setHose_otherKept _ _ _).trans (((setJournal_only _ _).otherKept h).trans
    ((((setEntry_only _ _).trans (countLate_only _ _)).otherKept h).trans (setReservation_otherKept _ _ _)))

/-- A step that takes a journal step of a known vehicle and reaches no compare. -/
theorem step_steps {e : FleetEntry} {r : Reservation} (step : ForwardStep s h ch level g net)
    (hd : (s.hose h).delivery = some d) (due : (d.steps + 1) * (s.cfg.journalStep * 1000) ≤ net)
    (short : ((s.hose h).lead : Int) < (d.target : Int) - net)
    (state : (s.hose h).state = .slowing ∨ ((s.hose h).state = .flowing ∧
      ((s.hoseCfg h).band : Int) * 1000 < (d.target : Int) - net))
    (known : d.flags.unknownVehicle = false) (he : s.entry d.vehicle = some e) (hr : s.reservation h = some r)
    (inFlight : (s.tag h).state = .inFlight) (busy : s.journal.inService.isSome = true)
    (room : s.journal.queue.length < 6) (noProgress : ∀ op ∈ s.journal.queue, op.isProgressOf h = false) :
    ∃ u : State, u = s.flowed h d (s.meterAfterStep h ch level g net) ∧
      exec (.channelEdge h ch level) s = .next ((u.stepAbsorbed h (s.deliveryAfterStep h d) net e r).setTag h
        { s.tag h with
          waitingProgress := some (carryBlock (s.blockVehicle h d) (e.carry.absorb
            ((u.steppedDelivery (s.deliveryAfterStep h d) net).item s.line.siteTime net false)).1) }) := by
  have o : (s.hose h).state.open = true := by
    obtain e | ⟨e, -⟩ := state <;> rw [e] <;> rfl
  refine ⟨_, rfl, ?_⟩
  have stepped := journalStep_known (s := s.flowed h d (s.meterAfterStep h ch level g net)) (h := h)
    (d := s.deliveryAfterStep h d) (net := net) (e := e) (r := r) known he hr busy room noProgress
  rw [askProgress_inFlight (by exact inFlight), stepAbsorbed_blockContent (by exact known) (by exact he)] at stepped
  have hose :
      (((s.flowed h d (s.meterAfterStep h ch level g net)).journalStep h (s.deliveryAfterStep h d) net).hose h) =
      { s.flowedHose h d with
        delivery := some ((s.flowed h d (s.meterAfterStep h ch level g net)).steppedDelivery
          (s.deliveryAfterStep h d) net) } := by
    rw [stepped, State.setTag_hose, stepAbsorbed_hose, flowed_hose]
  have flows := actOnCompares_flows
    (s := (s.flowed h d (s.meterAfterStep h ch level g net)).journalStep h (s.deliveryAfterStep h d) net) (h := h)
    (d := s.deliveryAfterStep h d) (net := net) (by rw [hose]; exact short) (by
      rw [hose, (journalStep_frame _ _ _ _).hoseCfg_eq]
      intro flowing
      obtain slowing | ⟨-, far⟩ := state
      · simp [State.flowedHose, slowing] at flowing
      · exact far)
  rw [exec_step_of_open step o hd, if_pos due, flows, stepped]
  rfl

end

/-- Settles O27: a rise of gross in a live delivery, by its journal step and its compares. -/
theorem firstGrossStartsFlow : Obligations.FirstGrossStartsFlow := by
  refine ⟨?_, ?_⟩
  · intro h ch l level s d m g net run good present authorised full hd hm last turn forward room hg rises hnet noStep
      noLead noSlow
    have step : ForwardStep s h ch level g net := by
      refine ⟨by rw [run]; nofun, good, present, ⟨l, last, turn⟩, ?_, room, hg, rises, hnet⟩
      rw [hm] at forward
      cases ch <;> exact forward
    obtain ⟨eq, hose⟩ := firstGross_flows step authorised full hd noStep noLead noSlow
    refine ⟨_, eq, ?_, by rw [flowed_hose, hose]; rfl, flowed_otherKept _ _ _ _, flowed_only _ _ _ _⟩
    rw [flowed_meter, hm, record_eq]
    rfl
  · intro h ch level s d d' g net step hd hd' o
    subst hd'
    have gross : 0 < (s.meterAfterStep h ch level g net).gross := by
      obtain ⟨-, -, -, -, -, -, -, rises, -⟩ := step
      exact Nat.zero_lt_of_lt rises
    refine ⟨fun noStep => ?_, fun e r c v due positive short state known he hr inFlight busy room none hc hv => ?_⟩
    · by_cases short : ((s.hose h).lead : Int) < (d.target : Int) - net
      · obtain ⟨t, eq, hose, meter, other, frame⟩ := step_slowing step o hd noStep short
        refine ⟨t, eq, meter, fun _ => ⟨fun slow => ?_, fun flowing => ?_, frame⟩, fun met => by omega, other⟩
        · rw [hose, if_neg (by rw [flowed_state_slowing slow]; nofun), ← flowed_state_slowing (d := d) slow]
          rfl
        · rw [hose, State.flowedHose, flowing]
          by_cases near : (d.target : Int) - net ≤ ((s.hoseCfg h).band : Int) * 1000 <;> simp [near]
      · have eq := step_reaches step o hd noStep (by omega)
        obtain ⟨hose, tag, frame⟩ := flowed_closing (d := d) o gross
        refine ⟨_, eq, ?_, fun short' => absurd short' short, fun _ => ⟨hose, ?_, ?_, ?_, ?_⟩,
          (flowed_otherKept _ _ _ _).trans (endDelivery_otherKept _ _ _)⟩
        · rw [(endDelivery_only _ _ _).meter_eq, flowed_meter]
        · rw [tag]; rfl
        · rw [tag]; rfl
        · rw [tag]; rfl
        · exact (flowed_only _ _ _ _).next frame
    · subst hc hv
      obtain ⟨u, hu, eq⟩ := step_steps step hd due short state known he hr inFlight busy room none
      have meter : u.meter h = s.meterAfterStep h ch level g net := by rw [hu, flowed_meter]
      have hoseU : u.hose h = s.flowedHose h d := by rw [hu, flowed_hose]
      have frameU : Only [.meters, .hoses] s u := by rw [hu]; exact flowed_only _ _ _ _
      have notAuthorised : (s.hose h).state ≠ .authorised := by
        obtain e | ⟨e, -⟩ := state <;> rw [e] <;> nofun
      have frame : Only [.hoses, .journal, .fleet, .reservations] u
          (u.stepAbsorbed h (s.deliveryAfterStep h d) net e r) := stepAbsorbed_only
      have heU : u.entry (s.deliveryAfterStep h d).vehicle = some e := by
        rw [hu]
        exact he
      have total : (u.stepImage h (s.deliveryAfterStep h d) net).totalizer =
          ((s.hose h).totalizer + g) % 100000000000 := by
        show totalizerAdd (u.hose h).totalizer (u.meter h).gross = _
        rw [hoseU, meter]
        rfl
      refine ⟨_, u.stepImage h (s.deliveryAfterStep h d) net, eq, ?_, ?_, ?_, rfl, rfl, rfl, rfl, rfl, rfl, rfl,
        frameU.line_eq ▸ rfl, rfl, rfl, ?_, rfl, rfl, rfl, rfl, total, ?_, ?_, ?_, ?_, ?_⟩
      · rw [State.setTag_meter, frame.meter_eq, meter]
      · rw [State.setTag_hose, stepAbsorbed_hose, hoseU, State.flowedHose, if_neg notAuthorised, if_neg notAuthorised,
          State.steppedDelivery, State.stepVolume, frameU.cfg_eq]
      · rw [hu]
        rfl
      · show (u.meter h).gross = g
        rw [meter]
        rfl
      · refine (stepAbsorbed_entry (h := h) (net := net) (r := r) heU).trans ?_
        rw [State.absorbedEntry, frameU.line_eq]
        rfl
      · rw [State.setTag_tag_self, State.blockVehicle]
        rfl
      · rw [State.setTag_reservation]
        exact State.setReservation_reservation_self ..
      · rw [hu]
        exact flowed_stepAbsorbed_otherKept
      · exact Only.next (b1 := [.meters, .hoses, .journal, .fleet, .reservations]) (frameU.next frame)
          (setTag_only _ _ _)

end Sys2Proof.Machine

namespace Sys2Proof.Machine

set_option Elab.async false

/-! ### The checks and the grant (R10 to R13) -/

section
variable {s : State} {h : Side} {c : Candidate}

theorem judge_refuses {r : RefusalReason} (fails : s.checkVehicle h c = some r) : s.judge h c = s.refuse h r := by
  simp only [State.judge, fails]

theorem judge_grants (passes : s.checkVehicle h c = none) : s.judge h c = s.grant h c := by
  simp only [State.judge, passes]

/-- The check of R10 that fails first. -/
theorem checkVehicle_eq (s : State) (h : Side) (c : Candidate) : s.checkVehicle h c =
    if c.grades.getLsbD (s.hoseCfg h).grade = false then some .gradeMismatch
    else if (c.attrs ^^^ (s.hoseCfg h).compare) &&& (s.hoseCfg h).care ≠ 0 then some .access
    else if c.hold = true then some .held
    else if s.journal.claimAvailableFor s.cfg.nj h = false then some .journalFull
    else if (c.service.state = .overdue ∧ s.panel.supervisorOn = false) ∧ c.returnQty = 0 then some .serviceOverdue
    else if belowMinimum (s.remaining h c) s.cfg.minIssue = true then some .allowanceSpent
    else none := by
  simp [State.checkVehicle, gradeIn, accessDiffers, State.caps]

theorem belowMinimum_some {n : Int} {m : Nat} : belowMinimum (some n) m = true ↔ n < (m : Int) * 1000 := by
  simp [belowMinimum]

/-- A refusal touches the hose and the notice port alone. -/
theorem refuse_result (s : State) (h : Side) (r : RefusalReason) :
    (s.refuse h r).hose h = { s.hose h with
      state := .refused, reason := some (.refusal r), liftWait := none, pinned := none, standIn := none } ∧
    (s.refuse h r).hose h.other = s.hose h.other ∧ Only [.hoses, .notice] s (s.refuse h r) :=
  ⟨refuse_hose s h r, (refuse_otherKept s h r).1, refuse_only s h r⟩

end

/-- The first of the vehicle checks that fails refuses. -/
theorem checks_refuse (h : Side) (s : State) (c : Candidate) (g : HoseConfig) (r : RefusalReason)
    (hg : g = s.hoseCfg h)
    (fails : (c.grades.getLsbD g.grade = false ∧ r = .gradeMismatch) ∨
      (c.grades.getLsbD g.grade = true ∧ (c.attrs ^^^ g.compare) &&& g.care ≠ 0 ∧ r = .access) ∨
      (c.grades.getLsbD g.grade = true ∧ (c.attrs ^^^ g.compare) &&& g.care = 0 ∧ c.hold = true ∧ r = .held) ∨
      (c.grades.getLsbD g.grade = true ∧ (c.attrs ^^^ g.compare) &&& g.care = 0 ∧ c.hold = false ∧
        s.journal.claimAvailableFor s.cfg.nj h = false ∧ r = .journalFull) ∨
      (c.grades.getLsbD g.grade = true ∧ (c.attrs ^^^ g.compare) &&& g.care = 0 ∧ c.hold = false ∧
        s.journal.claimAvailableFor s.cfg.nj h = true ∧ c.service.state = .overdue ∧
        s.panel.supervisorOn = false ∧ c.returnQty = 0 ∧ r = .serviceOverdue) ∨
      (c.grades.getLsbD g.grade = true ∧ (c.attrs ^^^ g.compare) &&& g.care = 0 ∧ c.hold = false ∧
        s.journal.claimAvailableFor s.cfg.nj h = true ∧
        (c.service.state ≠ .overdue ∨ s.panel.supervisorOn = true ∨ c.returnQty ≠ 0) ∧
        (∃ n, s.remaining h c = some n ∧ n < (s.cfg.minIssue : Int) * 1000) ∧ r = .allowanceSpent)) :
    s.judge h c = s.refuse h r := by
  subst hg
  apply judge_refuses
  rw [checkVehicle_eq]
  obtain ⟨grade, rfl⟩ | ⟨grade, access, rfl⟩ | ⟨grade, access, held, rfl⟩ | ⟨grade, access, held, claim, rfl⟩ |
    ⟨grade, access, held, claim, overdue, key, none, rfl⟩ |
    ⟨grade, access, held, claim, notCapped, ⟨n, remaining, less⟩, rfl⟩ := fails
  · rw [if_pos grade]
  · rw [if_neg (by simp [grade]), if_pos access]
  · rw [if_neg (by simp [grade]), if_neg (by simp [access]), if_pos held]
  · rw [if_neg (by simp [grade]), if_neg (by simp [access]), if_neg (by simp [held]), if_pos claim]
  · rw [if_neg (by simp [grade]), if_neg (by simp [access]), if_neg (by simp [held]), if_neg (by simp [claim]),
      if_pos ⟨⟨overdue, key⟩, none⟩]
  · have due : ¬((c.service.state = .overdue ∧ s.panel.supervisorOn = false) ∧ c.returnQty = 0) := by
      rintro ⟨⟨overdue, key⟩, none⟩
      obtain e | e | e := notCapped
      · exact e overdue
      · exact nomatch key.symm.trans e
      · exact e none
    rw [if_neg (by simp [grade]), if_neg (by simp [access]), if_neg (by simp [held]), if_neg (by simp [claim]),
      if_neg due, remaining, if_pos (belowMinimum_some.2 less)]

section
variable {s : State} {h : Side} {c : Candidate}

theorem takeSequence_below (below : s.journal.nextSeq < 16777215) :
    s.takeSequence = s.setJournal { s.journal with nextSeq := s.journal.nextSeq + 1 } := by
  have last : s.journal.nextSeq ≠ Config.sequenceMax := Nat.ne_of_lt below
  unfold State.takeSequence Journal.advanceSeq
  dsimp only
  rw [if_neg last, if_neg last]

/-- The grant with a sequence left in the epoch. -/
theorem grant_below (below : s.journal.nextSeq < 16777215) : s.grant h c =
    ((((s.setJournal { s.journal with claims := s.journal.claims + 1, nextSeq := s.journal.nextSeq + 1 }).setReservation
      h (some (s.grantReservation h c))).setHose h (s.grantHose h c)).setMeter h (s.meter h).clear).setTag h
        ((s.tag h).pollingOn s.elapsed) := by
  unfold State.grant
  rw [takeSequence_below (s := s.setJournal { s.journal with claims := s.journal.claims + 1 }) below]
  rfl

theorem grant_frame (below : s.journal.nextSeq < 16777215) :
    Only [.journal, .reservations, .hoses, .meters, .tags] s (s.grant h c) := by
  rw [grant_below below]
  exact Only.next (b1 := [.journal, .reservations, .hoses, .meters])
    (Only.next (b1 := [.journal, .reservations, .hoses])
    (Only.next (b1 := [.journal, .reservations]) ((setJournal_only _ _).next (setReservation_only _ _ _))
      (setHose_only _ _ _)) (setMeter_only _ _ _)) (setTag_only _ _ _)

/-- The target of a grant: the least of the remaining allowance, the maximum delivery and, where the vehicle is
capped, the return quantity (R12, R94). -/
theorem grantTarget_eq {most target : Nat} {capped : Bool} (hcap : capped = s.caps c)
    (hmost : most = (s.hoseCfg h).maxDelivery * 1000)
    (ht : (s.remaining h c = none ∧ target = if capped then min most (c.returnQty * 1000) else most) ∨
      (∃ n, s.remaining h c = some n ∧
        target = if capped then min (min most n.toNat) (c.returnQty * 1000) else min most n.toNat)) :
    s.grantTarget h c = target := by
  subst hcap hmost
  unfold State.grantTarget
  obtain ⟨remaining, rfl⟩ | ⟨n, remaining, rfl⟩ := ht
  · simp only [remaining]
  · simp only [remaining]

end

/-- Settles O29: a candidate that passes every check is granted, and the grant says what stands after it. -/
theorem grantMakesDelivery : Obligations.GrantMakesDelivery := by
  intro h s c most target capped passes hcap hmost ht below
  have capped_eq : capped = s.caps c := hcap
  have target_eq := grantTarget_eq capped_eq hmost ht
  have other := grant_otherKept s h c
  have frame := grant_frame (h := h) (c := c) below
  have eq := grant_below (h := h) (c := c) below
  have journal : (s.grant h c).journal =
      { s.journal with claims := s.journal.claims + 1, nextSeq := s.journal.nextSeq + 1 } := by
    rw [eq]
    rfl
  have reservation : (s.grant h c).reservation h = some (s.grantReservation h c) := by
    simp [eq]
  have hose : (s.grant h c).hose h = s.grantHose h c := by
    simp [eq]
  have meter : (s.grant h c).meter h = (s.meter h).clear := by
    simp [eq]
  have tag : (s.grant h c).tag h = (s.tag h).pollingOn s.elapsed := by
    simp [eq]
  rw [judge_grants passes, hose, meter, tag]
  refine ⟨journal, ⟨_, reservation, rfl, rfl, rfl, rfl, rfl, target_eq, rfl, capped_eq.symm, rfl, rfl⟩,
    ⟨_, rfl, rfl, rfl, rfl, rfl, rfl, rfl, target_eq, rfl, rfl, rfl, rfl, rfl, rfl, rfl⟩, rfl, ?_, rfl, rfl, rfl, rfl,
    rfl, rfl, rfl, rfl, other, frame⟩
  show grantStage (s.grantTarget h c) (s.hoseCfg h).band = _
  rw [target_eq]
  simp [grantStage, slowDownMet]

end Sys2Proof.Machine

namespace Sys2Proof.Machine

set_option Elab.async false

/-! ### The attempt of an exchange in flight (R52) -/

section
variable {s : State} {h : Side} {x : Exchange}

/-- An answer that bears the number of the command in flight and completes it ends the attempt. -/
theorem readerAnswer_inFlight {a : ReaderAnswer} (inFlight : (s.tag h).state = .inFlight)
    (current : (s.tag h).current = some x) (completes : x.request.completedBy a = true) :
    s.readerAnswer h x.number a = s.attemptEnded h x a := by
  simp only [State.readerAnswer, current, if_true, State.endAttempt, inFlight, completes]

theorem exec_windowExpiry (inFlight : (s.tag h).state = .inFlight) (current : (s.tag h).current = some x)
    (window : (s.tag h).window.isSome = true) :
    exec (.readerWindowExpiry h) s = .next (s.attemptEnded h x .silence) := by
  obtain ⟨w, hw⟩ := Option.isSome_iff_exists.1 window
  have completes : x.request.completedBy .silence = true := rfl
  simp only [exec, execReaderWindowExpiry, current, hw, State.endAttempt, inFlight, completes, if_true]

/-- With polling off an attempt's end is no poll result (R59). -/
theorem attemptEnded_of_not_polling (off : (s.tag h).polling = false) (a : ReaderAnswer) : s.attemptEnded h x a =
    match (s.tag h).judge x.request a with
    | some ok => s.exchangeDone h x.request ok
    | none => if (s.tag h).triesAgain x then s.setTag h ((s.tag h).retry s.elapsed x)
      else s.exchangeGivenUp h x.request := by
  have none : s.pollResult h ((s.tag h).answeredBy a) = s := by
    simp [State.pollResult, off]
  unfold State.attemptEnded
  rw [none] <;> rfl

theorem attemptEnded_done {a : ReaderAnswer} {ok : Success} (off : (s.tag h).polling = false)
    (succeeds : (s.tag h).judge x.request a = some ok) :
    s.attemptEnded h x a = s.exchangeDone h x.request ok := by
  rw [attemptEnded_of_not_polling off, succeeds]

theorem attemptEnded_retries {a : ReaderAnswer} (off : (s.tag h).polling = false)
    (fails : (s.tag h).judge x.request a = none) (again : (s.tag h).triesAgain x = true) :
    s.attemptEnded h x a = s.setTag h ((s.tag h).retry s.elapsed x) := by
  rw [attemptEnded_of_not_polling off, fails]
  exact if_pos again

theorem attemptEnded_givenUp {a : ReaderAnswer} (off : (s.tag h).polling = false)
    (fails : (s.tag h).judge x.request a = none) (last : (s.tag h).triesAgain x = false) :
    s.attemptEnded h x a = s.exchangeGivenUp h x.request := by
  rw [attemptEnded_of_not_polling off, fails]
  exact if_neg (by rw [last]; nofun)

/-- The commands that bring no answer of a tag. -/
def NoAnswer (h : Side) (x : Exchange) (c : Instr) : Prop :=
  c = .readerNoTag h x.number ∨ c = .readerFault h x.number ∨ c = .readerWindowExpiry h

/-- NO TAG, READER FAULT and the window's expiry end the attempt, which has failed. -/
theorem exec_noAnswer {c : Instr} (inFlight : (s.tag h).state = .inFlight) (current : (s.tag h).current = some x)
    (window : (s.tag h).window.isSome = true) (silent : NoAnswer h x c) :
    ∃ a, exec c s = .next (s.attemptEnded h x a) ∧ (s.tag h).judge x.request a = none ∧
      (s.tag h).answeredBy a = false := by
  have fails (r : Request) (u : TagUnit) :
      u.judge r .noTag = none ∧ u.judge r .readerFault = none ∧ u.judge r .silence = none := by
    cases r with
    | read k => cases k <;> exact ⟨rfl, rfl, rfl⟩
    | progress w => exact ⟨rfl, rfl, rfl⟩
    | writeBack w => exact ⟨rfl, rfl, rfl⟩
    | poll => exact ⟨rfl, rfl, rfl⟩
  obtain ⟨noTag, fault, silence⟩ := fails x.request (s.tag h)
  obtain rfl | rfl | rfl := silent
  · exact ⟨.noTag, congrArg _ (readerAnswer_inFlight inFlight current rfl), noTag, rfl⟩
  · exact ⟨.readerFault, congrArg _ (readerAnswer_inFlight inFlight current rfl), fault, rfl⟩
  · exact ⟨.silence, exec_windowExpiry inFlight current window, silence, rfl⟩

theorem triesAgain_of_few (few : x.attempts < 3) (more : x.noMore = false) (notPoll : x.request ≠ .poll)
    (notProgress : x.request.isProgress = false) : (s.tag h).triesAgain x = true := by
  have most : x.request.maxAttempts = 3 := by
    cases e : x.request with
    | poll => exact absurd e notPoll
    | _ => rfl
  simp [TagUnit.triesAgain, most, few, more, notProgress]

theorem triesAgain_of_last (last : 3 ≤ x.attempts ∨ x.noMore = true) : (s.tag h).triesAgain x = false := by
  have most : x.request.maxAttempts ≤ 3 := by
    cases x.request <;> simp [Request.maxAttempts]
  obtain third | noMore := last
  · have : ¬x.attempts < x.request.maxAttempts := by omega
    simp [TagUnit.triesAgain, this]
  · simp [TagUnit.triesAgain, noMore]

/-- The next block asked for while nothing else waits at a unit that has just become READY. -/
theorem askNext_served {u : TagUnit} {k : ReadKind} (identifying : (s.hose h).state = .identifying)
    (tag : s.tag h = u) (ready : u.state = .ready) (quiet : u.quiet = none) (noWriteBack : u.waitingWriteBack = none)
    (noProgress : u.waitingProgress = none) : s.askNext h k =
      s.setTag h (({ u with waitingRead := none } : TagUnit).begin s.elapsed (.read k)) := by
  unfold State.askNext TagUnit.askRead
  rw [if_pos identifying, tag,
    serve_read (u := { u with waitingRead := some k }) ready quiet noWriteBack noProgress rfl]

end

/-- Settles O31: a failed attempt of a read is the next attempt, or gives the read up. -/
theorem failedReadIsTriedAgain : Obligations.FailedReadIsTriedAgain := by
  intro h s x k c inFlight current request more off identifying window silent
  obtain ⟨a, run, fails, -⟩ := exec_noAnswer inFlight current window silent
  refine ⟨fun few => ?_, fun third identity quiet noWriteBack noProgress => ?_⟩
  · have again := triesAgain_of_few (s := s) (h := h) few more (by rw [request]; nofun) (by rw [request]; rfl)
    rw [attemptEnded_retries off fails again] at run
    refine ⟨_, run, ?_, setTag_otherKept _ _ _, setTag_only _ _ _⟩
    rw [State.setTag_tag_self, TagUnit.retry, request]
    rfl
  · subst identity
    rw [attemptEnded_givenUp off fails (triesAgain_of_last (.inl (by omega))), request] at run
    have asks : s.exchangeGivenUp h (.read .identity) = (s.setTag h (s.tag h).toReady).askNext h .identity := rfl
    rw [asks, askNext_served (u := (s.tag h).toReady) (by simpa using identifying) (by simp) rfl quiet noWriteBack
      noProgress] at run
    refine ⟨_, run, ?_, ?_, (setTag_otherKept _ _ _).trans (setTag_otherKept _ _ _),
      (setTag_only _ _ _).trans (setTag_only _ _ _)⟩
    · rw [State.setTag_tag_self]
      rfl
    · rw [State.setTag_tag_self]
      rfl

/-! ### A poll result (R16, R59) -/

section
variable {s : State} {h : Side} {x : Exchange}

/-- The tag-loss timer after a poll result (R16). -/
def State.tagLossAfter (s : State) (h : Side) (answered : Bool) : Option Nat :=
  if answered then none
  else if (s.hose h).tagLoss.isSome then (s.hose h).tagLoss else some (s.elapsed + s.cfg.tagLoss * 1000)

theorem pollResult_of_polling (on : (s.tag h).polling = true) (answered : Bool) : s.pollResult h answered =
    (s.setTag h { s.tag h with lastAnswered := answered }).setHose h
      { s.hose h with tagLoss := s.tagLossAfter h answered } := by
  unfold State.pollResult State.tagLossAfter
  simp only [on, if_true]
  cases (s.hose h).tagLoss <;> rfl

/-- The end of a poll's one attempt: a result, and the unit READY with nothing to serve. -/
theorem attemptEnded_poll {a : ReaderAnswer} (on : (s.tag h).polling = true) (poll : x.request = .poll)
    (one : x.attempts = 1) (judged : (s.tag h).judge .poll a = some .polled ∨ (s.tag h).judge .poll a = none)
    (noWriteBack : (s.tag h).waitingWriteBack = none) (noProgress : (s.tag h).waitingProgress = none)
    (noRead : (s.tag h).waitingRead = none) : s.attemptEnded h x a =
      ((s.setTag h { s.tag h with lastAnswered := (s.tag h).answeredBy a }).setHose h
        { s.hose h with tagLoss := s.tagLossAfter h ((s.tag h).answeredBy a) }).setTag h
          ({ s.tag h with lastAnswered := (s.tag h).answeredBy a } : TagUnit).toReady := by
  have idle : TagUnit.serve ({ s.tag h with lastAnswered := (s.tag h).answeredBy a } : TagUnit).toReady s.elapsed =
      ({ s.tag h with lastAnswered := (s.tag h).answeredBy a } : TagUnit).toReady :=
    serve_idle noWriteBack noProgress noRead (by simp [TagUnit.toReady])
  have noMore (u : TagUnit) : u.triesAgain x = false := by
    simp [TagUnit.triesAgain, poll, one, Request.maxAttempts]
  have same (u : TagUnit) : u.judge .poll a = (s.tag h).judge .poll a := by cases a <;> rfl
  unfold State.attemptEnded
  rw [pollResult_of_polling on]
  dsimp only
  rw [State.setHose_tag, State.setTag_tag_self, noMore, poll, same]
  obtain e | e := judged
  · rw [e]
    simp only [State.exchangeDone, State.serveTag, State.setHose_tag, State.setTag_tag_self, State.setTag_elapsed,
      State.setHose_elapsed, idle, State.setTag_setTag]
  · rw [e]
    simp only [Bool.false_eq_true, if_false, State.exchangeGivenUp, State.serveTag, State.setHose_tag,
      State.setTag_tag_self, State.setTag_elapsed, State.setHose_elapsed, idle, State.setTag_setTag]

end

/-- Settles O32: whatever ends a poll's attempt, the poll result sets the tag-loss timer and the unit is READY. -/
theorem pollResultSetsTagLossTimer : Obligations.PollResultSetsTagLossTimer := by
  intro h s x c answered serial inFlight current poll one on window quiet noWriteBack noProgress noRead answer
  have ended : ∃ a, exec c s = .next (s.attemptEnded h x a) ∧ (s.tag h).answeredBy a = answered ∧
      ((s.tag h).judge .poll a = some .polled ∨ (s.tag h).judge .poll a = none) := by
    have silent (silent : NoAnswer h x c) (not : answered = false) : ∃ a, exec c s = .next (s.attemptEnded h x a) ∧
        (s.tag h).answeredBy a = answered ∧
        ((s.tag h).judge .poll a = some .polled ∨ (s.tag h).judge .poll a = none) := by
      obtain ⟨a, run, fails, unanswered⟩ := exec_noAnswer inFlight current window silent
      exact ⟨a, run, unanswered.trans not.symm, .inr (poll ▸ fails)⟩
    obtain ⟨rfl, rfl⟩ | ⟨e, not⟩ | ⟨e, not⟩ | ⟨e, not⟩ := answer
    · refine ⟨.present serial, congrArg _ (readerAnswer_inFlight inFlight current ?_), ?_, .inl rfl⟩
      · rw [poll]
        rfl
      · rw [Bool.eq_iff_iff]
        simp [TagUnit.answeredBy]
    · exact silent (.inl e) not
    · exact silent (.inr (.inl e)) not
    · exact silent (.inr (.inr e)) not
  obtain ⟨a, run, rfl, judged⟩ := ended
  rw [attemptEnded_poll on poll one judged noWriteBack noProgress noRead] at run
  refine ⟨_, run, ?_, ?_, ((setTag_otherKept _ _ _).trans (setHose_otherKept _ _ _)).trans (setTag_otherKept _ _ _),
    Only.next (b1 := [.tags, .hoses]) ((setTag_only _ _ _).next (setHose_only _ _ _)) (setTag_only _ _ _)⟩
  · rw [State.setTag_tag_self]
    rfl
  · rw [State.setTag_hose, State.setHose_hose_self]
    rfl

end Sys2Proof.Machine

namespace Sys2Proof.Machine

set_option Elab.async false

/-! ### The append of a hose's record (R22, R148, R150) -/

section
variable {s : State} {h : Side}

theorem assign_of_free {j : Journal} {nj : Nat} (free : 0 < j.free nj) :
    j.assign nj = { j with unsent := j.unsent + 1, nextSerial := j.nextSerial + 1 } := by
  unfold Journal.assign
  exact if_pos free

/-- A hose's append is given the FREE slot at the head and the next serial, and waits behind the operation in
service, its FINAL rewrite withdrawn. -/
theorem passAppend_of_free (i : IssueRecord) (free : 0 < s.journal.free s.cfg.nj)
    (serial : s.journal.nextSerial ≤ 4294967295) (busy : s.journal.inService.isSome = true) :
    s.passAppend .hose (.issue i) = s.setJournal { s.journal with
      unsent := s.journal.unsent + 1, nextSerial := s.journal.nextSerial + 1
      queue := (s.journal.queue.filter fun op => !op.isFinalOf i.hose) ++
        [.append .hose (s.journal.head s.cfg.nj) s.journal.nextSerial (.issue i)] } := by
  have assigns : s.journal.canAssign s.cfg.nj = true := by
    have : s.journal.nextSerial ≤ Config.serialMax := serial
    have : 1 ≤ s.journal.reclaimable s.cfg.nj := by
      unfold Journal.reclaimable
      omega
    simp [Journal.canAssign, *]
  unfold State.passAppend
  dsimp only
  rw [if_pos assigns, assign_of_free free, pushOp_of_busy (by exact busy)]
  rfl

/-- The record of a delivery with its FINAL image made, passed as an append. -/
theorem recordDelivery_of_free {d : Delivery} {img : IssueRecord} (hd : (s.hose h).delivery = some d)
    (himg : d.finalImage = some img) (free : 0 < s.journal.free s.cfg.nj)
    (serial : s.journal.nextSerial ≤ 4294967295) (busy : s.journal.inService.isSome = true) (updated : Bool) :
    s.recordDelivery h updated =
      (s.setDelivery h { d with flags := { d.flags with tagNotUpdated := !updated } }).setJournal
      { s.journal with
        unsent := s.journal.unsent + 1, nextSerial := s.journal.nextSerial + 1
        queue := (s.journal.queue.filter fun op => !op.isFinalOf img.hose) ++
          [.append .hose (s.journal.head s.cfg.nj) s.journal.nextSerial
            (.issue { img with flags := { img.flags with tagNotUpdated := !updated } })] } := by
  have passed := passAppend_of_free
    (s := s.setDelivery h { d with flags := { d.flags with tagNotUpdated := !updated } })
    { img with flags := { img.flags with tagNotUpdated := !updated } } free serial busy
  unfold State.recordDelivery
  rw [hd]
  dsimp only
  split
  · rename_i none
    cases none.symm.trans himg
  · rename_i found
    cases found.symm.trans himg
    exact passed

/-- A write-back over in WRITEBACK, or in FAULT with the record still to be made: the unit forgets the tag, and the
append follows. -/
theorem writeBackOver_records {d : Delivery} {img : IssueRecord}
    (state : (s.hose h).state = .writeback ∨ (s.hose h).state = .fault) (hd : (s.hose h).delivery = some d)
    (himg : d.finalImage = some img) (free : 0 < s.journal.free s.cfg.nj)
    (serial : s.journal.nextSerial ≤ 4294967295) (busy : s.journal.inService.isSome = true) (updated : Bool) :
    (s.writeBackOver h updated).hose h = { s.hose h with
      state := if (s.hose h).state = .fault then .fault else .recording
      delivery := some { d with flags := { d.flags with tagNotUpdated := !updated } } } ∧
    (s.writeBackOver h updated).tag h = (s.tag h).forget ∧
    (s.writeBackOver h updated).journal = { s.journal with
      unsent := s.journal.unsent + 1, nextSerial := s.journal.nextSerial + 1
      queue := (s.journal.queue.filter fun op => !op.isFinalOf img.hose) ++
        [.append .hose (s.journal.head s.cfg.nj) s.journal.nextSerial
          (.issue { img with flags := { img.flags with tagNotUpdated := !updated } })] } ∧
    Only [.tags, .hoses, .journal] s (s.writeBackOver h updated) := by
  obtain writeback | fault := state
  · have eq : s.writeBackOver h updated = ((s.setTag h (s.tag h).forget).setHose h
        { s.hose h with state := .recording }).recordDelivery h updated := by
      unfold State.writeBackOver
      exact if_pos writeback
    have recorded := recordDelivery_of_free (h := h) (d := d) (img := img)
      (s := (s.setTag h (s.tag h).forget).setHose h { s.hose h with state := .recording })
      (by rw [State.setHose_hose_self]; exact hd) himg free serial busy updated
    rw [eq, recorded]
    refine ⟨by simp [State.setDelivery, writeback], by simp [State.setDelivery], rfl, ?_⟩
    exact Only.next (b1 := [.tags, .hoses]) (((setTag_only _ _ _).next (setHose_only _ _ _)).trans
      (setDelivery_only _ _ _).mono) (setJournal_only _ _)
  · have eq : s.writeBackOver h updated = (s.setTag h (s.tag h).forget).recordDelivery h updated := by
      unfold State.writeBackOver
      dsimp only
      rw [fault]
      rfl
    have recorded := recordDelivery_of_free
      (s := s.setTag h (s.tag h).forget) (h := h) (d := d) (img := img) hd himg free
      serial busy updated
    rw [eq, recorded]
    refine ⟨by simp [State.setDelivery, fault], by simp [State.setDelivery], rfl, ?_⟩
    exact Only.next (b1 := [.tags, .hoses]) ((setTag_only _ _ _).next (setDelivery_only _ _ _)) (setJournal_only _ _)

end

theorem attemptEnded_writeBack {s : State} {h : Side} {x : Exchange} {content : List Byte} {a : ReaderAnswer}
    {updated : Bool} (request : x.request = .writeBack content) (off : (s.tag h).polling = false)
    (noWriteBack : (s.tag h).waitingWriteBack = none) (noProgress : (s.tag h).waitingProgress = none)
    (noRead : (s.tag h).waitingRead = none)
    (judged : (updated = true ∧ (s.tag h).judge x.request a = some .written) ∨
      (updated = false ∧ (s.tag h).judge x.request a = none ∧ (s.tag h).triesAgain x = false)) :
    s.attemptEnded h x a = (s.setTag h (s.tag h).toReady).writeBackOver h updated := by
  have idle : (s.tag h).toReady.serve s.elapsed = (s.tag h).toReady :=
    serve_idle noWriteBack noProgress noRead (by simp [TagUnit.toReady])
  have served : (s.setTag h (s.tag h).toReady).serveTag h = s.setTag h (s.tag h).toReady := by
    unfold State.serveTag
    rw [State.setTag_tag_self, State.setTag_elapsed, idle, State.setTag_setTag]
  obtain ⟨rfl, succeeds⟩ | ⟨rfl, fails, last⟩ := judged
  · rw [attemptEnded_done off succeeds, request]
    show ((s.setTag h (s.tag h).toReady).serveTag h).writeBackOver h true = _
    rw [served]
  · rw [attemptEnded_givenUp off fails last, request]
    show ((s.setTag h (s.tag h).toReady).serveTag h).writeBackOver h false = _
    rw [served]

theorem stopAttempts_some (p : Request → Bool) (x : Exchange) :
    stopAttempts p (some x) = some { x with noMore := x.noMore || p x.request } := by
  simp only [stopAttempts]
  cases p x.request <;> simp [Exchange.lastAttempt]

/-- A hang while a delivery record waits for its write-back is passed to the tag unit (R21). -/
theorem hang_in_writeBack {s : State} {h : Side} {d : Delivery}
    (state : (s.hose h).state = .writeback ∨ (s.hose h).state = .fault) (hd : (s.hose h).delivery = some d) :
    (s.setHose h { s.hose h with hook := .hung }).hang h = (s.setHose h { s.hose h with
      hook := .hung
      tagAbsent := if (s.hose h).state = .writeback then true else (s.hose h).tagAbsent }).hangInWriteBack h := by
  obtain writeback | fault := state
  · simp [State.hang, writeback]
  · simp [State.hang, fault, hd]

/-- Settles O33: the write-back's last attempt, or the hang that drops it, is followed by the append. -/
theorem writeBackSuccessRecordsDelivery : Obligations.WriteBackSuccessRecordsDelivery := by
  refine ⟨?_, ?_, ?_⟩
  · intro h s x content c updated d img inFlight current request off noWriteBack noProgress noRead window answer state
      hd himg free serial busy
    have ended : ∃ a, exec c s = .next (s.attemptEnded h x a) ∧
        ((updated = true ∧ (s.tag h).judge x.request a = some .written) ∨
          (updated = false ∧ (s.tag h).judge x.request a = none ∧ (s.tag h).triesAgain x = false)) := by
      have silent (silent : NoAnswer h x c) (not : updated = false) (last : x.attempts = 3 ∨ x.noMore = true) :
          ∃ a, exec c s = .next (s.attemptEnded h x a) ∧
            ((updated = true ∧ (s.tag h).judge x.request a = some .written) ∨
              (updated = false ∧ (s.tag h).judge x.request a = none ∧ (s.tag h).triesAgain x = false)) := by
        obtain ⟨a, run, fails, -⟩ := exec_noAnswer inFlight current window silent
        exact ⟨a, run, .inr ⟨not, fails, triesAgain_of_last (last.imp_left (by omega))⟩⟩
      have completes (n : Nat) : x.request.completedBy (.written n) = true := by
        rw [request]
        rfl
      obtain ⟨n, done, bound, rfl⟩ | ⟨not, last, e | e | e | ⟨n, bound, rfl⟩⟩ := answer
      · refine ⟨.written n, congrArg _ (readerAnswer_inFlight inFlight current (completes n)), .inl ⟨done, ?_⟩⟩
        rw [request]
        exact if_pos bound
      · exact silent (.inl e) not last
      · exact silent (.inr (.inl e)) not last
      · exact silent (.inr (.inr e)) not last
      · refine ⟨.written n, congrArg _ (readerAnswer_inFlight inFlight current (completes n)),
          .inr ⟨not, ?_, triesAgain_of_last (last.imp_left (by omega))⟩⟩
        rw [request]
        exact if_neg bound
    obtain ⟨a, run, judged⟩ := ended
    rw [attemptEnded_writeBack request off noWriteBack noProgress noRead judged] at run
    obtain ⟨hose, tag, journal, frame⟩ := writeBackOver_records (s := s.setTag h (s.tag h).toReady) (h := h) (d := d)
      (img := img) state hd himg free serial busy updated
    refine ⟨_, run, hose, ?_, journal, (setTag_otherKept _ _ _).trans (writeBackOver_otherKept _ _ _),
      (setTag_only _ _ _).next frame⟩
    rw [tag, State.setTag_tag_self]
    rfl
  · intro h s x content c inFlight current request off few more window silent
    obtain ⟨a, run, fails, -⟩ := exec_noAnswer inFlight current window silent
    have again := triesAgain_of_few (s := s) (h := h) few more (by rw [request]; nofun) (by rw [request]; rfl)
    rw [attemptEnded_retries off fails again] at run
    refine ⟨_, run, ?_, setTag_otherKept _ _ _, setTag_only _ _ _⟩
    rw [State.setTag_tag_self, TagUnit.retry, request]
    rfl
  · intro h s d x' fitted hd state hx
    have run : exec (.hang h) s = .next ((s.setHose h x').hangInWriteBack h) := by
      rw [exec_hang fitted, hang_in_writeBack state hd, hx]
    have hose : (s.setHose h x').hose h = x' := State.setHose_hose_self ..
    refine ⟨fun x noWriteBack current => ?_, fun img waits himg free serial busy => ?_⟩
    · have stopped : (s.setHose h x').hangInWriteBack h = (s.setHose h x').setTag h { s.tag h with
          current := some { x with noMore := x.noMore || x.request.isWriteBack } } := by
        unfold State.hangInWriteBack
        simp only [State.setHose_tag, noWriteBack, current, stopAttempts_some]
        rfl
      rw [stopped] at run
      exact ⟨_, run, by rw [State.setTag_hose, hose], State.setTag_tag_self ..,
        (setHose_otherKept _ _ _).trans (setTag_otherKept _ _ _), (setHose_only _ _ _).next (setTag_only _ _ _)⟩
    · have dropped : (s.setHose h x').hangInWriteBack h =
          ((s.setHose h x').setTag h { s.tag h with waitingWriteBack := none }).writeBackOver h false := by
        unfold State.hangInWriteBack
        exact if_pos waits
      rw [dropped] at run
      have state' : x'.state = (s.hose h).state := by rw [hx]
      have before : OtherHoseKept h s ((s.setHose h x').setTag h { s.tag h with waitingWriteBack := none }) :=
        (setHose_otherKept _ _ _).trans (setTag_otherKept _ _ _)
      have frame' : Only [.hoses, .tags] s ((s.setHose h x').setTag h { s.tag h with waitingWriteBack := none }) :=
        (setHose_only _ _ _).next (setTag_only _ _ _)
      obtain ⟨hose', tag, journal, frame⟩ := writeBackOver_records (h := h) (d := d) (img := img)
        (s := (s.setHose h x').setTag h { s.tag h with waitingWriteBack := none })
        (by rw [State.setTag_hose, hose, state']; exact state) (by rw [State.setTag_hose, hose, hx]; exact hd) himg free
        serial busy false
      refine ⟨_, run, ?_, ?_, journal, before.trans (writeBackOver_otherKept _ _ _), frame'.next frame⟩
      · rw [hose', State.setTag_hose, hose, state']
        rfl
      · rw [tag, State.setTag_tag_self]
        rfl

end Sys2Proof.Machine

namespace Sys2Proof.Machine

set_option Elab.async false

/-! ### The reads of IDENTIFYING (R8, R55 to R57) -/

section
variable {s : State} {h : Side} {x : Exchange} {i : Identity}

theorem exec_readerBlock {serial : Nat} {content : List Byte} {k : ReadKind} (inFlight : (s.tag h).state = .inFlight)
    (current : (s.tag h).current = some x) (request : x.request = .read k) :
    exec (.readerBlock h x.number serial content) s = .next (s.attemptEnded h x (.block serial content)) :=
  congrArg _ (readerAnswer_inFlight inFlight current (by rw [request]; rfl))

theorem judge_hours {serial : Nat} {content : List Byte} (identity : (s.tag h).identity = some i)
    (bound : (s.tag h).bound = some serial) : (s.tag h).judge (.read .hours) (.block serial content) =
      (validHours i.vehicle content).map fun n => .hours n := by
  simp only [TagUnit.judge, bound, identity, if_true, Option.bind_some]

theorem judge_carry {serial : Nat} {content : List Byte} (identity : (s.tag h).identity = some i)
    (bound : (s.tag h).bound = some serial) : (s.tag h).judge (.read .carry) (.block serial content) =
      some (.carry (usableCarry i.vehicle content)) := by
  simp only [TagUnit.judge, bound, identity, if_true, Option.bind_some]

/-- The READ HOURS over, with its reading or without: the READ CARRY is asked for. -/
theorem attemptEnded_hours {a : ReaderAnswer} {hours : Option Nat} (off : (s.tag h).polling = false)
    (request : x.request = .read .hours)
    (judged : (∃ n, hours = some n ∧ (s.tag h).judge x.request a = some (.hours n)) ∨
      (hours = none ∧ (s.tag h).judge x.request a = none ∧ (s.tag h).triesAgain x = false)) :
    s.attemptEnded h x a = (s.setTag h { (s.tag h).toReady with hours := hours }).askNext h .carry := by
  obtain ⟨n, rfl, succeeds⟩ | ⟨rfl, fails, last⟩ := judged
  · rw [attemptEnded_done off succeeds, request]
    rfl
  · rw [attemptEnded_givenUp off fails last, request]
    simp only [State.exchangeGivenUp, State.setTag_tag_self, State.setTag_setTag]

/-- The READ CARRY over, with a usable block or without: the reads are over. -/
theorem attemptEnded_carry {a : ReaderAnswer} {carry : Option Carry} (off : (s.tag h).polling = false)
    (request : x.request = .read .carry)
    (judged : (s.tag h).judge x.request a = some (.carry carry) ∨
      (carry = none ∧ (s.tag h).judge x.request a = none ∧ (s.tag h).triesAgain x = false)) :
    s.attemptEnded h x a = (s.setTag h { (s.tag h).toReady with carry := carry }).readsOver h := by
  obtain succeeds | ⟨rfl, fails, last⟩ := judged
  · rw [attemptEnded_done off succeeds, request]
    rfl
  · rw [attemptEnded_givenUp off fails last, request]
    simp only [State.exchangeGivenUp, State.setTag_tag_self, State.setTag_setTag]

/-- The tag unit as the end of the READ CARRY leaves it. -/
def State.carryRead (s : State) (h : Side) (carry : Option Carry) : State :=
  s.setTag h { (s.tag h).toReady with carry := carry }

theorem exec_carryReadEnds {c : Instr} {carry : Option Carry} (ends : CarryReadEnds s h i c carry) :
    exec c s = .next ((s.carryRead h carry).identified h) := by
  obtain ⟨identifying, inFlight, off, identity, noRead, noWriteBack, noProgress, x, current, request, ended⟩ := ends
  have finished : ∃ a, exec c s = .next (s.attemptEnded h x a) ∧
      ((s.tag h).judge x.request a = some (.carry carry) ∨
        (carry = none ∧ (s.tag h).judge x.request a = none ∧ (s.tag h).triesAgain x = false)) := by
    obtain ⟨serial, content, rfl, bound, usable⟩ | ⟨ignored, last, window, silent⟩ := ended
    · refine ⟨_, exec_readerBlock inFlight current request, .inl ?_⟩
      rw [request, judge_carry identity bound, usable]
    · obtain ⟨a, run, fails, -⟩ := exec_noAnswer inFlight current window silent
      exact ⟨a, run, .inr ⟨ignored, fails, triesAgain_of_last (last.imp_left (by omega))⟩⟩
  obtain ⟨a, run, judged⟩ := finished
  have idle : ({ (s.tag h).toReady with carry := carry } : TagUnit).serve s.elapsed =
      { (s.tag h).toReady with carry := carry } :=
    serve_idle noWriteBack noProgress noRead (by simp [TagUnit.toReady])
  have served : (s.carryRead h carry).serveTag h = s.carryRead h carry := by
    unfold State.serveTag State.carryRead
    rw [State.setTag_tag_self, State.setTag_elapsed, idle, State.setTag_setTag]
  rw [run, attemptEnded_carry off request judged]
  show Host.Outcome.next ((s.carryRead h carry).readsOver h) = _
  unfold State.readsOver
  dsimp only
  rw [served, if_pos (by exact identifying)]

theorem carryRead_tag (carry : Option Carry) :
    (s.carryRead h carry).tag h = { (s.tag h).toReady with carry := carry } := State.setTag_tag_self ..

end

/-! ### The carry merge of a tag (R69, R76) -/

section
variable {s : State} {h : Side} {i : Identity} {c : Option Carry}

theorem reportOther_unwatched {v : Nat} (unwatched : ∀ k, s.watches k v = false) (old : ReportValues) :
    s.reportOther v old = s := by
  unfold State.reportOther
  split
  · rfl
  · split
    · rfl
    · refine List.foldl_fixed' (fun k => ?_) _
      rw [unwatched k]
      rfl

/-- The state once an entry has taken a tag and is pinned by the hose. -/
def State.tagTaken (s : State) (h : Side) (i : Identity) (c : Option Carry) (e : FleetEntry) : State :=
  ((s.setEntry (e.takeTag i c s.line.siteTime).1).countLate (e.takeTag i c s.line.siteTime).2).pin h i.vehicle

theorem mergeTag_found {e : FleetEntry} (found : s.entry i.vehicle = some e)
    (unwatched : ∀ k, s.watches k i.vehicle = false) : s.mergeTag h i c = some (s.tagTaken h i c e) := by
  have same (k : Side) : (s.tagTaken h i c e).watches k i.vehicle = false := by
    rw [← unwatched k]
    rfl
  simp only [State.mergeTag, found]
  exact congrArg some (reportOther_unwatched same _)

/-- The state once an entry has been made from a tag beside the entries `es` and is pinned by the hose. -/
def State.tagAdded (s : State) (h : Side) (i : Identity) (c : Option Carry) (es : List FleetEntry) : State :=
  (s.setFleet { s.fleet with entries := es ++ [FleetEntry.fromTag i c s.line.siteTime] }).pin h i.vehicle

theorem mergeTag_new (absent : s.entry i.vehicle = none) : s.mergeTag h i c =
    (s.makeRoom fun _ => true).map (s.tagAdded h i c) := by
  simp only [State.mergeTag, absent, State.addEntry, Option.map_map]
  rfl

theorem makeRoom_of_room {ok : FleetEntry → Bool} (room : s.fleet.entries.length < 256) :
    s.makeRoom ok = some s.fleet.entries := by
  unfold State.makeRoom
  exact if_pos room

theorem makeRoom_of_full {ok : FleetEntry → Bool} (full : 256 ≤ s.fleet.entries.length)
    (pinned : ∀ e ∈ s.fleet.entries, s.isPinned e = true) : s.makeRoom ok = none := by
  have none : s.evictable = none := by
    have empty : (s.fleet.entries.filter fun e => !s.isPinned e) = [] := by
      simpa [List.filter_eq_nil_iff] using pinned
    unfold State.evictable
    rw [empty]
  unfold State.makeRoom
  rw [if_neg (show ¬s.fleet.entries.length < Config.fleetSize from Nat.not_lt.2 full), none]

/-- Room is made of entries that stood before. -/
theorem makeRoom_sub {ok : FleetEntry → Bool} {es : List FleetEntry} (made : s.makeRoom ok = some es) :
    ∀ e ∈ es, e ∈ s.fleet.entries := by
  unfold State.makeRoom at made
  split at made
  · cases made
    exact fun _ => id
  · split at made
    · cases made
    · split at made
      · cases made
        exact fun e he => (List.mem_filter.1 he).1
      · cases made

theorem tagAdded_entry {es : List FleetEntry} (absent : s.entry i.vehicle = none)
    (sub : ∀ e ∈ es, e ∈ s.fleet.entries) :
    (s.tagAdded h i c es).entry i.vehicle = some (FleetEntry.fromTag i c s.line.siteTime) := by
  have noOld : es.find? (fun e => e.vehicle == i.vehicle) = none := by
    rw [List.find?_eq_none]
    exact fun e he => (List.find?_eq_none.1 absent) e (sub e he)
  show List.find? _ (es ++ [_]) = _
  rw [List.find?_append, noOld]
  simp [FleetEntry.fromTag]

theorem tagTaken_entry {e : FleetEntry} (found : s.entry i.vehicle = some e) :
    (s.tagTaken h i c e).entry i.vehicle = some (e.takeTag i c s.line.siteTime).1 :=
  entry_setEntry_self (s := s) found (show e.vehicle = i.vehicle from entry_vehicle found)

end

end Sys2Proof.Machine

namespace Sys2Proof.Machine

set_option Elab.async false

/-! ### The end of identification (R8, R10, R78, R108, R113) -/

/-- An entry with the hours block applied to its carry. -/
def State.hoursEntry (s : State) (e : FleetEntry) (hours : Option Nat) : FleetEntry :=
  { e with carry := (e.carry.applyHours hours s.line.siteTime).1 }

/-- The candidate of an entry, its hours block applied. -/
def State.entryCandidate (s : State) (i : Identity) (e : FleetEntry) (hours : Option Nat) : Candidate :=
  s.candidateOfEntry i (s.hoursEntry e hours) (e.carry.applyHours hours s.line.siteTime).2

/-- The state in which that candidate is checked. -/
def State.entryShown (s : State) (h : Side) (i : Identity) (e : FleetEntry) (hours : Option Nat) : State :=
  (s.setEntry (s.hoursEntry e hours)).showService h (s.entryCandidate i e hours).service

/-- The stand-in that a tag gives, the hours block applied to its carry. -/
def State.tagStandIn (s : State) (i : Identity) (hours : Option Nat) (c : Option Carry) : StandIn :=
  ⟨i, ((carryFromTag c).applyHours hours s.line.siteTime).1⟩

/-- The candidate of a stand-in. -/
def State.standInCandidate (s : State) (i : Identity) (hours : Option Nat) (c : Option Carry) : Candidate :=
  s.candidateOfStandIn (s.tagStandIn i hours c) ((carryFromTag c).applyHours hours s.line.siteTime).2

/-- The state in which that candidate is checked. -/
def State.standInShown (s : State) (h : Side) (i : Identity) (hours : Option Nat) (c : Option Carry) : State :=
  (s.setHose h { s.hose h with standIn := some (s.tagStandIn i hours c) }).showService h
    (s.standInCandidate i hours c).service

section
variable {s : State} {h : Side} {i : Identity} {hours : Option Nat} {c : Option Carry}

theorem decideEntry_passes {e : FleetEntry} (found : s.entry i.vehicle = some e) (passes : s.checkStation h = none) :
    s.decideEntry h i hours = (s.entryShown h i e hours).judge h (s.entryCandidate i e hours) := by
  have same : (s.entryShown h i e hours).checkStation h = none := passes
  simp only [State.decideEntry, found]
  show (match (s.entryShown h i e hours).checkStation h with
    | some r => (s.entryShown h i e hours).refuse h r
    | none => (s.entryShown h i e hours).judge h (s.entryCandidate i e hours)) = _
  rw [same]

theorem decideEntry_refuses {e : FleetEntry} {r : RefusalReason} (found : s.entry i.vehicle = some e)
    (fails : s.checkStation h = some r) : s.decideEntry h i hours = (s.entryShown h i e hours).refuse h r := by
  have same : (s.entryShown h i e hours).checkStation h = some r := fails
  simp only [State.decideEntry, found]
  show (match (s.entryShown h i e hours).checkStation h with
    | some r => (s.entryShown h i e hours).refuse h r
    | none => (s.entryShown h i e hours).judge h (s.entryCandidate i e hours)) = _
  rw [same]

theorem decideStandIn_passes (passes : s.checkStation h = none) : s.decideStandIn h i hours c =
    (s.standInShown h i hours c).judge h (s.standInCandidate i hours c) := by
  have same : (s.standInShown h i hours c).checkStation h = none := passes
  show (match (s.standInShown h i hours c).checkStation h with
    | some r => (s.standInShown h i hours c).refuse h r
    | none => (s.standInShown h i hours c).judge h (s.standInCandidate i hours c)) = _
  rw [same]

theorem decideStandIn_refuses {r : RefusalReason} (fails : s.checkStation h = some r) :
    s.decideStandIn h i hours c = (s.standInShown h i hours c).refuse h r := by
  have same : (s.standInShown h i hours c).checkStation h = some r := fails
  show (match (s.standInShown h i hours c).checkStation h with
    | some r => (s.standInShown h i hours c).refuse h r
    | none => (s.standInShown h i hours c).judge h (s.standInCandidate i hours c)) = _
  rw [same]

theorem checkStation_passes (line : s.panel.emergency = false) (tank : s.tankLow h = false) :
    s.checkStation h = none := by
  simp [State.checkStation, line, tank]

theorem identified_merged {m : State} (identity : (s.tag h).identity = some i)
    (merged : s.mergeTag h i (s.tag h).carry = some m) : s.identified h = m.decideEntry h i (s.tag h).hours := by
  simp only [State.identified, identity, merged]

theorem identified_unmerged (identity : (s.tag h).identity = some i)
    (full : s.mergeTag h i (s.tag h).carry = none) : s.identified h =
      if s.cfg.classDefault then s.decideStandIn h i (s.tag h).hours (s.tag h).carry else s.refuseUnknown h := by
  simp only [State.identified, identity, full]

/-! What the states of a merge and of a decision keep. -/

theorem tagTaken_only (e : FleetEntry) : Only [.fleet, .hoses] s (s.tagTaken h i c e) :=
  ((setEntry_only _ _).trans (countLate_only _ _)).next (setHose_only _ _ _)

theorem tagAdded_only (es : List FleetEntry) : Only [.fleet, .hoses] s (s.tagAdded h i c es) :=
  (setFleet_only _ _).next (setHose_only _ _ _)

theorem entryShown_only (e : FleetEntry) : Only [.fleet, .hoses] s (s.entryShown h i e hours) :=
  (setEntry_only _ _).next (showService_only _ _ _)

theorem standInShown_only : Only [.hoses] s (s.standInShown h i hours c) :=
  (setHose_only _ _ _).trans (showService_only _ _ _)

theorem tagTaken_otherKept (e : FleetEntry) : OtherHoseKept h s (s.tagTaken h i c e) :=
  (((setEntry_only _ _).trans (countLate_only _ _)).otherKept h).trans (setHose_otherKept _ _ _)

theorem tagAdded_otherKept (es : List FleetEntry) : OtherHoseKept h s (s.tagAdded h i c es) :=
  ((setFleet_only _ _).otherKept h).trans (setHose_otherKept _ _ _)

theorem entryShown_otherKept (e : FleetEntry) : OtherHoseKept h s (s.entryShown h i e hours) :=
  ((setEntry_only _ _).otherKept h).trans (setHose_otherKept _ _ _)

theorem standInShown_otherKept : OtherHoseKept h s (s.standInShown h i hours c) :=
  (setHose_otherKept _ _ _).trans (setHose_otherKept _ _ _)

theorem tagTaken_hose (e : FleetEntry) :
    (s.tagTaken h i c e).hose h = { s.hose h with pinned := some i.vehicle } := by
  rw [State.tagTaken, State.pin, State.setHose_hose_self]
  rfl

theorem tagAdded_hose (es : List FleetEntry) :
    (s.tagAdded h i c es).hose h = { s.hose h with pinned := some i.vehicle } := by
  rw [State.tagAdded, State.pin, State.setHose_hose_self]
  rfl

theorem entryShown_hose (e : FleetEntry) : (s.entryShown h i e hours).hose h =
    { s.hose h with serviceShown := some (s.entryCandidate i e hours).service } := by
  rw [State.entryShown, State.showService, State.setHose_hose_self]
  rfl

theorem standInShown_hose : (s.standInShown h i hours c).hose h = { s.hose h with
    serviceShown := some (s.standInCandidate i hours c).service, standIn := some (s.tagStandIn i hours c) } := by
  rw [State.standInShown, State.showService, State.setHose_hose_self, State.setHose_hose_self]

theorem entryShown_entry {e : FleetEntry} (found : s.entry i.vehicle = some e) :
    (s.entryShown h i e hours).entry i.vehicle = some (s.hoursEntry e hours) :=
  entry_setEntry_self (s := s) found (show e.vehicle = i.vehicle from entry_vehicle found)

theorem entryShown_entry_other {e : FleetEntry} {v : Nat} (found : s.entry i.vehicle = some e) (away : v ≠ i.vehicle) :
    (s.entryShown h i e hours).entry v = s.entry v :=
  entry_setEntry_other (s := s) (show e.vehicle ≠ v from fun same => away (same.symm.trans (entry_vehicle found)))

theorem tagTaken_entry_other {e : FleetEntry} {v : Nat} (found : s.entry i.vehicle = some e) (away : v ≠ i.vehicle) :
    (s.tagTaken h i c e).entry v = s.entry v :=
  entry_setEntry_other (s := s) (show e.vehicle ≠ v from fun same => away (same.symm.trans (entry_vehicle found)))

theorem tagAdded_entry_other {v : Nat} (away : v ≠ i.vehicle) :
    (s.tagAdded h i c s.fleet.entries).entry v = s.entry v := by
  show List.find? _ (s.fleet.entries ++ [_]) = _
  rw [List.find?_append]
  simp [FleetEntry.fromTag, Ne.symm away, State.entry]

end

end Sys2Proof.Machine

namespace Sys2Proof.Machine

set_option Elab.async false

/-! ### A tag in the fleet table, merged or added (R8, R69, R76) -/

/-- `m` is the state once a tag's values stand in the fleet table as the entry `e`, pinned by the hose. -/
structure TagStored (s : State) (h : Side) (i : Identity) (e : FleetEntry) (m : State) : Prop where
  entry : m.entry i.vehicle = some e
  source : e.source = .tag
  tagClass : e.tagClass = some i.cls
  grades : e.grades = i.grades
  attrs : e.tagAttrs = some i.attrs
  touched : e.touched = s.line.siteTime
  hose : m.hose h = { s.hose h with pinned := some i.vehicle }
  others : OtherHoseKept h s m
  frame : Only [.fleet, .hoses] s m

section
variable {s : State} {h : Side} {i : Identity} {c : Option Carry}

theorem tagTaken_stored {e : FleetEntry} (found : s.entry i.vehicle = some e) :
    TagStored s h i (e.takeTag i c s.line.siteTime).1 (s.tagTaken h i c e) :=
  ⟨tagTaken_entry found, rfl, rfl, rfl, rfl, rfl, tagTaken_hose e, tagTaken_otherKept e, tagTaken_only e⟩

theorem tagAdded_stored {es : List FleetEntry} (absent : s.entry i.vehicle = none)
    (sub : ∀ e ∈ es, e ∈ s.fleet.entries) :
    TagStored s h i (FleetEntry.fromTag i c s.line.siteTime) (s.tagAdded h i c es) :=
  ⟨tagAdded_entry absent sub, rfl, rfl, rfl, rfl, rfl, tagAdded_hose es, tagAdded_otherKept es, tagAdded_only es⟩

/-- A merge that finds or makes an entry leaves the tag's values in it. -/
theorem mergeTag_stored {m : State} (unwatched : ∀ k, s.watches k i.vehicle = false)
    (merged : s.mergeTag h i c = some m) : ∃ e, TagStored s h i e m := by
  cases found : s.entry i.vehicle with
  | some e =>
    rw [mergeTag_found found unwatched] at merged
    cases merged
    exact ⟨_, tagTaken_stored found⟩
  | none =>
    rw [mergeTag_new found, Option.map_eq_some_iff] at merged
    obtain ⟨es, made, rfl⟩ := merged
    exact ⟨_, tagAdded_stored found (makeRoom_sub made)⟩

/-- The values of the candidate that an entry with the tag's values gives. -/
theorem entryCandidate_values {e : FleetEntry} (hours : Option Nat) (tagClass : e.tagClass = some i.cls)
    (attrs : e.tagAttrs = some i.attrs) :
    (s.entryCandidate i e hours).attrs = e.attrsOv.val.getD i.attrs ∧
    (s.entryCandidate i e hours).recordClass = e.classOv.val.getD i.cls ∧
    (s.entryCandidate i e hours).cls = some (s.classRecord (e.classOv.val.getD i.cls)) ∧
    (s.entryCandidate i e hours).service = evaluate (e.carry.applyHours hours s.line.siteTime).1
      (s.classRecord (e.classOv.val.getD i.cls)) (e.carry.applyHours hours s.line.siteTime).2 := by
  have effective : (s.hoursEntry e hours).effectiveClass = some (e.classOv.val.getD i.cls) := by
    show (match e.classOv.val with | some c => some c | none => e.tagClass) = _
    cases e.classOv.val with
    | none => exact tagClass
    | some c => rfl
  have cls : s.classOf (s.hoursEntry e hours) = some (s.classRecord (e.classOv.val.getD i.cls)) := by
    rw [State.classOf, effective]
    rfl
  refine ⟨?_, ?_, cls, ?_⟩
  · show (match e.attrsOv.val with | some a => a | none => e.tagAttrs.getD 0) = _
    cases e.attrsOv.val with
    | none => rw [attrs]; rfl
    | some a => rfl
  · show (s.hoursEntry e hours).effectiveClass.getD i.cls = _
    rw [effective]
    rfl
  · show evaluate _ ((s.classOf (s.hoursEntry e hours)).getD ClassRecord.empty) _ = _
    rw [cls]
    rfl

/-- The station checks read nothing that a tag or a hose holds. -/
theorem Only.checkStation_eq {bs : List Block} {t : State} (e : Only bs s t) (h : Side)
    (panel : Block.panel ∉ bs := by decide) (tanks : Block.tanks ∉ bs := by decide)
    (scan : Block.scan ∉ bs := by decide) (cfg : Block.cfg ∉ bs := by decide)
    (elapsed : Block.elapsed ∉ bs := by decide) :
    t.checkStation h = s.checkStation h := by
  have tankLow : t.tankLow h = s.tankLow h := by
    simp only [State.tankLow, State.stockKnown, State.hoseCfg, State.tankCfg, State.sample, State.fresh,
      e.tanks_eq tanks, e.cfg_eq cfg, e.scan_eq scan, e.elapsed_eq elapsed]
    rfl
  rw [State.checkStation, State.checkStation, tankLow, e.panel_eq panel]

end

/-! ### The three reads of IDENTIFYING -/

theorem judge_identity {s : State} {h : Side} {i : Identity} {serial : Nat} {content : List Byte}
    (valid : validIdentity content = some i) :
    (s.tag h).judge (.read .identity) (.block serial content) = some (.identity serial i) := by
  simp only [TagUnit.judge, valid, Option.map_some]

/-- The READ IDENTITY answered: the serial is bound and the READ HOURS sent. -/
theorem identityRead (h : Side) (number : BitVec 8) (serial : Nat) (content : List Byte) (i : Identity) (s : State)
    (x : Exchange) (inFlight : (s.tag h).state = .inFlight) (current : (s.tag h).current = some x)
    (same : x.number = number) (request : x.request = .read .identity) (off : (s.tag h).polling = false)
    (valid : validIdentity content = some i) (identifying : (s.hose h).state = .identifying)
    (quiet : (s.tag h).quiet = none) (noWriteBack : (s.tag h).waitingWriteBack = none)
    (noProgress : (s.tag h).waitingProgress = none) :
    ∃ t, exec (.readerBlock h number serial content) s = .next t ∧
      t.hose h = { s.hose h with liftWait := none } ∧
      t.tag h = { s.tag h with
        bound := some serial, identity := some i, state := .inFlight, waitingRead := none, pollDue := false,
        current := some ⟨.read .hours, (s.tag h).nextNumber, 1, false⟩,
        nextNumber := (s.tag h).nextNumber + 1, window := some (s.elapsed + 60) } ∧
      OtherHoseKept h s t ∧ Only [.tags, .hoses] s t := by
  subst same
  have judged : (s.tag h).judge x.request (.block serial content) = some (.identity serial i) := by
    rw [request, judge_identity valid]
  have done := attemptEnded_done off judged
  have run := exec_readerBlock (serial := serial) (content := content) inFlight current request
  have asks : s.exchangeDone h (.read .identity) (.identity serial i) =
      ((s.setTag h { (s.tag h).toReady with bound := some serial, identity := some i }).setHose h
        { s.hose h with liftWait := none }).askNext h .hours := rfl
  rw [done, request, asks, askNext_served (u := { (s.tag h).toReady with bound := some serial, identity := some i })
    (by simpa using identifying) (by simp) rfl quiet noWriteBack noProgress] at run
  refine ⟨_, run, ?_, ?_, ((setTag_otherKept _ _ _).trans (setHose_otherKept _ _ _)).trans (setTag_otherKept _ _ _),
    Only.next (b1 := [.tags, .hoses]) ((setTag_only _ _ _).next (setHose_only _ _ _)) (setTag_only _ _ _)⟩
  · rw [State.setTag_hose, State.setHose_hose_self]
  · rw [State.setTag_tag_self]
    rfl

/-- The READ HOURS over: its reading, if any, is stored and the READ CARRY sent. -/
theorem hoursRead (h : Side) (serial : Nat) (content : List Byte) (i : Identity) (s : State) (x : Exchange) (c : Instr)
    (hours : Option Nat) (inFlight : (s.tag h).state = .inFlight) (current : (s.tag h).current = some x)
    (request : x.request = .read .hours) (identity : (s.tag h).identity = some i)
    (bound : (s.tag h).bound = some serial) (off : (s.tag h).polling = false)
    (identifying : (s.hose h).state = .identifying) (window : (s.tag h).window.isSome = true)
    (quiet : (s.tag h).quiet = none) (noWriteBack : (s.tag h).waitingWriteBack = none)
    (noProgress : (s.tag h).waitingProgress = none)
    (ends : (c = .readerBlock h x.number serial content ∧ hours.isSome = true ∧ hours = validHours i.vehicle content) ∨
      (x.attempts = 3 ∧ hours = none ∧
        (c = .readerNoTag h x.number ∨ c = .readerFault h x.number ∨ c = .readerWindowExpiry h ∨
          (c = .readerBlock h x.number serial content ∧ validHours i.vehicle content = none)))) :
    ∃ t, exec c s = .next t ∧
      t.tag h = { s.tag h with
        hours := hours, state := .inFlight, waitingRead := none, pollDue := false,
        current := some ⟨.read .carry, (s.tag h).nextNumber, 1, false⟩,
        nextNumber := (s.tag h).nextNumber + 1, window := some (s.elapsed + 60) } ∧
      OtherHoseKept h s t ∧ Only [.tags] s t := by
  have blockJudged : (s.tag h).judge x.request (.block serial content) =
      (validHours i.vehicle content).map fun n => .hours n := by
    rw [request, judge_hours identity bound]
  have finished : ∃ a, exec c s = .next (s.attemptEnded h x a) ∧
      ((∃ n, hours = some n ∧ (s.tag h).judge x.request a = some (.hours n)) ∨
        (hours = none ∧ (s.tag h).judge x.request a = none ∧ (s.tag h).triesAgain x = false)) := by
    have silent (third : x.attempts = 3) (no : hours = none) (silent : NoAnswer h x c) : ∃ a,
        exec c s = .next (s.attemptEnded h x a) ∧
        ((∃ n, hours = some n ∧ (s.tag h).judge x.request a = some (.hours n)) ∨
          (hours = none ∧ (s.tag h).judge x.request a = none ∧ (s.tag h).triesAgain x = false)) := by
      obtain ⟨a, run, fails, -⟩ := exec_noAnswer inFlight current window silent
      exact ⟨a, run, .inr ⟨no, fails, triesAgain_of_last (.inl third.ge)⟩⟩
    obtain ⟨rfl, some, valid⟩ | ⟨third, no, e | e | e | ⟨rfl, invalid⟩⟩ := ends
    · obtain ⟨n, rfl⟩ := Option.isSome_iff_exists.1 some
      refine ⟨_, exec_readerBlock inFlight current request, .inl ⟨n, rfl, ?_⟩⟩
      rw [blockJudged, ← valid]
      rfl
    · exact silent third no (.inl e)
    · exact silent third no (.inr (.inl e))
    · exact silent third no (.inr (.inr e))
    · refine ⟨_, exec_readerBlock inFlight current request, .inr ⟨no, ?_, triesAgain_of_last (.inl third.ge)⟩⟩
      rw [blockJudged, invalid]
      rfl
  obtain ⟨a, run, judged⟩ := finished
  rw [attemptEnded_hours off request judged, askNext_served (u := { (s.tag h).toReady with hours := hours })
    (by simpa using identifying) (by simp) rfl quiet noWriteBack noProgress] at run
  refine ⟨_, run, ?_, (setTag_otherKept _ _ _).trans (setTag_otherKept _ _ _),
    (setTag_only _ _ _).trans (setTag_only _ _ _)⟩
  rw [State.setTag_tag_self]
  rfl

/-- The READ CARRY over, with an entry for the vehicle: the entry's candidate is judged. -/
theorem carryRead_judges_entry {h : Side} {s : State} {i : Identity} {c : Instr} {carry : Option Carry}
    (ends : CarryReadEnds s h i c carry) (unwatched : ∀ k, s.watches k i.vehicle = false)
    (line : s.panel.emergency = false) (tank : s.tankLow h = false) {e1 : FleetEntry} {c1 : Carry × HoursFlags}
    (stored : (∃ e, s.entry i.vehicle = some e ∧ e1 = (e.takeTag i carry s.line.siteTime).1) ∨
      (s.entry i.vehicle = none ∧ s.fleet.entries.length < 256 ∧ e1 = FleetEntry.fromTag i carry s.line.siteTime))
    (applied : c1 = e1.carry.applyHours (s.tag h).hours s.line.siteTime) :
    ∃ s3 cand, exec c s = .next (s3.judge h cand) ∧
      cand.identity = i ∧ cand.watched = true ∧ cand.carry = c1.1 ∧ cand.grades = i.grades ∧
      cand.attrs = e1.attrsOv.val.getD i.attrs ∧
      cand.recordClass = e1.classOv.val.getD i.cls ∧
      cand.cls = some (s.classRecord (e1.classOv.val.getD i.cls)) ∧
      cand.base = baseAllowance e1.allowanceOv.val cand.cls ∧
      cand.service = evaluate c1.1 (s.classRecord (e1.classOv.val.getD i.cls)) c1.2 ∧
      s3.entry i.vehicle = some { e1 with carry := c1.1 } ∧
      (∀ v, v ≠ i.vehicle → s3.entry v = s.entry v) ∧
      s3.hose h = { s.hose h with serviceShown := some cand.service, pinned := some i.vehicle } ∧
      (s3.tag h).state = .ready ∧ (s3.tag h).current = none ∧ (s3.tag h).carry = carry ∧
      OtherHoseKept h s s3 ∧ Only [.tags, .hoses, .fleet] s s3 := by
  subst applied
  have identity : (s.tag h).identity = some i := ends.2.2.2.1
  have tag := carryRead_tag (s := s) (h := h) carry
  have frame : Only [.tags] s (s.carryRead h carry) := setTag_only _ _ _
  have merged : ∃ m : State, (s.carryRead h carry).mergeTag h i ((s.carryRead h carry).tag h).carry = some m ∧
      TagStored (s.carryRead h carry) h i e1 m ∧
      ∀ v, v ≠ i.vehicle → m.entry v = (s.carryRead h carry).entry v := by
    rw [tag]
    obtain ⟨e, found, rfl⟩ | ⟨absent, room, rfl⟩ := stored
    · exact ⟨_, mergeTag_found found unwatched, tagTaken_stored found, fun v => tagTaken_entry_other found⟩
    · refine ⟨_, ?_, tagAdded_stored absent fun _ => id, fun v => tagAdded_entry_other⟩
      rw [mergeTag_new (s := s.carryRead h carry) absent, makeRoom_of_room (s := s.carryRead h carry) room]
      rfl
  obtain ⟨m, merge, m_stored, m_others⟩ := merged
  have run := exec_carryReadEnds ends
  have hours : ((s.carryRead h carry).tag h).hours = (s.tag h).hours := by rw [tag]; rfl
  have passes : m.checkStation h = none := by
    rw [m_stored.frame.checkStation_eq h]
    exact checkStation_passes line tank
  rw [identified_merged (by rw [tag]; exact identity) merge, hours, decideEntry_passes m_stored.entry passes] at run
  have values := entryCandidate_values (s := m) (s.tag h).hours m_stored.tagClass m_stored.attrs
  have now : m.line.siteTime = s.line.siteTime := by rw [m_stored.frame.line_eq]; rfl
  have classes (n : Nat) : m.classRecord n = s.classRecord n := by
    simp only [State.classRecord, m_stored.frame.classes_eq]
    rfl
  rw [now, classes] at values
  obtain ⟨attrs, recordClass, cls, service⟩ := values
  have shown_tag : (m.entryShown h i e1 (s.tag h).hours).tag h = { (s.tag h).toReady with carry := carry } := by
    rw [(entryShown_only e1).tag_eq, m_stored.frame.tag_eq, tag]
  refine ⟨_, _, run, rfl, rfl, ?_, m_stored.grades, attrs, recordClass, cls, rfl, service, ?_, fun v away => ?_, ?_, ?_,
    ?_, ?_, ((setTag_otherKept _ _ _).trans m_stored.others).trans (entryShown_otherKept e1),
    Only.next (b1 := [.tags, .hoses, .fleet]) (frame.next m_stored.frame) (entryShown_only e1)⟩
  · show (e1.carry.applyHours (s.tag h).hours m.line.siteTime).1 = _
    rw [now]
  · rw [entryShown_entry m_stored.entry, State.hoursEntry, now]
  · rw [entryShown_entry_other m_stored.entry away, m_others v away]
    rfl
  · rw [entryShown_hose, m_stored.hose]
    rfl
  · rw [shown_tag]; rfl
  · rw [shown_tag]; rfl
  · rw [shown_tag]

/-- The READ CARRY over, with no entry to be had, under the policy CLASS DEFAULT: the stand-in is judged. -/
theorem carryRead_judges_standIn {h : Side} {s : State} {i : Identity} {c : Instr} {carry : Option Carry}
    (ends : CarryReadEnds s h i c carry) (line : s.panel.emergency = false) (tank : s.tankLow h = false)
    {c1 : Carry × HoursFlags} (absent : s.entry i.vehicle = none) (full : 256 ≤ s.fleet.entries.length)
    (pinned : ∀ e ∈ s.fleet.entries, s.isPinned e = true) (policy : s.cfg.classDefault = true)
    (applied : c1 = (carryFromTag carry).applyHours (s.tag h).hours s.line.siteTime) :
    ∃ s3 cand, exec c s = .next (s3.judge h cand) ∧
      cand.identity = i ∧ cand.watched = false ∧ cand.carry = c1.1 ∧ cand.grades = i.grades ∧
      cand.attrs = i.attrs ∧ cand.recordClass = i.cls ∧
      cand.cls = some (s.classRecord s.cfg.unknownClass) ∧
      cand.base = (s.classRecord s.cfg.unknownClass).defaultAllowance ∧
      cand.service = evaluate c1.1 (s.classRecord s.cfg.unknownClass) c1.2 ∧
      s3.hose h = { s.hose h with serviceShown := some cand.service, standIn := some ⟨i, c1.1⟩ } ∧
      OtherHoseKept h s s3 ∧ Only [.tags, .hoses] s s3 := by
  subst applied
  have identity : (s.tag h).identity = some i := ends.2.2.2.1
  have tag := carryRead_tag (s := s) (h := h) carry
  have frame : Only [.tags] s (s.carryRead h carry) := setTag_only _ _ _
  have unmerged : (s.carryRead h carry).mergeTag h i ((s.carryRead h carry).tag h).carry = none := by
    rw [mergeTag_new (s := s.carryRead h carry) absent, makeRoom_of_full (s := s.carryRead h carry) full pinned]
    rfl
  have passes : (s.carryRead h carry).checkStation h = none := checkStation_passes line tank
  have run := exec_carryReadEnds ends
  have hours : ((s.carryRead h carry).tag h).hours = (s.tag h).hours := by rw [tag]; rfl
  have held : ((s.carryRead h carry).tag h).carry = carry := by rw [tag]
  rw [identified_unmerged (by rw [tag]; exact identity) unmerged, if_pos (by exact policy), hours, held,
    decideStandIn_passes passes] at run
  refine ⟨_, _, run, rfl, rfl, rfl, rfl, rfl, rfl, rfl, rfl, rfl, ?_,
    (setTag_otherKept _ _ _).trans standInShown_otherKept, frame.next standInShown_only⟩
  rw [standInShown_hose]
  rfl

/-- Settles O30: the three reads in turn; the end of the third merges the tag and judges the vehicle. -/
theorem identityBlockIsRead : Obligations.IdentityBlockIsRead := by
  refine ⟨identityRead, hoursRead, fun h s i c carry ends unwatched line tank => ⟨?_, ?_⟩⟩
  · intro e e1 c1 stored applied
    refine carryRead_judges_entry ends unwatched line tank ?_ applied
    obtain ⟨found, rfl⟩ | ⟨absent, room, rfl⟩ := stored
    · exact .inl ⟨e, found, by cases carry <;> rfl⟩
    · exact .inr ⟨absent, room, by cases carry <;> rfl⟩
  · intro c0 c1 absent full pinned policy fromTag applied
    refine carryRead_judges_standIn ends line tank absent full pinned policy ?_
    rw [applied, fromTag]
    cases carry <;> rfl

end Sys2Proof.Machine

namespace Sys2Proof.Machine

set_option Elab.async false

/-! ### The refusal where the reads end (R10, R11, R78) -/

section
variable {s : State} {h : Side} {i : Identity} {carry : Option Carry} {r : RefusalReason}

/-- A refusal after changes to the tag unit and the fleet table that keep the delivery of the hose. -/
theorem refused_result {w : State} (delivery : (w.hose h).delivery = (s.hose h).delivery)
    (others : OtherHoseKept h s w) (frame : Only [.tags, .hoses, .fleet] s w) :
    ((w.refuse h r).hose h).state = .refused ∧ ((w.refuse h r).hose h).reason = some (.refusal r) ∧
    ((w.refuse h r).hose h).pinned = none ∧ ((w.refuse h r).hose h).standIn = none ∧
    ((w.refuse h r).hose h).liftWait = none ∧ ((w.refuse h r).hose h).delivery = (s.hose h).delivery ∧
    OtherHoseKept h s (w.refuse h r) ∧ Only [.tags, .hoses, .fleet, .notice] s (w.refuse h r) := by
  rw [refuse_hose]
  exact ⟨rfl, rfl, rfl, rfl, rfl, delivery, others.trans (refuse_otherKept w h r), frame.next (refuse_only w h r)⟩

theorem refuse_fleet (w : State) (h : Side) (r : RefusalReason) : (w.refuse h r).fleet = w.fleet :=
  (refuse_only w h r).fleet_eq

theorem refuse_entry (w : State) (h : Side) (r : RefusalReason) (v : Nat) : (w.refuse h r).entry v = w.entry v :=
  entry_of_fleet (refuse_fleet w h r) v

theorem refuseUnknown_station (fails : s.checkStation h = some r) : s.refuseUnknown h = s.refuse h r := by
  simp only [State.refuseUnknown, fails]

theorem refuseUnknown_tableFull (passes : s.checkStation h = none) : s.refuseUnknown h = s.refuse h .tableFull := by
  simp only [State.refuseUnknown, passes]

theorem checkStation_line (line : s.panel.emergency = true) : s.checkStation h = some .stopLineActive := if_pos line

theorem checkStation_tank (line : s.panel.emergency = false) (known : s.stockKnown (s.hoseCfg h).tank = true)
    (low : ∃ v, (s.tanks.get (s.hoseCfg h).tank).stock = some v ∧ v < (s.tankCfg (s.hoseCfg h).tank).refuse) :
    s.checkStation h = some .tankLow := by
  obtain ⟨v, stock, less⟩ := low
  have tankLow : s.tankLow h = true := by simp [State.tankLow, known, stock, less]
  simp [State.checkStation, line, tankLow]

theorem carryRead_frame : Only [.tags, .hoses, .fleet] s (s.carryRead h carry) := (setTag_only _ _ _).mono

theorem carryRead_otherKept : OtherHoseKept h s (s.carryRead h carry) := setTag_otherKept _ _ _

/-- Checks 1 and 2 refuse where the reads end; an entry that stood has been merged with the tag. -/
theorem identified_refuses_station {u : State} (identity : (u.tag h).identity = some i)
    (unwatched : ∀ k, u.watches k i.vehicle = false) (fails : u.checkStation h = some r) :
    ∃ w : State, u.identified h = w.refuse h r ∧ (w.hose h).delivery = (u.hose h).delivery ∧
      (∀ e, u.entry i.vehicle = some e → ∃ x, w.entry i.vehicle = some x ∧ x.source = .tag ∧
        x.tagClass = some i.cls ∧ x.grades = i.grades ∧ x.tagAttrs = some i.attrs ∧ x.touched = u.line.siteTime) ∧
      OtherHoseKept h u w ∧ Only [.fleet, .hoses] u w := by
  cases merged : u.mergeTag h i (u.tag h).carry with
  | some m =>
    obtain ⟨e, stored⟩ := mergeTag_stored unwatched merged
    have same : m.checkStation h = some r := by rw [stored.frame.checkStation_eq h, fails]
    refine ⟨m.entryShown h i e (u.tag h).hours, ?_, ?_, fun _ _ => ⟨_, entryShown_entry stored.entry, stored.source,
      stored.tagClass, stored.grades, stored.attrs, stored.touched⟩, stored.others.trans (entryShown_otherKept e),
      stored.frame.trans (entryShown_only e)⟩
    · rw [identified_merged identity merged, decideEntry_refuses stored.entry same]
    · rw [entryShown_hose, stored.hose]
  | none =>
    have noEntry (e : FleetEntry) (found : u.entry i.vehicle = some e) : False := by
      rw [mergeTag_found found unwatched] at merged
      cases merged
    rw [identified_unmerged identity merged]
    cases u.cfg.classDefault with
    | true =>
      refine ⟨u.standInShown h i (u.tag h).hours (u.tag h).carry, decideStandIn_refuses fails, ?_,
        fun e found => (noEntry e found).elim, standInShown_otherKept, standInShown_only.mono⟩
      rw [standInShown_hose]
    | false =>
      exact ⟨u, refuseUnknown_station fails, rfl, fun e found => (noEntry e found).elim, .refl _ _, .refl _ _⟩

end

/-- Settles O28: the checks of R10 in their order, and the refusals where the reads end. -/
theorem firstFailingCheckRefuses : Obligations.FirstFailingCheckRefuses := by
  refine ⟨fun h s c g r hg fails => ?_, fun h s i c carry r ends unwatched fails => ?_⟩
  · rw [checks_refuse h s c g r hg fails]
    exact refuse_result s h r
  · have run := exec_carryReadEnds ends
    have identity : ((s.carryRead h carry).tag h).identity = some i := by
      rw [carryRead_tag]
      exact ends.2.2.2.1
    have station (fails : s.checkStation h = some r) (notFull : r ≠ .tableFull) : ∃ t, exec c s = .next t ∧
        (t.hose h).state = .refused ∧ (t.hose h).reason = some (.refusal r) ∧ (t.hose h).pinned = none ∧
        (t.hose h).standIn = none ∧ (t.hose h).liftWait = none ∧ (t.hose h).delivery = (s.hose h).delivery ∧
        (∀ e, s.entry i.vehicle = some e → ∃ x, t.entry i.vehicle = some x ∧ x.source = .tag ∧
          x.tagClass = some i.cls ∧ x.grades = i.grades ∧ x.tagAttrs = some i.attrs ∧
          x.touched = s.line.siteTime) ∧
        (r = .tableFull → t.fleet = s.fleet) ∧
        OtherHoseKept h s t ∧ Only [.tags, .hoses, .fleet, .notice] s t := by
      obtain ⟨w, refuses, delivery, merged, others, frame⟩ :=
        identified_refuses_station (u := s.carryRead h carry) identity unwatched fails
      obtain ⟨state, reason, pin, standIn, wait, kept, otherKept, only⟩ := refused_result (s := s) (r := r) delivery
        (carryRead_otherKept.trans others) (carryRead_frame.next frame)
      rw [refuses] at run
      refine ⟨_, run, state, reason, pin, standIn, wait, kept, fun e found => ?_, fun full => absurd full notFull,
        otherKept, only⟩
      rw [refuse_entry]
      exact merged e found
    obtain ⟨line, rfl⟩ | ⟨line, known, low, rfl⟩ | ⟨line, tank, absent, full, pinned, policy, rfl⟩ := fails
    · exact station (checkStation_line line) nofun
    · exact station (checkStation_tank line known low) nofun
    · have unmerged : (s.carryRead h carry).mergeTag h i ((s.carryRead h carry).tag h).carry = none := by
        rw [mergeTag_new (s := s.carryRead h carry) absent, makeRoom_of_full (s := s.carryRead h carry) full pinned]
        rfl
      have passes : (s.carryRead h carry).checkStation h = none := checkStation_passes line tank
      obtain ⟨state, reason, pin, standIn, wait, kept, otherKept, only⟩ := refused_result (s := s) (r := .tableFull)
        (w := s.carryRead h carry) (h := h) rfl carryRead_otherKept carryRead_frame
      have refuses : ¬(s.carryRead h carry).cfg.classDefault = true := fun on => nomatch on.symm.trans policy
      rw [identified_unmerged identity unmerged, if_neg refuses, refuseUnknown_tableFull passes] at run
      refine ⟨_, run, state, reason, pin, standIn, wait, kept, fun e found => ?_, fun _ => refuse_fleet _ _ _,
        otherKept, only⟩
      exact nomatch absent.symm.trans found

end Sys2Proof.Machine

namespace Sys2Proof.Machine

set_option Elab.async false

/-! ### Structures in the memory (12.5) -/

theorem natToBytes_length (k n : Nat) : (natToBytes k n).length = k := by
  induction k with
  | zero => rfl
  | succ k ih => rw [natToBytes, List.length_cons, ih]

theorem withCheck_length (bs : List Byte) : (withCheck bs).length = bs.length + 2 := by
  rw [withCheck, List.length_append, checkBytes, natToBytes_length]

theorem padTo_length (n : Nat) (bs : List Byte) : (padTo n bs).length = n := by
  simp [padTo]

theorem encodeSlot_length (serial : Nat) (r : Record) : (encodeSlot serial r).length = 128 := by
  rw [encodeSlot, withCheck_length, List.length_append, natToBytes_length, Record.ringForm, padTo_length]

theorem encodeOpen_length (i : OpenImage) : (encodeOpen i).length = 128 := by
  unfold encodeOpen
  dsimp only
  rw [withCheck_length, padTo_length]

theorem encodePlan_length (c : ClassRecord) : (encodePlan c).length = 64 := by
  rw [encodePlan, withCheck_length, encodeFields, natToBytes_length]
  simp [widthSum, planFields]

theorem encodeHeader_length (h : Header) : (encodeHeader h).length = 14 := by
  rw [encodeHeader, withCheck_length, encodeFields, natToBytes_length]
  simp [widthSum]

/-- A structure written at its place stands there, and every byte outside it is as it was. -/
theorem memWriteBytes_stores {m : List Host.Cell} (wf : Memory.wf m = true) (a : Nat) {bs : List Byte} {n : Nat}
    (length : bs.length = n) :
    memReadBytes (memWriteBytes m a bs) a n = bs ∧ SameOutside a n m (memWriteBytes m a bs) := by
  subst length
  exact ⟨memReadBytes_memWriteBytes wf a bs, memWriteBytes_outside wf a bs⟩

/-! ### The end of a service (R150, R152) -/

section
variable {s : State}

/-- No send read is due: the queue is full, or nothing UNSENT waits at next to load. -/
def State.noSendRead (s : State) : Prop :=
  s.line.queue.length < 4 → s.journal.unsentAt s.cfg.nj s.journal.nextToLoad = false

theorem requestSendRead_of_none (none : s.noSendRead) : s.requestSendRead = s := by
  have notDue : ¬(s.line.queue.length < Config.sendQueueSize ∧ s.journal.operations.any MemOp.isSendRead = false ∧
      s.journal.loadHold = Option.none ∧ s.journal.unsentAt s.cfg.nj s.journal.nextToLoad = true ∧
      s.journal.operations.any (MemOp.isAppendAt s.journal.nextToLoad) = false) := by
    rintro ⟨room, -, -, unsent, -⟩
    exact nomatch unsent.symm.trans (none room)
  exact if_neg notDue

theorem noSendRead_of_sent (sent : s.journal.unsent = 0) : s.noSendRead := by
  intro _
  simp [Journal.unsentAt, sent]

/-- The journal once the head of the queue has entered service (R150). -/
def Journal.served (j : Journal) (op : MemOp) (rest : List MemOp) (elapsed : Nat) : Journal :=
  { j with
    queue := rest, ringWritten := false, opTimer := some (elapsed + 100),
    inService := some (match op with
      | .header _ => .header (some j.header)
      | op => op) }

theorem serveNext_served {op : MemOp} {rest : List MemOp} (free : s.journal.inService = none)
    (queue : s.journal.queue = op :: rest) (notPlan : ∀ k r, op ≠ .plan k r) :
    s.serveNext = s.setJournal (s.journal.served op rest s.elapsed) := by
  simp only [State.serveNext, free, queue]
  cases op with
  | plan k r => exact absurd rfl (notPlan k r)
  | _ => rfl

theorem serveNext_of_empty (queue : s.journal.queue = []) : s.serveNext = s := by
  unfold State.serveNext
  dsimp only
  rw [queue]
  cases s.journal.inService <;> rfl

/-- Nothing waits and no send read is due: the unit stands idle. -/
theorem afterService_idle (queue : s.journal.queue = []) (none : s.noSendRead) : s.afterService = s.endService := by
  unfold State.afterService
  rw [serveNext_of_empty (s := s.endService) queue]
  exact requestSendRead_of_none (s := s.endService) none

/-- The next operation enters service, and no send read is due. -/
theorem afterService_serves {op : MemOp} {rest : List MemOp} (queue : s.journal.queue = op :: rest)
    (notPlan : ∀ k r, op ≠ .plan k r) (none : s.noSendRead) :
    s.afterService = s.setJournal (s.journal.served op rest s.elapsed) := by
  unfold State.afterService
  rw [serveNext_served (s := s.endService) rfl queue notPlan]
  exact requestSendRead_of_none (s := (s.setJournal (s.journal.served op rest s.elapsed))) none

/-- A send read requested at a unit at work waits at the back of the queue. -/
theorem requestSendRead_of_busy (busy : s.journal.inService.isSome = true) :
    s.requestSendRead = s ∨
    s.requestSendRead =
      s.setJournal { s.journal with queue := s.journal.queue ++ [.sendRead s.journal.nextToLoad] } := by
  unfold State.requestSendRead
  dsimp only
  split
  · exact .inr (pushOp_of_busy busy _)
  · exact .inl rfl

end

end Sys2Proof.Machine

namespace Sys2Proof.Machine

set_option Elab.async false

/-! ### The two writes of an ISSUE append (R147, R148) -/

theorem hoseRecorded_of_recording {s : State} {h : Side} (recording : (s.hose h).state = .recording) :
    s.hoseRecorded h = s.setHose h { s.hose h with delivery := none, standIn := none, state := (s.hose h).hook.rest } :=
  if_pos recording

/-- RING_SLOT_WRITTEN: the slot holds the record, and the CLEAR of the open slot begins. -/
theorem ringSlotWritten_stores {s : State} {src : AppendSource} {pos serial : Nat} {r : Record} (wf : s.memoryOk)
    (inService : s.journal.inService = some (.append src pos serial r)) (first : s.journal.ringWritten = false) :
    ∃ t, exec .ringSlotWritten s = .next t ∧
      memReadBytes t.mem (1280 + 128 * pos) 128 = encodeSlot serial r ∧
      SameOutside (1280 + 128 * pos) 128 s.mem t.mem ∧
      t.journal = { s.journal with ringWritten := true, opTimer := some (s.elapsed + 100) } ∧
      Only [.mem, .journal] s t := by
  have run : exec .ringSlotWritten s = .next ((s.writeSlot pos serial r).setJournal
      { s.journal with ringWritten := true, opTimer := some (s.elapsed + 100) }) := by
    show execRingSlotWritten s = _
    unfold execRingSlotWritten
    split
    next here =>
      cases inService.symm.trans here
      exact if_neg (by rw [first]; nofun)
    next other => exact absurd inService (other _ _ _ _)
  obtain ⟨stored, outside⟩ := memWriteBytes_stores wf (1280 + 128 * pos) (encodeSlot_length serial r)
  exact ⟨_, run, stored, outside, rfl, (setMem_only _ _).next (setJournal_only _ _)⟩

theorem writeOpen_mem (s : State) (h : Side) (i : OpenImage) :
    (s.writeOpen h i).mem = memWriteBytes s.mem (openAddress h) (encodeOpen i) := rfl

/-- The state once the open slot of an append is CLEAR and its claim has ended. -/
def State.slotCleared (s : State) (r : IssueRecord) : State :=
  ((s.writeOpen r.hose .clear).endClaim).ownItem (.issue r)

theorem slotCleared_only (s : State) (r : IssueRecord) : Only [.mem, .journal, .notice] s (s.slotCleared r) :=
  Only.next (b1 := [.mem, .journal]) ((writeOpen_only _ _ _).next (setJournal_only _ _)) (ownItem_only _ _)

theorem slotCleared_journal (s : State) (r : IssueRecord) : (s.slotCleared r).journal = { s.journal with
    openImages := s.journal.openImages.set r.hose .clear, claims := s.journal.claims - 1 } :=
  (ownItem_only _ _).journal_eq

theorem slotCleared_mem (s : State) (r : IssueRecord) : (s.slotCleared r).mem =
    memWriteBytes s.mem (openAddress r.hose) (encodeOpen .clear) := by
  rw [State.slotCleared, (ownItem_only _ _).mem_eq, State.endClaim, State.setJournal_mem, writeOpen_mem]

/-- APPEND_COMPLETE of a hose's record: the open slot is CLEAR, the claim ends and the delivery record is gone. -/
theorem appendComplete_clears {s : State} {pos serial : Nat} {r : IssueRecord} (wf : s.memoryOk)
    (inService : s.journal.inService = some (.append .hose pos serial (.issue r)))
    (second : s.journal.ringWritten = true) (queue : s.journal.queue = [])
    (recording : (s.hose r.hose).state = .recording) (none : s.noSendRead) :
    ∃ t, exec .appendComplete s = .next t ∧
      memReadBytes t.mem (openAddress r.hose) 128 = encodeOpen .clear ∧
      SameOutside (openAddress r.hose) 128 s.mem t.mem ∧
      t.journal.openImages.get r.hose = .clear ∧ t.journal.claims = s.journal.claims - 1 ∧
      t.journal.inService = Option.none ∧ (t.hose r.hose).delivery = Option.none ∧
      (t.hose r.hose).state = (if (s.hose r.hose).hook = .hung then .idle else .unarmed) ∧
      t.hose r.hose.other = s.hose r.hose.other ∧ Only [.mem, .journal, .hoses, .notice] s t := by
  have frame := slotCleared_only s r
  have journal := slotCleared_journal s r
  have idle : (s.slotCleared r).noSendRead := by
    intro room
    rw [frame.line_eq] at room
    rw [journal, frame.cfg_eq]
    exact none room
  have ended : (s.slotCleared r).afterService = (s.slotCleared r).endService :=
    afterService_idle (by rw [journal]; exact queue) idle
  have hose (k : Side) : (s.slotCleared r).endService.hose k = s.hose k := frame.hose_eq k
  have run : exec .appendComplete s = .next ((s.slotCleared r).endService.setHose r.hose
      { s.hose r.hose with delivery := .none, standIn := .none, state := (s.hose r.hose).hook.rest }) := by
    show execAppendComplete s = _
    simp only [execAppendComplete, inService, second, if_true]
    show Host.Outcome.next ((s.slotCleared r).afterService.hoseRecorded r.hose) = _
    rw [ended, hoseRecorded_of_recording (by rw [hose, recording]), hose]
  obtain ⟨stored, outside⟩ := memWriteBytes_stores wf (openAddress r.hose) (encodeOpen_length .clear)
  rw [← slotCleared_mem s r] at stored outside
  refine ⟨_, run, stored, outside, ?_, ?_, rfl, ?_, ?_, ?_, Only.next (b1 := [.mem, .journal, .notice])
    (frame.next (setJournal_only _ _)) (setHose_only _ _ _)⟩
  · show (s.slotCleared r).journal.openImages.get r.hose = _
    rw [journal]
    exact Pair.get_set_self ..
  · show (s.slotCleared r).journal.claims = _
    rw [journal]
  · rw [State.setHose_hose_self]
  · rw [State.setHose_hose_self]
    exact rest_eq _
  · rw [State.setHose_hose_other, hose]

/-- Settles O50: the ring slot first, then the CLEAR of the open slot. -/
theorem issueAppendWritesSlotThenClears : Obligations.IssueAppendWritesSlotThenClears := by
  intro s src pos serial r wf inService
  refine ⟨ringSlotWritten_stores wf inService, fun second hose queue recording none => ?_⟩
  subst hose
  exact appendComplete_clears wf inService second queue recording none

end Sys2Proof.Machine

namespace Sys2Proof.Machine

set_option Elab.async false

/-! ### The end of the start scan (R178, R179) -/

section
variable {s : State}

/-- LISTEN as it is entered, before a send read is requested: what the scan found is in place (R137, R26, R188). -/
def State.scanEnded (s : State) (e : ScanEnd) : State :=
  let placed := (s.setStart { s.start with scanEnd := none }).placeScanEnd e
  let entered := placed.setStart
    { placed.start with stage := .listen, listenTimer := some (placed.elapsed + Config.listenTime) }
  if entered.cfg.noticeEnable then
    entered.setNotice { entered.notice with countsTimer := some (entered.elapsed + Config.countsPeriod) }
  else entered

theorem endScan_ends {e : ScanEnd} (stage : s.start.stage = .journalScan) (found : s.start.scanEnd = some e)
    (noHeader : s.journal.operations.any MemOp.isHeader = false) :
    s.endScan = (s.scanEnded e).requestSendRead := by
  unfold State.endScan
  rw [found]
  exact if_pos ⟨stage, noHeader⟩

theorem endScan_waits (header : s.journal.operations.any MemOp.isHeader = true) : s.endScan = s := by
  unfold State.endScan
  split
  · rfl
  · exact if_neg fun both => nomatch both.2.symm.trans header

theorem scanEnded_start (e : ScanEnd) : (s.scanEnded e).start =
    { s.start with stage := .listen, listenTimer := some (s.elapsed + 30000), scanEnd := none } := by
  unfold State.scanEnded
  dsimp only
  split <;> rfl

theorem scanEnded_line (e : ScanEnd) : (s.scanEnded e).line =
    { s.line with siteTime := max e.time s.line.siteTime, confirmed := false, running := true } := by
  unfold State.scanEnded
  dsimp only
  split <;> rfl

theorem scanEnded_hose (e : ScanEnd) (h : Side) :
    (s.scanEnded e).hose h = { s.hose h with totalizer := e.totals.get h } := by
  unfold State.scanEnded
  dsimp only
  split <;> cases h <;> rfl

theorem scanEnded_notice (e : ScanEnd) : (s.scanEnded e).notice = { s.notice with
    countsTimer := if s.cfg.noticeEnable then some (s.elapsed + 10000) else s.notice.countsTimer } := by
  unfold State.scanEnded
  dsimp only
  split
  next on =>
    rw [if_pos (by exact on)]
    rfl
  next off =>
    rw [if_neg (by exact off)]
    rfl

theorem scanEnded_only (s : State) (e : ScanEnd) : Only [.start, .line, .hoses, .notice] s (s.scanEnded e) := by
  have entered (x y : StartCtl) : Only [.start, .line, .hoses, .notice] s
      (((s.setStart x).placeScanEnd e).setStart y) :=
    Only.next (b1 := [.start, .line, .hoses]) ((setStart_only _ _).next (placeScanEnd_only _ _)) (setStart_only _ _)
  unfold State.scanEnded
  dsimp only
  split
  · exact (entered _ _).trans (setNotice_only _ _).mono
  · exact entered _ _

theorem scanEnded_noSendRead (none : s.noSendRead) (e : ScanEnd) : (s.scanEnded e).noSendRead := by
  have frame := scanEnded_only s e
  unfold State.noSendRead
  rw [frame.journal_eq, frame.cfg_eq, scanEnded_line]
  exact none

/-- Where no send read is due the stage's end is the entry of LISTEN alone. -/
theorem endScan_listens {e : ScanEnd} (stage : s.start.stage = .journalScan) (found : s.start.scanEnd = some e)
    (noHeader : s.journal.operations.any MemOp.isHeader = false) (none : s.noSendRead) :
    s.endScan = s.scanEnded e := by
  rw [endScan_ends stage found noHeader, requestSendRead_of_none (scanEnded_noSendRead none e)]

/-- A send read requested at a unit at work only adds to its queue, and no header write. -/
theorem requestSendRead_queues (busy : s.journal.inService.isSome = true) : ∃ q,
    s.requestSendRead = s.setJournal { s.journal with queue := q } ∧
    q.any MemOp.isHeader = s.journal.queue.any MemOp.isHeader := by
  obtain e | e := requestSendRead_of_busy busy
  · exact ⟨s.journal.queue, e, rfl⟩
  · refine ⟨_, e, ?_⟩
    simp [MemOp.isHeader]

end

end Sys2Proof.Machine

namespace Sys2Proof.Machine

set_option Elab.async false

/-! ### The writes that complete (R149, R150) -/

section
variable {s : State}

theorem exec_openSlotWriteComplete {h : Side} {i : OpenImage}
    (write : (∃ img, s.journal.inService = some (.progress h img) ∧ i = .opened img) ∨
      (∃ img, s.journal.inService = some (.final h img) ∧ i = .final img) ∨
      (s.journal.inService = some (.clearSlot h) ∧ i = .clear)) :
    exec .openSlotWriteComplete s = .next (s.writeOpen h i).afterService := by
  show execOpenSlotWriteComplete s = _
  unfold execOpenSlotWriteComplete
  obtain ⟨img, inService, rfl⟩ | ⟨img, inService, rfl⟩ | ⟨inService, rfl⟩ := write
  all_goals rw [inService]

/-- A plan record in the memory. -/
def State.planWritten (s : State) (k : Nat) (r : ClassRecord) : State :=
  s.setMem (memWriteBytes s.mem (planAddress k) (encodePlan r))

theorem exec_planWriteComplete {k : Nat} {r : ClassRecord} (inService : s.journal.inService = some (.plan k r)) :
    exec .planWriteComplete s = .next (s.planWritten k r).afterService := by
  show execPlanWriteComplete s = _
  unfold execPlanWriteComplete
  rw [inService]
  rfl

/-- The header in the memory. -/
def State.headerWritten (s : State) (img : Header) : State := s.setMem (memWriteBytes s.mem 768 (encodeHeader img))

theorem exec_headerWriteComplete {img : Header} (inService : s.journal.inService = some (.header (some img))) :
    exec .headerWriteComplete s = .next (s.headerWritten img).afterService.endScan := by
  show execHeaderWriteComplete s = _
  unfold execHeaderWriteComplete
  rw [inService]
  rfl

/-- An open-slot write that completes at a unit with nothing more to do. -/
theorem openWrite_stores {h : Side} (i : OpenImage) (wf : s.memoryOk) (queue : s.journal.queue = [])
    (none : s.noSendRead) (run : exec .openSlotWriteComplete s = .next (s.writeOpen h i).afterService) :
    ∃ t, exec .openSlotWriteComplete s = .next t ∧
      memReadBytes t.mem (openAddress h) 128 = encodeOpen i ∧ SameOutside (openAddress h) 128 s.mem t.mem ∧
      t.journal.openImages = s.journal.openImages.set h i ∧ t.journal.inService = .none ∧
      Only [.mem, .journal] s t := by
  obtain ⟨stored, outside⟩ := memWriteBytes_stores wf (openAddress h) (encodeOpen_length i)
  rw [afterService_idle (s := s.writeOpen h i) queue none] at run
  exact ⟨_, run, stored, outside, rfl, rfl, (writeOpen_only _ _ _).next (setJournal_only _ _)⟩

/-- A plan write that completes at a unit with nothing more to do. -/
theorem planWrite_stores {k : Nat} {r : ClassRecord} (wf : s.memoryOk) (queue : s.journal.queue = [])
    (none : s.noSendRead) (inService : s.journal.inService = some (.plan k r)) :
    ∃ t, exec .planWriteComplete s = .next t ∧
      memReadBytes t.mem (256 + 64 * k) 64 = encodePlan r ∧ SameOutside (256 + 64 * k) 64 s.mem t.mem ∧
      t.journal.inService = .none ∧ Only [.mem, .journal] s t := by
  obtain ⟨stored, outside⟩ := memWriteBytes_stores wf (planAddress k) (encodePlan_length r)
  have run := exec_planWriteComplete inService
  rw [afterService_idle (s := s.planWritten k r) queue none] at run
  exact ⟨_, run, stored, outside, rfl, (setMem_only _ _).next (setJournal_only _ _)⟩

/-- A header write that completes at a unit with nothing more to do, and the end of the scan that waits for it. -/
theorem headerWrite_stores {img : Header} (wf : s.memoryOk) (queue : s.journal.queue = []) (none : s.noSendRead)
    (inService : s.journal.inService = some (.header (some img))) :
    ∃ t, exec .headerWriteComplete s = .next t ∧
      memReadBytes t.mem 768 14 = encodeHeader img ∧ SameOutside 768 14 s.mem t.mem ∧
      t.journal.inService = .none ∧ (s.start.scanEnd = .none → Only [.mem, .journal] s t) ∧
      (∀ e, s.start.stage = .journalScan → s.start.scanEnd = some e →
        t.start = { s.start with
          stage := .listen, listenTimer := some (s.elapsed + 30000), scanEnd := .none } ∧
        t.line = { s.line with
          siteTime := max e.time s.line.siteTime, confirmed := false, running := true } ∧
        (∀ h, t.hose h = { s.hose h with totalizer := e.totals.get h }) ∧
        t.notice = { s.notice with
          countsTimer := if s.cfg.noticeEnable then some (s.elapsed + 10000) else s.notice.countsTimer } ∧
        Only [.mem, .journal, .start, .line, .hoses, .notice] s t) := by
  obtain ⟨stored, outside⟩ := memWriteBytes_stores wf 768 (encodeHeader_length img)
  have run := exec_headerWriteComplete inService
  rw [afterService_idle (s := s.headerWritten img) queue none] at run
  have written : Only [.mem, .journal] s (s.headerWritten img).endService :=
    (setMem_only _ _).next (setJournal_only _ _)
  have quiet : (s.headerWritten img).endService.journal.operations.any MemOp.isHeader = false := by
    show (List.any ([] ++ s.journal.queue) MemOp.isHeader) = false
    rw [queue]
    rfl
  refine ⟨_, run, ?_⟩
  by_cases waits : s.start.stage = .journalScan ∧ ∃ e, s.start.scanEnd = some e
  · obtain ⟨stage, e, found⟩ := waits
    rw [endScan_listens (s := (s.headerWritten img).endService) stage found quiet none]
    have ended := scanEnded_only (s.headerWritten img).endService e
    refine ⟨ended.mem_eq ▸ stored, ended.mem_eq ▸ outside, congrArg Journal.inService ended.journal_eq,
      fun no => (nomatch no.symm.trans found), fun e' _ found' => ?_⟩
    cases found.symm.trans found'
    exact ⟨scanEnded_start e, scanEnded_line e, scanEnded_hose e, scanEnded_notice e, written.next ended⟩
  · have stays : (s.headerWritten img).endService.endScan = (s.headerWritten img).endService := by
      unfold State.endScan
      split
      · rfl
      next e found => exact if_neg fun both => waits ⟨both.1, e, found⟩
    rw [stays]
    exact ⟨stored, outside, rfl, fun _ => written, fun e stage found => absurd ⟨stage, e, found⟩ waits⟩

/-- An open-slot write that completes at a unit with another operation waiting. -/
theorem openWrite_serves {h : Side} {i : OpenImage} {op : MemOp} {rest : List MemOp} (wf : s.memoryOk)
    (run : exec .openSlotWriteComplete s = .next (s.writeOpen h i).afterService)
    (queue : s.journal.queue = op :: rest) (notPlan : ∀ k r, op ≠ .plan k r) (sent : s.journal.unsent = 0) :
    ∃ t, exec .openSlotWriteComplete s = .next t ∧
      memReadBytes t.mem (openAddress h) 128 = encodeOpen i ∧ SameOutside (openAddress h) 128 s.mem t.mem ∧
      t.journal = Journal.served { s.journal with openImages := s.journal.openImages.set h i } op rest s.elapsed ∧
      Only [.mem, .journal] s t := by
  obtain ⟨stored, outside⟩ := memWriteBytes_stores wf (openAddress h) (encodeOpen_length i)
  rw [afterService_serves (s := s.writeOpen h i) queue notPlan (noSendRead_of_sent sent)] at run
  exact ⟨_, run, stored, outside, rfl, (writeOpen_only _ _ _).next (setJournal_only _ _)⟩

/-- The end of a service and of the scan that waits for it, with an operation waiting that is no header write: that
operation is in service and LISTEN is entered; a send read may have joined the queue. -/
theorem afterService_endScan {op : MemOp} {rest : List MemOp} {e : ScanEnd}
    (queue : s.journal.queue = op :: rest) (noHeader : (op :: rest).any MemOp.isHeader = false)
    (notPlan : ∀ k r, op ≠ .plan k r) (stage : s.start.stage = .journalScan) (found : s.start.scanEnd = some e) :
    ∃ q1 q2, s.afterService.endScan =
      ((s.setJournal { s.journal.served op rest s.elapsed with
        inService := some op, queue := q1 }).scanEnded e).setJournal
        { s.journal.served op rest s.elapsed with inService := some op, queue := q2 } := by
  have quiet : op.isHeader = false ∧ rest.any MemOp.isHeader = false := by simpa using noHeader
  have entering : s.journal.served op rest s.elapsed =
      { s.journal.served op rest s.elapsed with inService := some op } := by
    cases op with
    | header x => exact nomatch quiet.1
    | _ => rfl
  have served : s.endService.serveNext =
      s.setJournal { s.journal.served op rest s.elapsed with inService := some op } := by
    rw [serveNext_served (s := s.endService) rfl queue notPlan, ← entering]
    rfl
  obtain ⟨q1, queued1, same⟩ := requestSendRead_queues
    (s := s.setJournal { s.journal.served op rest s.elapsed with inService := some op }) rfl
  have after : s.afterService =
      s.setJournal { s.journal.served op rest s.elapsed with inService := some op, queue := q1 } := by
    rw [State.afterService, served, queued1]
    rfl
  have noHeaderNow : ([op] ++ q1).any MemOp.isHeader = false := by
    have : q1.any MemOp.isHeader = false := same.trans quiet.2
    simp [quiet.1, this]
  have journal := (scanEnded_only
    (s.setJournal { s.journal.served op rest s.elapsed with inService := some op, queue := q1 }) e).journal_eq
  obtain ⟨q2, queued2, -⟩ := requestSendRead_queues (s := (s.setJournal
    { s.journal.served op rest s.elapsed with inService := some op, queue := q1 }).scanEnded e) (by rw [journal]; rfl)
  refine ⟨q1, q2, ?_⟩
  rw [after, endScan_ends (by exact stage) (by exact found) (by exact noHeaderNow), queued2, journal]
  rfl

/-- A header write that a scan waits for completes at a unit with another operation waiting. -/
theorem headerWrite_serves {img : Header} {e : ScanEnd} {op : MemOp} {rest : List MemOp} (wf : s.memoryOk)
    (inService : s.journal.inService = some (.header (some img))) (queue : s.journal.queue = op :: rest)
    (noHeader : (op :: rest).any MemOp.isHeader = false) (notPlan : ∀ k r, op ≠ .plan k r)
    (stage : s.start.stage = .journalScan) (found : s.start.scanEnd = some e) :
    ∃ t, exec .headerWriteComplete s = .next t ∧
      memReadBytes t.mem 768 14 = encodeHeader img ∧ SameOutside 768 14 s.mem t.mem ∧
      t.start = { s.start with stage := .listen, listenTimer := some (s.elapsed + 30000), scanEnd := none } ∧
      t.line = { s.line with siteTime := max e.time s.line.siteTime, confirmed := false, running := true } ∧
      (∀ h, t.hose h = { s.hose h with totalizer := e.totals.get h }) ∧
      t.journal.inService = some op ∧ t.journal.opTimer = some (s.elapsed + 100) ∧
      t.journal.header = s.journal.header ∧ t.journal.openImages = s.journal.openImages ∧
      Only [.mem, .journal, .start, .line, .hoses, .notice] s t := by
  obtain ⟨stored, outside⟩ := memWriteBytes_stores wf 768 (encodeHeader_length img)
  have run := exec_headerWriteComplete inService
  obtain ⟨q1, q2, ended⟩ := afterService_endScan (s := s.headerWritten img) queue noHeader notPlan stage found
  rw [ended] at run
  have listen := scanEnded_only ((s.headerWritten img).setJournal { s.journal.served op rest s.elapsed with
    inService := some op, queue := q1 }) e
  refine ⟨_, run, ?_, ?_, scanEnded_start e, scanEnded_line e, scanEnded_hose e, rfl, rfl, rfl, rfl, ?_⟩
  · rw [State.setJournal_mem, ← stored]
    exact congrArg (memReadBytes · 768 14) listen.mem_eq
  · rw [State.setJournal_mem]
    exact listen.mem_eq ▸ outside
  · exact Only.next (b1 := [.mem, .journal, .start, .line, .hoses, .notice])
      (Only.next (b1 := [.mem, .journal]) ((setMem_only _ _).next (setJournal_only _ _)) listen) (setJournal_only _ _)

end

/-- Settles O51: each completed write puts its structure in place alone; the header write that a scan waits for ends
JOURNAL SCAN. -/
theorem writeCompletionsStore : Obligations.WriteCompletionsStore := by
  refine ⟨fun s wf queue none => ⟨?_, ?_, ?_, ?_⟩, ?_, ?_⟩
  · intro h img write
    obtain inService | inService := write
    · have run := exec_openSlotWriteComplete (i := .opened img) (.inl ⟨img, inService, rfl⟩)
      obtain ⟨t, step, rest⟩ := openWrite_stores (.opened img) wf queue none run
      exact ⟨t, _, step, (if_pos inService).symm, rest⟩
    · have run := exec_openSlotWriteComplete (i := .final img) (.inr (.inl ⟨img, inService, rfl⟩))
      obtain ⟨t, step, rest⟩ := openWrite_stores (.final img) wf queue none run
      refine ⟨t, _, step, (if_neg ?_).symm, rest⟩
      rw [inService]
      nofun
  · intro h inService
    exact openWrite_stores .clear wf queue none (exec_openSlotWriteComplete (.inr (.inr ⟨inService, rfl⟩)))
  · intro k r inService
    exact planWrite_stores wf queue none inService
  · intro img inService
    exact headerWrite_stores wf queue none inService
  · intro s h op rest wf inService queue notPlan sent
    obtain ⟨t, run, stored, outside, journal, frame⟩ :=
      openWrite_serves wf (exec_openSlotWriteComplete (.inr (.inr ⟨inService, rfl⟩))) queue notPlan sent
    refine ⟨t, run, stored, outside, journal.trans ?_, frame⟩
    cases op <;> rfl
  · intro s img e op rest wf inService queue noHeader notPlan stage found
    exact headerWrite_serves wf inService queue noHeader notPlan stage found

end Sys2Proof.Machine

namespace Sys2Proof.Machine

set_option Elab.async false

/-! ### The greatest of the values found (R144, R156) -/

theorem foldl_max_spec (l : List Nat) (a : Nat) :
    a ≤ l.foldl max a ∧ (∀ b ∈ l, b ≤ l.foldl max a) ∧ (l.foldl max a = a ∨ l.foldl max a ∈ l) := by
  induction l generalizing a with
  | nil => simp
  | cons c l ih =>
    obtain ⟨start, bound, attained⟩ := ih (max a c)
    simp only [List.foldl_cons, List.mem_cons, forall_eq_or_imp]
    refine ⟨by omega, ⟨by omega, bound⟩, ?_⟩
    obtain e | e := attained
    · omega
    · exact .inr (.inr e)

theorem foldl_max_unique {l : List Nat} {a m : Nat} (start : a ≤ m) (bound : ∀ b ∈ l, b ≤ m)
    (attained : m = a ∨ m ∈ l) : l.foldl max a = m := by
  obtain ⟨start', bound', attained'⟩ := foldl_max_spec l a
  have above : m ≤ l.foldl max a := by
    obtain rfl | e := attained
    · exact start'
    · exact bound' m e
  have below : l.foldl max a ≤ m := by
    obtain e | e := attained'
    · exact e.trans_le start
    · exact bound _ e
  exact Nat.le_antisymm below above

/-- A walk that keeps the greatest of the values that some of the elements have. -/
theorem foldl_greatest {α : Type} (v : α → Option Nat) (g : Nat → α → Nat)
    (step : ∀ n x, g n x = (v x).elim n (max n)) (l : List α) (a : Nat) :
    l.foldl g a = (l.filterMap v).foldl max a := by
  induction l generalizing a with
  | nil => rfl
  | cons x l ih =>
    rw [List.foldl_cons, step, ih, List.filterMap_cons]
    cases v x <;> rfl

/-- The sequence of a slot's record where it is of an epoch. -/
def RingSlot.seqOf (epoch : Nat) (x : RingSlot) : Option Nat := if x.epoch = epoch then some x.seq else none

/-- The sequence of an image's record where it is of an epoch. -/
def OpenImage.seqOf (epoch : Nat) (i : OpenImage) : Option Nat :=
  i.record.bind fun r => if r.epoch = epoch then some r.seq else none

theorem largestSeq_eq (epoch : Nat) (run : List RingSlot) (images : List OpenImage) : largestSeq epoch run images =
    (run.filterMap (RingSlot.seqOf epoch) ++ images.filterMap (OpenImage.seqOf epoch)).foldl max 0 := by
  unfold largestSeq
  dsimp only
  rw [foldl_greatest (RingSlot.seqOf epoch) _ (fun n x => by unfold RingSlot.seqOf; split <;> rfl),
    foldl_greatest (OpenImage.seqOf epoch) _ (fun n i => ?_), List.foldl_append]
  cases e : i.record with
  | none => simp [OpenImage.seqOf, e]
  | some r =>
    simp only [OpenImage.seqOf, e, Option.bind_some]
    split <;> rfl

theorem newestTime_eq (run : List RingSlot) (images : List OpenImage) : newestTime run images =
    (run.map RingSlot.time ++ images.filterMap fun i => i.record.map IssueRecord.stop).foldl max 0 := by
  unfold newestTime
  dsimp only
  rw [foldl_greatest (fun i : OpenImage => i.record.map IssueRecord.stop) _ (fun n i => ?_), List.foldl_append,
    List.foldl_map]
  cases i.record <;> rfl

/-! ### The ring as the scan reads it (R146, R151, R155) -/

section
variable {s : State} {failed : List Nat} {base : Nat}

theorem scanSlot_eq_some {p : Nat} {x : RingSlot} :
    s.scanSlot failed p = some x ↔ p ∉ failed ∧ s.ringSlot p = some x := by
  simp [State.scanSlot]

theorem validSlot_eq_some {p : Nat} {x : RingSlot} :
    s.validSlot failed base p = some x ↔ p ∉ failed ∧ s.ringSlot p = some x ∧ base ≤ x.serial := by
  unfold State.validSlot
  cases e : s.scanSlot failed p with
  | none =>
    refine ⟨fun h => (nomatch h), fun h => ?_⟩
    exact nomatch e.symm.trans (scanSlot_eq_some.2 ⟨h.1, h.2.1⟩)
  | some y =>
    obtain ⟨read, slot⟩ := scanSlot_eq_some.1 e
    simp only [Option.ite_none_right_eq_some, read, slot, not_false_iff, true_and, Option.some.injEq]
    exact ⟨fun ⟨above, same⟩ => ⟨same, same ▸ above⟩, fun ⟨same, above⟩ => ⟨same ▸ above, same⟩⟩

theorem greatestTime_eq (s : State) (failed : List Nat) (n : Nat) : s.greatestTime failed n =
    ((List.range n).filterMap fun p => (s.scanSlot failed p).map RingSlot.time).foldl max 0 := by
  unfold State.greatestTime
  refine foldl_greatest _ _ (fun t p => ?_) _ _
  unfold State.scanSlot
  split
  · rfl
  · cases s.ringSlot p <;> rfl

end

/-- What the walk over the positions below `n` has found: nothing readable, or the greatest serial at the lowest
position that has it. -/
def GreatestBelow (read : Nat → Option RingSlot) (n : Nat) : Option (Nat × RingSlot) → Prop
  | none => ∀ q < n, read q = none
  | some g => g.1 < n ∧ read g.1 = some g.2 ∧
    ∀ q y, q < n → read q = some y → y.serial ≤ g.2.serial ∧ (y.serial = g.2.serial → g.1 ≤ q)

/-- A slot greatest below `n` and not beaten at `n`, or at `n` and greater than all below, is greatest below `n + 1`. -/
theorem GreatestBelow.extend {read : Nat → Option RingSlot} {n : Nat} {g : Nat × RingSlot} (inside : g.1 < n + 1)
    (reads : read g.1 = some g.2)
    (below : ∀ q y, q < n → read q = some y → y.serial ≤ g.2.serial ∧ (y.serial = g.2.serial → g.1 ≤ q))
    (here : ∀ y, read n = some y → y.serial ≤ g.2.serial) : GreatestBelow read (n + 1) (some g) := by
  refine ⟨inside, reads, fun q y less e => ?_⟩
  obtain before | rfl := Nat.lt_succ_iff_lt_or_eq.1 less
  · exact below q y before e
  · exact ⟨here y e, fun _ => Nat.le_of_lt_succ inside⟩

theorem greatestSlot_spec (read : Nat → Option RingSlot) (n : Nat) :
    GreatestBelow read n (greatestSlot read n) := by
  induction n with
  | zero => exact fun q h => absurd h (Nat.not_lt_zero q)
  | succ n ih =>
    have step : greatestSlot read (n + 1) = (match read n, greatestSlot read n with
        | none, _ => greatestSlot read n
        | some x, none => some (n, x)
        | some x, some a => if a.2.serial < x.serial then some (n, x) else some a) := by
      unfold greatestSlot
      rw [List.range_succ, List.foldl_append]
      simp only [List.foldl_cons, List.foldl_nil]
      cases read n <;> cases List.foldl _ none (List.range n) <;> rfl
    rw [step]
    cases here : read n with
    | none =>
      cases found : greatestSlot read n with
      | none =>
        rw [found] at ih
        intro q less
        obtain before | rfl := Nat.lt_succ_iff_lt_or_eq.1 less
        · exact ih q before
        · exact here
      | some g =>
        rw [found] at ih
        obtain ⟨inside, reads, greatest⟩ := ih
        exact .extend (by omega) reads greatest fun y e => nomatch here.symm.trans e
    | some x =>
      have itself (y : RingSlot) (e : read n = some y) : y.serial = x.serial := by
        cases here.symm.trans e
        rfl
      cases found : greatestSlot read n with
      | none =>
        rw [found] at ih
        exact .extend (by omega) here (fun q y less e => nomatch (ih q less).symm.trans e) fun y e => (itself y e).le
      | some g =>
        rw [found] at ih
        obtain ⟨inside, reads, greatest⟩ := ih
        dsimp only
        split
        next greater =>
          refine .extend (by omega) here (fun q y less e => ?_) fun y e => (itself y e).le
          have smaller := (greatest q y less e).1.trans_lt greater
          exact ⟨smaller.le, fun same => absurd same smaller.ne⟩
        next notGreater =>
          exact .extend (by omega) reads greatest fun y e => (itself y e).trans_le (Nat.le_of_not_lt notGreater)

theorem greatestSlot_eq_none {read : Nat → Option RingSlot} {n : Nat} (none : ∀ q < n, read q = none) :
    greatestSlot read n = .none := by
  have spec := greatestSlot_spec read n
  cases found : greatestSlot read n with
  | none => rfl
  | some g =>
    rw [found] at spec
    exact nomatch (none g.1 spec.1).symm.trans spec.2.1

theorem greatestSlot_eq_some {read : Nat → Option RingSlot} {n p : Nat} {x : RingSlot} (inside : p < n)
    (reads : read p = some x)
    (greatest : ∀ q y, q < n → read q = some y → y.serial ≤ x.serial ∧ (y.serial = x.serial → p ≤ q)) :
    greatestSlot read n = some (p, x) := by
  have spec := greatestSlot_spec read n
  cases found : greatestSlot read n with
  | none =>
    rw [found] at spec
    exact nomatch (spec p inside).symm.trans reads
  | some g =>
    rw [found] at spec
    obtain ⟨g_inside, g_reads, g_greatest⟩ := spec
    obtain ⟨up, p_low⟩ := greatest g.1 g.2 g_inside g_reads
    obtain ⟨down, g_low⟩ := g_greatest p x inside reads
    have serial := Nat.le_antisymm up down
    have position : g.1 = p := Nat.le_antisymm (g_low serial.symm) (p_low serial)
    rw [position] at g_reads
    exact congrArg some (Prod.ext position (Option.some.inj (g_reads.symm.trans reads)))

/-- The position `k` slots back from `p`. -/
theorem position_back {p nj k : Nat} (inside : k < nj) (hp : p < nj) :
    ((p + nj - k) % nj + nj - 1) % nj = (p + nj - (k + 1)) % nj := by
  have : (p + nj - k) % nj + nj - 1 = (p + nj - k) % nj + (nj - 1) := by omega
  rw [this, Nat.mod_add_mod]
  have : p + nj - k + (nj - 1) = p + nj - (k + 1) + nj := by omega
  rw [this, Nat.add_mod_right]

/-- The walk back from the slot `k` of a run whose slots are `x 0`, `x 1`, … `x (n - 1)`. -/
theorem walkBack_run {read : Nat → Option RingSlot} {nj n p : Nat} {x : Nat → RingSlot} (hp : p < nj) (fits : n ≤ nj)
    (reads : ∀ k < n, read ((p + nj - k) % nj) = some (x k))
    (falls : ∀ k, k + 1 < n → (x (k + 1)).serial + 1 = (x k).serial)
    (stops : n < nj → ∀ y, read ((p + nj - n) % nj) = some y → y.serial + 1 ≠ (x (n - 1)).serial)
    (fuel k : Nat) (inside : k < n) (hfuel : fuel + k + 1 = nj) :
    walkBack read nj fuel ((p + nj - k) % nj) (x k).serial = (List.range' (k + 1) (n - (k + 1))).map x := by
  induction fuel generalizing k with
  | zero =>
    have : n - (k + 1) = 0 := by omega
    rw [this]
    rfl
  | succ fuel ih =>
    unfold walkBack
    dsimp only
    rw [position_back (by omega) hp]
    by_cases more : k + 1 < n
    · rw [reads (k + 1) more]
      dsimp only
      rw [if_pos (falls k more), ih (k + 1) more (by omega)]
      have : n - (k + 1) = n - (k + 1 + 1) + 1 := by omega
      rw [this, List.range'_succ]
      rfl
    · have last : k + 1 = n := by omega
      have : n - (k + 1) = 0 := by omega
      rw [this, last]
      cases e : read ((p + nj - n) % nj) with
      | none => rfl
      | some y =>
        have differs := stops (by omega) y e
        have : k = n - 1 := by omega
        rw [← this] at differs
        exact if_neg differs

end Sys2Proof.Machine

namespace Sys2Proof.Machine

set_option Elab.async false

/-! ### JOURNAL SCAN under each header (R154, R178) -/

section
variable {s : State} {failed : ScanFailures} {hd : Header}

theorem exec_journalScan {outside : List Host.Cell} (stage : s.start.stage = .journalScan)
    (none : s.start.scanEnd = none) (cells : cellsInMemory outside = true) :
    exec (.journalScan outside failed) s = .next ((s.setMem (memSetCells s.mem outside)).runScan failed) := by
  show execJournalScan outside failed s = _
  unfold execJournalScan
  rw [if_pos ⟨stage, none⟩, if_pos cells]

theorem decodeHeader_epoch {bs : List Byte} (read : decodeHeader bs = some hd) : hd.epoch ≤ 65535 := by
  unfold decodeHeader at read
  split at read
  · simp only [decodeFields, unpackBits, Option.some.injEq] at read
    subst read
    exact Nat.le_of_lt_succ (Nat.mod_lt _ (by decide))
  · cases read

theorem scanHeader_some (read : failed.header = false) (header : decodeHeader (memReadBytes s.mem 768 14) = some hd) :
    s.scanHeader failed = some hd := by
  unfold State.scanHeader
  rw [read]
  exact header

theorem scanHeader_none (unreadable : failed.header = true ∨ decodeHeader (memReadBytes s.mem 768 14) = none) :
    s.scanHeader failed = none := by
  unfold State.scanHeader
  split
  · rfl
  next read => exact unreadable.resolve_left read

theorem runScan_good (header : s.scanHeader failed = some hd) (first : 1 ≤ hd.epoch) (last : hd.epoch ≤ 65535)
    (count : hd.slotCount = s.cfg.nj) : s.runScan failed = (s.scanRing failed hd).endScan := by
  have good : goodHeader s.cfg.nj hd = true := by
    have last' : hd.epoch ≤ Config.epochMax := last
    simp [goodHeader, first, last', count]
  unfold State.runScan
  rw [header]
  exact congrArg State.endScan (if_pos good)

theorem runScan_bad (header : s.scanHeader failed = some hd) (bad : hd.epoch = 0 ∨ hd.slotCount ≠ s.cfg.nj) :
    s.runScan failed = (s.formatJournal failed (some hd)).endScan := by
  have notGood : ¬goodHeader s.cfg.nj hd = true := by
    simp only [goodHeader, Bool.and_eq_true, decide_eq_true_eq, beq_iff_eq]
    rintro ⟨⟨first, -⟩, count⟩
    obtain zero | other := bad
    · omega
    · exact other count
  unfold State.runScan
  rw [header]
  exact congrArg State.endScan (if_neg notGood)

theorem runScan_unreadable (header : s.scanHeader failed = none) :
    s.runScan failed = (s.formatJournal failed none).endScan := by
  unfold State.runScan
  rw [header]

end

/-! ### Formatting (R154) -/

section
variable {s : State}

/-- An operation passed to a unit with nothing to do enters service at once. -/
theorem pushOp_of_idle {op : MemOp} (free : s.journal.inService = none) (queue : s.journal.queue = [])
    (notPlan : ∀ k r, op ≠ .plan k r) : s.pushOp op = s.setJournal (s.journal.served op [] s.elapsed) := by
  have waits : s.journal.queue ++ [op] = [op] := by rw [queue]; rfl
  exact serveNext_served (s := s.setJournal { s.journal with queue := s.journal.queue ++ [op] }) free waits notPlan

theorem requestHeader_of_busy (busy : s.journal.inService.isSome = true)
    (none : s.journal.queue.any MemOp.isHeader = false) :
    s.requestHeader = s.setJournal { s.journal with queue := s.journal.queue ++ [.header .none] } := by
  unfold State.requestHeader
  rw [if_neg (by rw [none]; nofun), pushOp_of_busy busy]

/-- A journal with the writes of formatting passed to its unit: both open slots CLEAR, then the header. -/
def Journal.formatting (j : Journal) (elapsed : Nat) : Journal :=
  { j with
    inService := some (.clearSlot .one), ringWritten := false, opTimer := some (elapsed + 100),
    queue := [.clearSlot .two, .header none] }

theorem requestFormat_eq (free : s.journal.inService = none) (queue : s.journal.queue = []) :
    s.requestFormat = s.setJournal (s.journal.formatting s.elapsed) := by
  unfold State.requestFormat
  rw [pushOp_of_idle (op := .clearSlot .one) free queue nofun, pushOp_of_busy (by rfl),
    requestHeader_of_busy (by rfl) (by rfl)]
  rfl

/-- The journal that formatting leaves, its writes passed. -/
def formattingJournal (epoch nj : Nat) (greatest : Option (Nat × RingSlot)) (elapsed : Nat) : Journal :=
  (formattedJournal epoch nj greatest).formatting elapsed

/-- The stage waits for the header write of a formatting. -/
theorem formatted_endScan (epoch nj : Nat) (greatest : Option (Nat × RingSlot)) (e : ScanEnd) :
    (((s.setJournal (formattedJournal epoch nj greatest)).requestFormat).holdScanEnd e).endScan =
      (s.setJournal (formattingJournal epoch nj greatest s.elapsed)).setStart { s.start with scanEnd := some e } := by
  rw [requestFormat_eq (by rfl) (by rfl)]
  exact endScan_waits (by rfl)

theorem formatJournal_known {failed : ScanFailures} {header : Option Header} {old : Nat}
    (known : oldEpoch header (greatestSlot (s.scanSlot failed.ring) s.cfg.nj) = some old) :
    (s.formatJournal failed header).endScan = (s.setJournal (formattingJournal (epochAfter old) s.cfg.nj
      (greatestSlot (s.scanSlot failed.ring) s.cfg.nj) s.elapsed)).setStart
        { s.start with scanEnd := some ⟨s.greatestTime failed.ring s.cfg.nj, ⟨0, 0⟩⟩ } := by
  unfold State.formatJournal
  simp only [known]
  exact formatted_endScan _ _ _ _

theorem formatJournal_unknown {failed : ScanFailures} {header : Option Header}
    (unknown : oldEpoch header (greatestSlot (s.scanSlot failed.ring) s.cfg.nj) = none) :
    (s.formatJournal failed header).endScan = ((s.draw 65535).2.setJournal (formattingJournal ((s.draw 65535).1 + 1)
      s.cfg.nj (greatestSlot (s.scanSlot failed.ring) s.cfg.nj) s.elapsed)).setStart
        { s.start with scanEnd := some ⟨s.greatestTime failed.ring s.cfg.nj, ⟨0, 0⟩⟩ } := by
  unfold State.formatJournal
  simp only [unknown]
  exact formatted_endScan (s := (s.draw 65535).2) _ _ _ _

end

/-! ### What the scan of a ring passes to the unit (R156 to R158) -/

section
variable {s : State}

/-- No header write waits or is in service. -/
def State.noHeaderWrite (s : State) : Prop := s.journal.operations.any MemOp.isHeader = false

theorem serveNext_noHeaderWrite (none : s.noHeaderWrite) : s.serveNext.noHeaderWrite := by
  unfold State.serveNext
  dsimp only
  split
  next op rest free queue =>
    have quiet : op.isHeader = false ∧ rest.any MemOp.isHeader = false := by
      simpa [State.noHeaderWrite, Journal.operations, free, queue] using none
    cases op with
    | header x => exact nomatch quiet.1
    | plan k r =>
      dsimp only
      split
      · simpa [State.noHeaderWrite, Journal.operations, MemOp.isHeader] using quiet.2
      · simpa [State.noHeaderWrite, Journal.operations, MemOp.isHeader] using quiet.2
    | _ => simpa [State.noHeaderWrite, Journal.operations, MemOp.isHeader] using quiet.2
  · exact none

theorem pushOp_noHeaderWrite {op : MemOp} (none : s.noHeaderWrite) (notHeader : op.isHeader = false) :
    (s.pushOp op).noHeaderWrite := by
  refine serveNext_noHeaderWrite ?_
  unfold State.noHeaderWrite Journal.operations at none ⊢
  rw [List.any_append, Bool.or_eq_false_iff] at none ⊢
  refine ⟨none.1, ?_⟩
  show (s.journal.queue ++ [op]).any MemOp.isHeader = false
  simp only [List.any_append, none.2, List.any_cons, notHeader, List.any_nil, Bool.or_false]

theorem passAppend_scan_noHeaderWrite (r : IssueRecord) (none : s.noHeaderWrite) :
    (s.passAppend .scan (.issue r)).noHeaderWrite := by
  have assigned (j : Journal) (nj : Nat) : (j.assign nj).inService = j.inService := by
    unfold Journal.assign
    split <;> rfl
  unfold State.passAppend
  dsimp only
  split
  · refine pushOp_noHeaderWrite ?_ rfl
    simpa [State.noHeaderWrite, Journal.operations, assigned] using none
  · exact none

theorem recover_noHeaderWrite (r : IssueRecord) (none : s.noHeaderWrite) : (s.recover r).noHeaderWrite := by
  unfold State.recover
  dsimp only
  split
  · exact passAppend_scan_noHeaderWrite r (by exact none)
  · exact none

theorem takeOpenSlot_noHeaderWrite (h : Side) (run : List RingSlot) (i : OpenImage) (none : s.noHeaderWrite) :
    (s.takeOpenSlot h run i).noHeaderWrite := by
  unfold State.takeOpenSlot
  dsimp only
  split
  · exact none
  · split
    · exact recover_noHeaderWrite _ (by exact none)
    · exact pushOp_noHeaderWrite (by exact none) rfl

theorem placeSequence_below {largest : Nat} (below : largest ≠ 16777215) :
    s.placeSequence largest = s.setJournal { s.journal with nextSeq := largest + 1 } := if_neg below

end

end Sys2Proof.Machine

namespace Sys2Proof.Machine

set_option Elab.async false

/-! ### The scan of a ring under a good header (R155 to R158, R178) -/

section
variable {s : State} {failed : ScanFailures} {hd : Header}

/-- The run that the scan finds. -/
def State.foundRun (s : State) (failed : ScanFailures) (hd : Header) : Option Run :=
  findRun (s.validSlot failed.ring hd.baseSerial) s.cfg.nj

/-- Its slots, newest first. -/
def State.foundSlots (s : State) (failed : ScanFailures) (hd : Header) : List RingSlot :=
  match s.foundRun failed hd with
  | none => []
  | some r => r.slots

/-- The images of the open slots as the scan finds them. -/
def State.foundImages (s : State) (failed : ScanFailures) : Pair OpenImage :=
  ⟨s.scanOpen failed .one, s.scanOpen failed .two⟩

/-- The largest sequence of the header's epoch. -/
def State.foundSequence (s : State) (failed : ScanFailures) (hd : Header) : Nat :=
  largestSeq hd.epoch (s.foundSlots failed hd) [(s.foundImages failed).one, (s.foundImages failed).two]

/-- What the end of the stage puts in place. -/
def State.foundEnd (s : State) (failed : ScanFailures) (hd : Header) : ScanEnd :=
  ⟨newestTime (s.foundSlots failed hd) [(s.foundImages failed).one, (s.foundImages failed).two],
    ⟨restoredTotalizer .one (s.foundSlots failed hd) (s.foundImages failed).one,
      restoredTotalizer .two (s.foundSlots failed hd) (s.foundImages failed).two⟩⟩

/-- The state with the run and the sequence taken up. -/
def State.runTaken (s : State) (failed : ScanFailures) (hd : Header) : State :=
  (s.setJournal (({ Journal.reset with header := hd } : Journal).withRun s.cfg.nj (s.foundRun failed hd))).placeSequence
    (s.foundSequence failed hd)

/-- The state with the open slots taken too. -/
def State.slotsTaken (s : State) (failed : ScanFailures) (hd : Header) : State :=
  ((s.runTaken failed hd).takeOpenSlot .one (s.foundSlots failed hd) (s.foundImages failed).one).takeOpenSlot .two
    (s.foundSlots failed hd) (s.foundImages failed).two

theorem scanRing_eq : s.scanRing failed hd = (s.slotsTaken failed hd).holdScanEnd (s.foundEnd failed hd) :=
  rfl

theorem slotsTaken_only : Only [.journal, .classes] s (s.slotsTaken failed hd) := by
  have placed : Only [.journal, .classes] s (s.runTaken failed hd) :=
    (setJournal_only _ _).next (placeSequence_only _ _)
  exact (placed.trans (takeOpenSlot_only _ _ _ _)).trans (takeOpenSlot_only _ _ _ _)

theorem scanRing_start : (s.scanRing failed hd).start = { s.start with scanEnd := some (s.foundEnd failed hd) } := by
  rw [scanRing_eq, ← (slotsTaken_only (s := s) (failed := failed) (hd := hd)).start_eq]
  rfl

theorem withRun_queue (j : Journal) (nj : Nat) (r : Option Run) :
    (j.withRun nj r).queue = j.queue ∧ (j.withRun nj r).inService = j.inService := by
  cases r <;> exact ⟨rfl, rfl⟩

/-- With no epoch advance the scan passes no header write. -/
theorem scanRing_noHeaderWrite (below : s.foundSequence failed hd ≠ 16777215) :
    (s.scanRing failed hd).noHeaderWrite := by
  rw [scanRing_eq]
  refine takeOpenSlot_noHeaderWrite _ _ _ (takeOpenSlot_noHeaderWrite _ _ _ ?_)
  rw [State.runTaken, placeSequence_below below]
  obtain ⟨queue, inService⟩ := withRun_queue { Journal.reset with header := hd } s.cfg.nj (s.foundRun failed hd)
  show ((_ : Option MemOp).toList ++ _).any MemOp.isHeader = false
  simp only [State.setJournal_journal, queue, inService]
  rfl

theorem scanRing_endScan (stage : s.start.stage = .journalScan) (below : s.foundSequence failed hd ≠ 16777215) :
    (s.scanRing failed hd).endScan =
      ((s.scanRing failed hd).scanEnded (s.foundEnd failed hd)).requestSendRead := by
  refine endScan_ends ?_ ?_ (scanRing_noHeaderWrite below)
  · rw [scanRing_start, stage]
  · rw [scanRing_start]

end

end Sys2Proof.Machine

namespace Sys2Proof.Machine

set_option Elab.async false

/-! ### What a scan finds it has read (R155 to R157) -/

section
variable {s : State} {failed : ScanFailures} {hd : Header}

theorem walkBack_reads {read : Nat → Option RingSlot} {nj : Nat} {x : RingSlot} (some : 0 < nj) (fuel pos serial : Nat)
    (mem : x ∈ walkBack read nj fuel pos serial) : ∃ q < nj, read q = .some x := by
  induction fuel generalizing pos serial with
  | zero => cases mem
  | succ fuel ih =>
    unfold walkBack at mem
    dsimp only at mem
    split at mem
    · cases mem
    next y reads =>
      split at mem
      · obtain rfl | later := List.mem_cons.1 mem
        · exact ⟨_, Nat.mod_lt _ some, reads⟩
        · exact ih _ _ later
      · cases mem

/-- Every slot of the run stands in the ring with a correct check value. -/
theorem foundSlots_read {x : RingSlot} (mem : x ∈ s.foundSlots failed hd) :
    ∃ q < s.cfg.nj, q ∉ failed.ring ∧ s.ringSlot q = some x := by
  have spec := greatestSlot_spec (s.validSlot failed.ring hd.baseSerial) s.cfg.nj
  unfold State.foundSlots State.foundRun findRun at mem
  cases found : greatestSlot (s.validSlot failed.ring hd.baseSerial) s.cfg.nj with
  | none =>
    rw [found] at mem
    cases mem
  | some g =>
    rw [found] at mem spec
    obtain ⟨inside, reads, -⟩ := spec
    have valid : ∃ q < s.cfg.nj, s.validSlot failed.ring hd.baseSerial q = some x := by
      obtain rfl | later := List.mem_cons.1 mem
      · exact ⟨g.1, inside, reads⟩
      · exact walkBack_reads (by omega) _ _ _ later
    obtain ⟨q, less, valid⟩ := valid
    obtain ⟨read, slot, -⟩ := validSlot_eq_some.1 valid
    exact ⟨q, less, read, slot⟩

/-- The image of an open slot as the memory holds it. -/
def State.openInMemory (s : State) (h : Side) : OpenImage := decodeOpen (memReadBytes s.mem (openAddress h) 128)

theorem scanOpen_clear {h : Side} (clear : failed.openSlot.get h = true ∨ s.openInMemory h = .clear) :
    s.scanOpen failed h = .clear := by
  unfold State.scanOpen
  split
  · rfl
  next read =>
    rw [show decodeOpen (memReadBytes s.mem (openAddress h) 128) = .clear from clear.resolve_left read]

theorem scanOpen_opened {h : Side} {r : IssueRecord} (read : failed.openSlot.get h = false)
    (opened : s.openInMemory h = .opened r) : s.scanOpen failed h = .opened { r with hose := h } := by
  unfold State.scanOpen
  rw [if_neg (by rw [read]; nofun), show decodeOpen (memReadBytes s.mem (openAddress h) 128) = .opened r from opened]

theorem scanOpen_final {h : Side} {r : IssueRecord} (read : failed.openSlot.get h = false)
    (final : s.openInMemory h = .final r) : s.scanOpen failed h = .final { r with hose := h } := by
  unfold State.scanOpen
  rw [if_neg (by rw [read]; nofun), show decodeOpen (memReadBytes s.mem (openAddress h) 128) = .final r from final]

/-- The record of an image that a scan finds stands in the memory, but for its hose. -/
theorem scanOpen_record {h : Side} {r : IssueRecord} (record : (s.scanOpen failed h).record = some r) :
    failed.openSlot.get h = false ∧ ∃ r0, (s.openInMemory h = .opened r0 ∨ s.openInMemory h = .final r0) ∧
      r = { r0 with hose := h } := by
  cases read : failed.openSlot.get h with
  | true =>
    rw [scanOpen_clear (.inl read)] at record
    cases record
  | false =>
    cases image : s.openInMemory h with
    | clear =>
      rw [scanOpen_clear (.inr image)] at record
      cases record
    | opened r0 =>
      rw [scanOpen_opened read image] at record
      cases record
      exact ⟨rfl, r0, .inl rfl, rfl⟩
    | final r0 =>
      rw [scanOpen_final read image] at record
      cases record
      exact ⟨rfl, r0, .inr rfl, rfl⟩

theorem seqOf_eq_some {x : RingSlot} {epoch n : Nat} : x.seqOf epoch = some n ↔ x.epoch = epoch ∧ x.seq = n := by
  simp [RingSlot.seqOf]

theorem imageSeqOf_eq_some {i : OpenImage} {epoch n : Nat} :
    i.seqOf epoch = some n ↔ ∃ r, i.record = some r ∧ r.epoch = epoch ∧ r.seq = n := by
  simp [OpenImage.seqOf, Option.bind_eq_some_iff]

/-- Where no record of the header's epoch has the last sequence, the epoch does not advance. -/
theorem foundSequence_below
    (ring : ∀ q y, q < s.cfg.nj → q ∉ failed.ring → s.ringSlot q = some y → y.epoch = hd.epoch → y.seq ≠ 16777215)
    (open_ : ∀ h r, failed.openSlot.get h = false → (s.openInMemory h = .opened r ∨ s.openInMemory h = .final r) →
      r.epoch = hd.epoch → r.seq ≠ 16777215) : s.foundSequence failed hd ≠ 16777215 := by
  intro last
  obtain ⟨-, -, zero | mem⟩ := foldl_max_spec ((s.foundSlots failed hd).filterMap (RingSlot.seqOf hd.epoch) ++
    [(s.foundImages failed).one, (s.foundImages failed).two].filterMap (OpenImage.seqOf hd.epoch)) 0
  · rw [← largestSeq_eq] at zero
    exact absurd (zero.symm.trans last) (by decide)
  · rw [← largestSeq_eq, show largestSeq _ _ _ = _ from last, List.mem_append, List.mem_filterMap,
      List.mem_filterMap] at mem
    obtain ⟨x, found, e⟩ | ⟨i, found, e⟩ := mem
    · obtain ⟨q, inside, read, slot⟩ := foundSlots_read found
      obtain ⟨epoch, seq⟩ := seqOf_eq_some.1 e
      exact ring q x inside read slot epoch seq
    · obtain ⟨r, record, epoch, seq⟩ := imageSeqOf_eq_some.1 e
      have image : ∃ h, i = s.scanOpen failed h := by
        obtain rfl | one := List.mem_cons.1 found
        · exact ⟨.one, rfl⟩
        · exact ⟨.two, List.mem_singleton.1 one⟩
      obtain ⟨h, rfl⟩ := image
      obtain ⟨read, r0, image, rfl⟩ := scanOpen_record record
      exact open_ h r0 read image epoch seq

end

/-! ### JOURNAL SCAN (R154, R178, R179) -/

section
variable {outside : List Host.Cell} {failed : ScanFailures} {s : State} {m : List Host.Cell}

/-- A good header without an epoch advance: the stage ends in LISTEN. -/
theorem goodScan_listens {hd : Header} (stage : s.start.stage = .journalScan) (none : s.start.scanEnd = none)
    (below : (s.setMem m).foundSequence failed hd ≠ 16777215) :
    ∃ t, ((s.setMem m).scanRing failed hd).endScan = t ∧ t.mem = m ∧
      t.start = { s.start with stage := .listen, listenTimer := some (s.elapsed + 30000) } ∧
      s.line.siteTime ≤ t.line.siteTime ∧ t.line.confirmed = false ∧ t.line.running = true ∧
      t.notice = { s.notice with
        countsTimer := if s.cfg.noticeEnable then some (s.elapsed + 10000) else s.notice.countsTimer } ∧
      Only [.mem, .journal, .line, .hoses, .start, .notice, .classes] s t := by
  have scanned := scanRing_only (s.setMem m) failed hd
  have ended := scanEnded_only ((s.setMem m).scanRing failed hd) ((s.setMem m).foundEnd failed hd)
  have request := requestSendRead_only
    (((s.setMem m).scanRing failed hd).scanEnded ((s.setMem m).foundEnd failed hd))
  refine ⟨_, scanRing_endScan stage below, ?_, ?_, ?_, ?_, ?_, ?_, ?_⟩
  · rw [request.mem_eq, ended.mem_eq, scanned.mem_eq]
    rfl
  · rw [request.start_eq, scanEnded_start, scanRing_start, scanned.elapsed_eq]
    show ({ s.start with
      stage := .listen, listenTimer := some (s.elapsed + 30000), scanEnd := Option.none } : StartCtl) = _
    rw [← none]
  · rw [request.line_eq, scanEnded_line, scanned.line_eq]
    exact Nat.le_max_right ..
  · rw [request.line_eq, scanEnded_line]
  · rw [request.line_eq, scanEnded_line]
  · rw [request.notice_eq, scanEnded_notice, scanned.notice_eq, scanned.cfg_eq, scanned.elapsed_eq]
    rfl
  · exact Only.next (b1 := [.mem, .journal, .line, .hoses, .start, .notice, .classes])
      (Only.next (b1 := [.mem, .journal, .classes, .start]) ((setMem_only s m).next scanned) ended) request

end

end Sys2Proof.Machine

namespace Sys2Proof.Machine

set_option Elab.async false

section
variable {s : State} {failed : List Nat} {n : Nat}

theorem scanSlot_time_mem {t : Nat} :
    t ∈ (List.range n).filterMap (fun p => (s.scanSlot failed p).map RingSlot.time) ↔
      ∃ q y, q < n ∧ q ∉ failed ∧ s.ringSlot q = some y ∧ y.time = t := by
  simp only [List.mem_filterMap, List.mem_range, Option.map_eq_some_iff, scanSlot_eq_some]
  exact ⟨fun ⟨q, inside, y, ⟨read, slot⟩, time⟩ => ⟨q, y, inside, read, slot, time⟩,
    fun ⟨q, y, inside, read, slot, time⟩ => ⟨q, inside, y, ⟨read, slot⟩, time⟩⟩

theorem greatestTime_ge {q : Nat} {y : RingSlot} (inside : q < n) (read : q ∉ failed) (slot : s.ringSlot q = some y) :
    y.time ≤ s.greatestTime failed n := by
  rw [greatestTime_eq]
  exact (foldl_max_spec _ 0).2.1 _ (scanSlot_time_mem.2 ⟨q, y, inside, read, slot, rfl⟩)

/-- Where a slot reads the greatest time is the time of one that reads. -/
theorem greatestTime_attained {p : Nat} {x : RingSlot} (inside : p < n) (read : p ∉ failed)
    (slot : s.ringSlot p = some x) :
    ∃ q y, q < n ∧ q ∉ failed ∧ s.ringSlot q = some y ∧ y.time = s.greatestTime failed n := by
  have above := greatestTime_ge inside read slot
  obtain ⟨-, -, zero | mem⟩ :=
    foldl_max_spec ((List.range n).filterMap fun p => (s.scanSlot failed p).map RingSlot.time) 0
  · rw [← greatestTime_eq] at zero
    exact ⟨p, x, inside, read, slot, by omega⟩
  · rw [← greatestTime_eq] at mem
    exact scanSlot_time_mem.1 mem

theorem greatestTime_none (none : ∀ p < n, s.scanSlot failed p = none) : s.greatestTime failed n = 0 := by
  rw [greatestTime_eq, List.filterMap_eq_nil_iff.2]
  · rfl
  · intro p mem
    rw [none p (List.mem_range.1 mem)]
    rfl

end

section
variable {outside : List Host.Cell} {failed : ScanFailures} {s : State} {m : List Host.Cell}

/-- No header and no ring slot that reads: the epoch is drawn. -/
theorem emptyMemory_isFormatted (unreadable : (s.setMem m).scanHeader failed = none)
    (noSlot : ∀ p < s.cfg.nj, (s.setMem m).scanSlot failed.ring p = none) :
    ∃ t epoch, (s.setMem m).runScan failed = t ∧ t.mem = m ∧ 1 ≤ epoch ∧ epoch ≤ 65535 ∧
      t.journal = { Journal.reset with
        header := ⟨epoch, s.cfg.nj, 1, 1⟩, tail := 0, sent := 0, unsent := 0, nextToLoad := 0, nextSeq := 1,
        nextSerial := 1, claims := 0, inService := some (.clearSlot .one), opTimer := some (s.elapsed + 100),
        queue := [.clearSlot .two, .header none] } ∧
      t.start = { s.start with scanEnd := some ⟨0, ⟨0, 0⟩⟩ } ∧ Only [.mem, .journal, .start, .draws] s t := by
  have greatest : greatestSlot ((s.setMem m).scanSlot failed.ring) (s.setMem m).cfg.nj = none :=
    greatestSlot_eq_none noSlot
  have unknown : oldEpoch none (greatestSlot ((s.setMem m).scanSlot failed.ring) (s.setMem m).cfg.nj) = none := by
    rw [greatest]
    rfl
  have time : (s.setMem m).greatestTime failed.ring (s.setMem m).cfg.nj = 0 := greatestTime_none noSlot
  rw [runScan_unreadable unreadable, formatJournal_unknown unknown, greatest, time]
  have drawn : ((s.setMem m).draw 65535).1 < 65535 := Nat.mod_lt _ (by decide)
  refine ⟨_, _, rfl, rfl, Nat.le_add_left 1 _, drawn, rfl, rfl, ?_⟩
  exact Only.next (b1 := [.mem, .draws, .journal])
    (Only.next (b1 := [.mem, .draws]) ((setMem_only s m).next (draw_only _ _)) (setJournal_only _ _))
    (setStart_only _ _)

/-- A header that is not good, or a ring slot that reads: the epoch is the one after the old one, and the ring is FREE
from the position after the slot of the greatest serial. -/
theorem oldJournal_isFormatted {old p : Nat} {x : RingSlot} {header : Option Header}
    (scan : (s.setMem m).runScan failed = ((s.setMem m).formatJournal failed header).endScan)
    (epoch : oldEpoch header (some (p, x)) = some old) (inside : p < s.cfg.nj) (read : p ∉ failed.ring)
    (slot : (s.setMem m).ringSlot p = some x)
    (greatest : ∀ q y, q < s.cfg.nj → q ∉ failed.ring → (s.setMem m).ringSlot q = some y →
      y.serial ≤ x.serial ∧ (y.serial = x.serial → p ≤ q)) :
    ∃ t time, (s.setMem m).runScan failed = t ∧ t.mem = m ∧
      t.journal = { Journal.reset with
        header := ⟨if old = 65535 then 1 else old + 1, s.cfg.nj, x.serial + 1, x.serial + 1⟩,
        tail := (p + 1) % s.cfg.nj, sent := 0, unsent := 0, nextToLoad := (p + 1) % s.cfg.nj, nextSeq := 1,
        nextSerial := x.serial + 1, claims := 0, inService := some (.clearSlot .one),
        opTimer := some (s.elapsed + 100), queue := [.clearSlot .two, .header none] } ∧
      t.start = { s.start with scanEnd := some ⟨time, ⟨0, 0⟩⟩ } ∧
      (∀ q y, q < s.cfg.nj → q ∉ failed.ring → (s.setMem m).ringSlot q = some y → y.time ≤ time) ∧
      (∃ q y, q < s.cfg.nj ∧ q ∉ failed.ring ∧ (s.setMem m).ringSlot q = some y ∧ y.time = time) ∧
      Only [.mem, .journal, .start] s t := by
  have found : greatestSlot ((s.setMem m).scanSlot failed.ring) (s.setMem m).cfg.nj = some (p, x) := by
    refine greatestSlot_eq_some inside (scanSlot_eq_some.2 ⟨read, slot⟩) fun q y less reads => ?_
    obtain ⟨readable, here⟩ := scanSlot_eq_some.1 reads
    exact greatest q y less readable here
  have known : oldEpoch header (greatestSlot ((s.setMem m).scanSlot failed.ring) (s.setMem m).cfg.nj) = some old := by
    rw [found, epoch]
  rw [scan, formatJournal_known known, found]
  refine ⟨_, _, rfl, rfl, rfl, rfl, fun q y less readable here => greatestTime_ge less readable here,
    greatestTime_attained inside read slot, ?_⟩
  exact Only.next (b1 := [.mem, .journal]) ((setMem_only s m).next (setJournal_only _ _)) (setStart_only _ _)

end

/-- Settles O15: a good header's scan ends in LISTEN, and any other header's journal is formatted. -/
theorem journalScanRuns : Obligations.JournalScanRuns := by
  intro outside failed s m stage none cells hm
  have run := exec_journalScan (failed := failed) stage none cells
  rw [← hm] at run
  rw [run]
  refine ⟨fun hd read header first last count ring open_ => ?_, fun unreadable noSlot => ?_,
    fun old p x bad unreadable inside read slot greatest => ?_⟩
  · rw [runScan_good (s := s.setMem m) (scanHeader_some read header) first last count]
    obtain ⟨t, rfl, rest⟩ := goodScan_listens (m := m) stage none (foundSequence_below ring open_)
    exact ⟨_, rfl, rest⟩
  · have noRead (p : Nat) (inside : p < s.cfg.nj) :
        (s.setMem m).scanSlot failed.ring p = Option.none := by
      refine Option.eq_none_iff_forall_not_mem.2 fun x mem => ?_
      obtain ⟨read, slot⟩ := scanSlot_eq_some.1 mem
      obtain not | empty := noSlot p inside
      · exact read not
      · exact nomatch empty.symm.trans slot
    obtain ⟨t, epoch, rfl, rest⟩ := emptyMemory_isFormatted (scanHeader_none unreadable) noRead
    exact ⟨_, epoch, rfl, rest⟩
  · have scanned : ∃ header, (s.setMem m).runScan failed =
        ((s.setMem m).formatJournal failed header).endScan ∧
        oldEpoch header (some (p, x)) = some old := by
      cases header : (s.setMem m).scanHeader failed with
      | none =>
        have no : failed.header = true ∨ decodeHeader (memReadBytes m 768 14) = Option.none := by
          unfold State.scanHeader at header
          split at header
          next failedRead => exact .inl failedRead
          next => exact .inr header
        exact ⟨_, runScan_unreadable header, congrArg some (unreadable no).symm⟩
      | some hd =>
        have reads : failed.header = false ∧
            decodeHeader (memReadBytes m 768 14) = some hd := by
          unfold State.scanHeader at header
          split at header
          · cases header
          next good => exact ⟨Bool.eq_false_iff.2 good, header⟩
        obtain ⟨notGood, rfl⟩ := bad hd reads.1 reads.2
        exact ⟨_, runScan_bad header notGood, rfl⟩
    obtain ⟨header, scan, epoch⟩ := scanned
    obtain ⟨t, time, rfl, rest⟩ := oldJournal_isFormatted scan epoch inside read slot greatest
    exact ⟨_, time, rfl, rest⟩

end Sys2Proof.Machine

namespace Sys2Proof.Machine

set_option Elab.async false

/-! ### The run found (R155) -/

section
variable {s : State} {failed : ScanFailures} {hd : Header} {n p newest : Nat} {x : Nat → RingSlot}

theorem foundRun_eq (found : FoundRun s.mem failed.ring s.cfg.nj hd.baseSerial n p newest x) :
    s.foundRun failed hd = some ⟨p, (List.range n).map x⟩ := by
  obtain ⟨some, fits, inside, slots, greatest, ends⟩ := found
  have reads (k : Nat) (less : k < n) :
      s.validSlot failed.ring hd.baseSerial ((p + s.cfg.nj - k) % s.cfg.nj) = .some (x k) := by
    obtain ⟨-, above, read, slot⟩ := slots k less
    exact validSlot_eq_some.2 ⟨read, slot, above⟩
  have serial (k : Nat) (less : k < n) : (x k).serial + k = newest := (slots k less).1
  have newestHere : (p + s.cfg.nj - 0) % s.cfg.nj = p := by
    rw [Nat.sub_zero, Nat.add_mod_right, Nat.mod_eq_of_lt inside]
  have first := reads 0 some
  rw [newestHere] at first
  have greatestHere : greatestSlot (s.validSlot failed.ring hd.baseSerial) s.cfg.nj = .some (p, x 0) := by
    refine greatestSlot_eq_some inside first fun q y less valid => ?_
    obtain ⟨read, slot, above⟩ := validSlot_eq_some.1 valid
    have newestIs : newest = (x 0).serial := (serial 0 some).symm
    exact newestIs ▸ greatest q y less read slot above
  have walk := walkBack_run inside fits reads (fun k less => by
    have := serial k (by omega)
    have := serial (k + 1) less
    omega) (fun less y valid => by
    obtain ⟨read, slot, above⟩ := validSlot_eq_some.1 valid
    have := ends less read y slot above
    have := serial (n - 1) (by omega)
    omega) (s.cfg.nj - 1) 0 some (by omega)
  rw [newestHere] at walk
  have list : (List.range n).map x = x 0 :: (List.range' 1 (n - 1)).map x := by
    have : n = n - 1 + 1 := by omega
    rw [List.range_eq_range', this, List.range'_succ]
    rfl
  unfold State.foundRun findRun
  rw [greatestHere, list]
  exact congrArg (fun l => Option.some (Run.mk p (x 0 :: l))) walk

theorem foundSlots_eq (found : FoundRun s.mem failed.ring s.cfg.nj hd.baseSerial n p newest x) :
    s.foundSlots failed hd = (List.range n).map x := by
  unfold State.foundSlots
  rw [foundRun_eq found]

/-- The record of a hose's ISSUE slot. -/
def RingSlot.issuedAt (h : Side) (x : RingSlot) : Prop :=
  x.kind = 1 ∧ (decodeIssue x.epoch x.seq x.content).hose = h

theorem ringTotalizer_issued {h : Side} {y : RingSlot} (here : y.issuedAt h) (rest : List RingSlot) :
    ringTotalizer h (y :: rest) = (decodeIssue y.epoch y.seq y.content).totalizer := by
  unfold ringTotalizer
  rw [if_pos here.1]
  exact if_pos here.2

theorem ringTotalizer_other {h : Side} {y : RingSlot} (not : ¬y.issuedAt h) (rest : List RingSlot) :
    ringTotalizer h (y :: rest) = ringTotalizer h rest := by
  rw [ringTotalizer]
  split
  next kind => exact if_neg fun hose => not ⟨kind, hose⟩
  next => rfl

/-- The newest ISSUE record of a hose gives its totalizer. -/
theorem ringTotalizer_newest {h : Side} (n k : Nat) (less : k < n) (here : (x k).issuedAt h)
    (older : ∀ j < k, ¬(x j).issuedAt h) : ringTotalizer h ((List.range n).map x) =
      (decodeIssue (x k).epoch (x k).seq (x k).content).totalizer := by
  induction n generalizing k x with
  | zero => omega
  | succ n ih =>
    rw [List.range_succ_eq_map, List.map_cons, List.map_map]
    cases k with
    | zero => exact ringTotalizer_issued here _
    | succ k =>
      rw [ringTotalizer_other (older 0 (by omega))]
      exact ih (x := x ∘ Nat.succ) k (by omega) here fun j hj => older (j + 1) (by omega)

theorem ringTotalizer_none {h : Side} (n : Nat) (none : ∀ k < n, ¬(x k).issuedAt h) :
    ringTotalizer h ((List.range n).map x) = 0 := by
  induction n generalizing x with
  | zero => rfl
  | succ n ih =>
    rw [List.range_succ_eq_map, List.map_cons, List.map_map, ringTotalizer_other (none 0 (by omega))]
    exact ih (x := x ∘ Nat.succ) fun k hk => none (k + 1) (by omega)

end

/-! ### The ring that a run gives (R155) -/

/-- The ring's positions after a scan that found `n` slots up to `newest`, the newest at `p`. -/
structure RingOfRun (hd : Header) (nj n p newest : Nat) (j : Journal) : Prop where
  tail : j.tail = (p + nj + 1 - n) % nj
  size : j.sent + j.unsent = n
  unsentAll : hd.savedMark + n ≤ newest + 1 → j.sent = 0
  sentAll : newest < hd.savedMark → j.sent = n
  sentSome : newest + 1 ≤ hd.savedMark + n → hd.savedMark ≤ newest → newest + 1 + j.sent = hd.savedMark + n
  nextSerial : j.nextSerial = newest + 1
  loadHold : j.loadHold = none
  sentSinceSave : j.sentSinceSave = 0
  nextToLoad : j.nextToLoad = (j.tail + j.sent) % nj
  claims : j.claims = 0
  pending : j.pendingRecoveries = []

theorem withRun_cons (j : Journal) (nj p : Nat) (y : RingSlot) (rest : List RingSlot) :
    j.withRun nj (some ⟨p, y :: rest⟩) = { j with
      tail := (p + 1 + nj - (rest.length + 1)) % nj
      sent := sentCount j.header.savedMark y.serial (rest.length + 1)
      unsent := rest.length + 1 - sentCount j.header.savedMark y.serial (rest.length + 1)
      nextSerial := y.serial + 1
      nextToLoad := ((p + 1 + nj - (rest.length + 1)) % nj +
        sentCount j.header.savedMark y.serial (rest.length + 1)) % nj } := rfl

theorem withRun_ring {hd : Header} {nj n p newest : Nat} {x : Nat → RingSlot} (some : 1 ≤ n)
    (serial : (x 0).serial = newest) :
    RingOfRun hd nj n p newest (({ Journal.reset with header := hd } : Journal).withRun nj
      (.some ⟨p, (List.range n).map x⟩)) := by
  have sent : sentCount hd.savedMark newest n ≤ n := by
    unfold sentCount
    split <;> omega
  have eq : ({ Journal.reset with header := hd } : Journal).withRun nj (.some ⟨p, (List.range n).map x⟩) =
      { Journal.reset with
        header := hd, tail := (p + nj + 1 - n) % nj, sent := sentCount hd.savedMark newest n,
        unsent := n - sentCount hd.savedMark newest n, nextSerial := newest + 1,
        nextToLoad := ((p + nj + 1 - n) % nj + sentCount hd.savedMark newest n) % nj } := by
    obtain ⟨k, rfl⟩ : ∃ k, n = k + 1 := ⟨n - 1, by omega⟩
    have tailIs : p + 1 + nj - (k + 1) = p + nj + 1 - (k + 1) := by omega
    rw [List.range_succ_eq_map, List.map_cons, withRun_cons, List.length_map, List.length_map, List.length_range,
      serial, tailIs]
  rw [eq]
  refine ⟨rfl, by dsimp only; omega, fun h => ?_, fun h => ?_, fun h1 h2 => ?_, rfl, rfl, rfl, rfl, rfl, rfl⟩
  · show sentCount hd.savedMark newest n = 0
    unfold sentCount
    split <;> omega
  · show sentCount hd.savedMark newest n = n
    unfold sentCount
    split <;> omega
  · show newest + 1 + sentCount hd.savedMark newest n = _
    unfold sentCount
    split <;> omega

end Sys2Proof.Machine

namespace Sys2Proof.Machine

set_option Elab.async false

/-! ### Operations passed to the unit (R150) -/

/-- `j'` is the journal `j` after operations have been passed to its unit: its queue and what is in service may have
changed, every operation is still there, one in service stays so, and nothing waits at a unit that stands idle. -/
structure Journal.Passes (j j' : Journal) : Prop where
  rest : j' = { j with
    queue := j'.queue, inService := j'.inService, ringWritten := j'.ringWritten, opTimer := j'.opTimer }
  kept : ∀ op ∈ j.operations, op ∈ j'.operations
  first : j.inService.isSome = true → j'.inService = j.inService
  idle : j'.inService = none → j'.queue = []

section
variable {s : State} {j j' j'' : Journal}

theorem Journal.Passes.refl (idle : j.inService = none → j.queue = []) : j.Passes j :=
  ⟨rfl, fun _ => id, fun _ => rfl, idle⟩

theorem Journal.Passes.trans (a : j.Passes j') (b : j'.Passes j'') : j.Passes j'' := by
  refine ⟨?_, fun op mem => b.kept op (a.kept op mem), fun busy => ?_, b.idle⟩
  · have e := b.rest
    rw [a.rest] at e
    exact e
  · have same := a.first busy
    exact (b.first (by rw [same, busy])).trans same

/-- The images of the open slots do not bear on the unit's queue. -/
theorem Journal.Passes.withImages (a : j.Passes j') (images : Pair OpenImage) :
    ({ j with openImages := images } : Journal).Passes { j' with openImages := images } := by
  refine ⟨?_, a.kept, a.first, a.idle⟩
  have e := a.rest
  rw [e]

theorem pushOp_passes {op : MemOp} (notPlan : ∀ k r, op ≠ .plan k r) (notHeader : op.isHeader = false)
    (idle : s.journal.inService = none → s.journal.queue = []) :
    ∃ j, s.pushOp op = s.setJournal j ∧ s.journal.Passes j ∧ op ∈ j.operations := by
  cases free : s.journal.inService with
  | none =>
    have entering : (s.journal.served op [] s.elapsed).inService = some op := by
      cases op with
      | header x => exact nomatch notHeader
      | _ => rfl
    refine ⟨_, pushOp_of_idle free (idle free) notPlan, ⟨rfl, fun o mem => ?_, fun busy => ?_, fun _ => rfl⟩, ?_⟩
    · rw [Journal.operations, free, idle free] at mem
      cases mem
    · rw [free] at busy
      cases busy
    · rw [Journal.operations, entering]
      exact List.mem_cons_self ..
  | some o =>
    refine ⟨_, pushOp_of_busy (by rw [free]; rfl) op, ⟨rfl, fun o' mem => ?_, fun _ => rfl, fun none => ?_⟩, ?_⟩
    · rw [Journal.operations, List.mem_append] at mem ⊢
      exact mem.imp_right (List.mem_append_left _)
    · exact nomatch none.symm.trans free
    · exact List.mem_append_right _ (List.mem_append_right _ (List.mem_singleton_self op))

theorem requestSendRead_passes (idle : s.journal.inService = none → s.journal.queue = []) :
    ∃ j, s.requestSendRead = s.setJournal j ∧ s.journal.Passes j := by
  unfold State.requestSendRead
  dsimp only
  split
  · obtain ⟨j, push, passes, -⟩ := pushOp_passes (s := s) (op := .sendRead s.journal.nextToLoad) nofun rfl idle
    exact ⟨j, push, passes⟩
  · exact ⟨s.journal, rfl, .refl idle⟩

/-- An open slot whose record, if any, stands in the run: its image is taken, and the slot is to be CLEAR. -/
theorem takeOpenSlot_passes {h : Side} {run : List RingSlot} {i : OpenImage}
    (known : ∀ r, i.record = some r → holdsRecord run r = true)
    (idle : s.journal.inService = none → s.journal.queue = []) :
    ∃ j, s.takeOpenSlot h run i = s.setJournal j ∧
      ({ s.journal with openImages := s.journal.openImages.set h i } : Journal).Passes j ∧
      (i ≠ .clear → .clearSlot h ∈ j.operations) := by
  unfold State.takeOpenSlot
  dsimp only
  cases record : i.record with
  | none =>
    refine ⟨_, rfl, .refl idle, fun notClear => ?_⟩
    cases i with
    | clear => exact absurd rfl notClear
    | _ => cases record
  | some r =>
    have noRecovery : i.toRecover run = none := by
      simp only [OpenImage.toRecover, record, known r record, if_true]
    obtain ⟨j, push, passes, mem⟩ := pushOp_passes (s := s.setOpenImage h i) (op := .clearSlot h) nofun rfl idle
    rw [noRecovery]
    exact ⟨j, push, passes, fun _ => mem⟩

/-- Both open slots taken. -/
theorem takeOpenSlots_pass {run : List RingSlot} {one two : OpenImage}
    (known : ∀ r, (one.record = some r ∨ two.record = some r) → holdsRecord run r = true)
    (idle : s.journal.inService = none → s.journal.queue = []) :
    ∃ j, (s.takeOpenSlot .one run one).takeOpenSlot .two run two = s.setJournal j ∧
      ({ s.journal with openImages := ⟨one, two⟩ } : Journal).Passes j ∧
      (one ≠ .clear → .clearSlot .one ∈ j.operations) ∧ (two ≠ .clear → .clearSlot .two ∈ j.operations) := by
  obtain ⟨j1, take1, passes1, clears1⟩ := takeOpenSlot_passes (h := .one) (fun r e => known r (.inl e)) idle
  obtain ⟨j2, take2, passes2, clears2⟩ :=
    takeOpenSlot_passes (s := s.setJournal j1) (h := .two) (fun r e => known r (.inr e)) passes1.idle
  have images : j1.openImages = s.journal.openImages.set .one one := congrArg Journal.openImages passes1.rest
  have both : j1.openImages.set .two two = ⟨one, two⟩ := by
    rw [images]
    rfl
  rw [State.setJournal_journal, both] at passes2
  rw [take1, take2]
  exact ⟨j2, rfl, (passes1.withImages ⟨one, two⟩).trans passes2, fun set => passes2.kept _ (clears1 set), clears2⟩

end

/-- The ring's positions do not change as operations are passed. -/
theorem RingOfRun.of_rest {hd : Header} {nj n p newest : Nat} {j j' : Journal} (ring : RingOfRun hd nj n p newest j)
    (rest : j' = { j with
      header := j'.header, nextSeq := j'.nextSeq, openImages := j'.openImages,
      queue := j'.queue, inService := j'.inService, ringWritten := j'.ringWritten, opTimer := j'.opTimer }) :
    RingOfRun hd nj n p newest j' := by
  rw [rest]
  obtain ⟨tail, size, unsentAll, sentAll, sentSome, nextSerial, loadHold, saved, load, claims, pending⟩ := ring
  exact ⟨tail, size, unsentAll, sentAll, sentSome, nextSerial, loadHold, saved, load, claims, pending⟩

end Sys2Proof.Machine

namespace Sys2Proof.Machine

set_option Elab.async false

/-! ### A good header's scan with its open slots' records in the run (R155 to R157) -/

section
variable {s : State} {failed : ScanFailures} {hd : Header}

/-- The journal with the positions of the run found. -/
def State.runJournal (s : State) (failed : ScanFailures) (hd : Header) : Journal :=
  ({ Journal.reset with header := hd } : Journal).withRun s.cfg.nj (s.foundRun failed hd)

/-- The header after an epoch advance (R144). -/
def Header.advanced (hd : Header) : Header := { hd with epoch := if hd.epoch = 65535 then 1 else hd.epoch + 1 }

/-- The journal after an epoch advance: its header write is in service (R156). -/
def State.advancedJournal (s : State) (failed : ScanFailures) (hd : Header) : Journal :=
  { s.runJournal failed hd with
    nextSeq := 1, header := hd.advanced, ringWritten := false, opTimer := some (s.elapsed + 100),
    inService := some (.header (some hd.advanced)) }

theorem runJournal_header : (s.runJournal failed hd).header = hd := by
  unfold State.runJournal
  cases s.foundRun failed hd <;> rfl

theorem runJournal_idle : (s.runJournal failed hd).queue = [] ∧ (s.runJournal failed hd).inService = none :=
  withRun_queue _ _ _

theorem runTaken_below (below : s.foundSequence failed hd ≠ 16777215) : s.runTaken failed hd =
    s.setJournal { s.runJournal failed hd with nextSeq := s.foundSequence failed hd + 1 } :=
  placeSequence_below below

theorem runTaken_last (last : s.foundSequence failed hd = 16777215) :
    s.runTaken failed hd = s.setJournal (s.advancedJournal failed hd) := by
  obtain ⟨queue, free⟩ := runJournal_idle (s := s) (failed := failed) (hd := hd)
  have placed : s.runTaken failed hd = (s.setJournal { s.runJournal failed hd with
      nextSeq := 1, header := { (s.runJournal failed hd).header with
        epoch := epochAfter (s.runJournal failed hd).header.epoch } }).requestHeader := if_pos last
  rw [placed, runJournal_header]
  unfold State.requestHeader
  rw [if_neg (by rw [State.setJournal_journal]; dsimp only; rw [queue]; nofun),
    pushOp_of_idle (op := .header none) (by exact free) (by exact queue) nofun]
  unfold State.advancedJournal
  rw [← queue]
  rfl

/-- The scan with no epoch advance: LISTEN, and the operations passed. -/
theorem scanRing_below (stage : s.start.stage = .journalScan) (below : s.foundSequence failed hd ≠ 16777215)
    (known : ∀ h r, (s.scanOpen failed h).record = some r → holdsRecord (s.foundSlots failed hd) r = true) :
    ∃ j, (s.scanRing failed hd).endScan = ((s.scanRing failed hd).scanEnded (s.foundEnd failed hd)).setJournal j ∧
      ({ s.runJournal failed hd with
        nextSeq := s.foundSequence failed hd + 1, openImages := s.foundImages failed } : Journal).Passes j ∧
      ∀ h, s.scanOpen failed h ≠ .clear → .clearSlot h ∈ j.operations := by
  obtain ⟨queue, free⟩ := runJournal_idle (s := s) (failed := failed) (hd := hd)
  obtain ⟨j1, taken, passes1, one, two⟩ := takeOpenSlots_pass (s := s.runTaken failed hd)
    (run := s.foundSlots failed hd) (one := s.scanOpen failed .one) (two := s.scanOpen failed .two)
    (fun r e => e.elim (known .one r) (known .two r)) (fun _ => by rw [runTaken_below below]; exact queue)
  have scanned : s.scanRing failed hd = ((s.runTaken failed hd).setJournal j1).holdScanEnd (s.foundEnd failed hd) := by
    rw [scanRing_eq]
    exact congrArg (State.holdScanEnd · (s.foundEnd failed hd)) taken
  have journal : ((s.scanRing failed hd).scanEnded (s.foundEnd failed hd)).journal = j1 := by
    rw [(scanEnded_only _ _).journal_eq, scanned]
    rfl
  obtain ⟨j, request, passes⟩ := requestSendRead_passes
    (s := (s.scanRing failed hd).scanEnded (s.foundEnd failed hd)) (by rw [journal]; exact passes1.idle)
  rw [journal] at passes
  rw [runTaken_below below] at passes1
  refine ⟨j, (scanRing_endScan stage below).trans request, passes1.trans passes, fun h set => passes.kept _ ?_⟩
  cases h with
  | one => exact one set
  | two => exact two set

/-- The scan with an epoch advance: the stage waits for the header write in service. -/
theorem scanRing_last (last : s.foundSequence failed hd = 16777215)
    (known : ∀ h r, (s.scanOpen failed h).record = some r → holdsRecord (s.foundSlots failed hd) r = true) :
    ∃ j, (s.scanRing failed hd).endScan =
        (s.setJournal j).setStart { s.start with scanEnd := some (s.foundEnd failed hd) } ∧
      ({ s.advancedJournal failed hd with openImages := s.foundImages failed } : Journal).Passes j ∧
      ∀ h, s.scanOpen failed h ≠ .clear → .clearSlot h ∈ j.operations := by
  have journal : (s.runTaken failed hd).journal = s.advancedJournal failed hd := by
    rw [runTaken_last last]
    rfl
  obtain ⟨j, taken, passes, one, two⟩ := takeOpenSlots_pass (s := s.runTaken failed hd)
    (run := s.foundSlots failed hd) (one := s.scanOpen failed .one) (two := s.scanOpen failed .two)
    (fun r e => e.elim (known .one r) (known .two r)) (fun free => by rw [journal] at free; cases free)
  rw [journal] at passes
  have header : j.inService = some (.header (some hd.advanced)) := passes.first rfl
  have scanned : s.scanRing failed hd = (s.setJournal j).setStart
      { s.start with scanEnd := some (s.foundEnd failed hd) } := by
    rw [scanRing_eq]
    show State.holdScanEnd (s.slotsTaken failed hd) _ = _
    rw [show s.slotsTaken failed hd = _ from taken, runTaken_last last]
    rfl
  rw [scanned]
  refine ⟨j, endScan_waits ?_, passes, fun h set => ?_⟩
  · show (j.inService.toList ++ j.queue).any MemOp.isHeader = true
    rw [header]
    rfl
  · cases h with
    | one => exact one set
    | two => exact two set

end

end Sys2Proof.Machine

namespace Sys2Proof.Machine

set_option Elab.async false

/-! ### What a run and the open slots beside it give (R156, R157) -/

/-- What the memory holds of a hose's open slot, with a run of `n` slots: nothing, or an image whose record stands in
the run and ended no later than `time`. -/
def OpenSlotFound (m : List Host.Cell) (failed : ScanFailures) (n time : Nat) (x : Nat → RingSlot) (h : Side)
    (found : Option OpenImage) : Prop :=
  (found = none ∧ (failed.openSlot.get h = true ∨ decodeOpen (memReadBytes m (openAddress h) 128) = .clear)) ∨
    (∃ i r, failed.openSlot.get h = false ∧ decodeOpen (memReadBytes m (openAddress h) 128) = i ∧
      (i = .opened r ∨ i = .final r) ∧ (∃ k < n, (x k).epoch = r.epoch ∧ (x k).seq = r.seq) ∧
      found = some (if i = .opened r then .opened { r with hose := h } else .final { r with hose := h }) ∧
      r.stop ≤ time)

section
variable {s : State} {failed : ScanFailures} {hd : Header} {n time : Nat} {x : Nat → RingSlot} {h : Side}
  {found : Side → Option OpenImage}

theorem scanOpen_found (slot : OpenSlotFound s.mem failed n time x h (found h)) :
    s.scanOpen failed h = (found h).getD .clear ∧ (found h ≠ none → s.scanOpen failed h ≠ .clear) := by
  obtain ⟨none, clear⟩ | ⟨i, r, read, image, rfl | rfl, -, same, -⟩ := slot
  · rw [none, scanOpen_clear clear]
    exact ⟨rfl, fun not => absurd rfl not⟩
  · rw [same, if_pos rfl, scanOpen_opened read image]
    exact ⟨rfl, fun _ => nofun⟩
  · rw [same, if_neg nofun, scanOpen_final read image]
    exact ⟨rfl, fun _ => nofun⟩

theorem scanOpen_inRun (slot : OpenSlotFound s.mem failed n time x h (found h)) {r : IssueRecord}
    (record : (s.scanOpen failed h).record = some r) :
    (∃ k < n, (x k).epoch = r.epoch ∧ (x k).seq = r.seq) ∧ r.stop ≤ time := by
  obtain ⟨none, clear⟩ | ⟨i, r0, read, image, rfl | rfl, inRun, same, before⟩ := slot
  · rw [scanOpen_clear clear] at record
    cases record
  · rw [scanOpen_opened read image] at record
    cases record
    exact ⟨inRun, before⟩
  · rw [scanOpen_final read image] at record
    cases record
    exact ⟨inRun, before⟩

theorem holdsRecord_of_run {r : IssueRecord} (inRun : ∃ k < n, (x k).epoch = r.epoch ∧ (x k).seq = r.seq) :
    holdsRecord ((List.range n).map x) r = true := by
  obtain ⟨k, less, epoch, seq⟩ := inRun
  refine List.any_eq_true.2 ⟨x k, List.mem_map_of_mem (List.mem_range.2 less), ?_⟩
  simp [epoch, seq]

theorem foundImages_mem {i : OpenImage}
    (mem : i ∈ [(s.foundImages failed).one, (s.foundImages failed).two]) : ∃ h, i = s.scanOpen failed h := by
  obtain rfl | two := List.mem_cons.1 mem
  · exact ⟨.one, rfl⟩
  · exact ⟨.two, List.mem_singleton.1 two⟩

theorem scanOpen_mem (h : Side) :
    s.scanOpen failed h ∈ [(s.foundImages failed).one, (s.foundImages failed).two] := by
  cases h with
  | one => exact List.mem_cons_self ..
  | two => exact List.mem_cons_of_mem _ (List.mem_singleton_self _)

theorem foundSequence_eq {largest : Nat} (slots : s.foundSlots failed hd = (List.range n).map x)
    (images : ∀ h, OpenSlotFound s.mem failed n time x h (found h))
    (bound : ∀ k < n, (x k).epoch = hd.epoch → (x k).seq ≤ largest)
    (attained : largest = 0 ∨ ∃ k < n, (x k).epoch = hd.epoch ∧ (x k).seq = largest) :
    s.foundSequence failed hd = largest := by
  unfold State.foundSequence
  rw [largestSeq_eq, slots]
  refine foldl_max_unique (Nat.zero_le _) (fun b mem => ?_) (attained.imp_right fun ⟨k, less, epoch, seq⟩ => ?_)
  · obtain inRing | inImages := List.mem_append.1 mem
    · obtain ⟨y, run, e⟩ := List.mem_filterMap.1 inRing
      obtain ⟨k, less, rfl⟩ := List.mem_map.1 run
      obtain ⟨epoch, rfl⟩ := seqOf_eq_some.1 e
      exact bound k (List.mem_range.1 less) epoch
    · obtain ⟨i, here, e⟩ := List.mem_filterMap.1 inImages
      obtain ⟨h, rfl⟩ := foundImages_mem here
      obtain ⟨r, record, epoch, rfl⟩ := imageSeqOf_eq_some.1 e
      obtain ⟨⟨k, less, epochs, seqs⟩, -⟩ := scanOpen_inRun (images h) record
      exact seqs ▸ bound k less (epochs.trans epoch)
  · exact List.mem_append_left _ (List.mem_filterMap.2
      ⟨x k, List.mem_map_of_mem (List.mem_range.2 less), seqOf_eq_some.2 ⟨epoch, seq⟩⟩)

theorem foundEnd_time (slots : s.foundSlots failed hd = (List.range n).map x)
    (images : ∀ h, OpenSlotFound s.mem failed n time x h (found h)) (bound : ∀ k < n, (x k).time ≤ time)
    (attained : (∃ k < n, (x k).time = time) ∨
      ∃ h r, (found h = some (.opened r) ∨ found h = some (.final r)) ∧ r.stop = time) :
    (s.foundEnd failed hd).time = time := by
  unfold State.foundEnd
  rw [newestTime_eq, slots]
  refine foldl_max_unique (Nat.zero_le _) (fun b mem => ?_) (.inr (List.mem_append.2 (attained.imp ?_ ?_)))
  · obtain inRing | inImages := List.mem_append.1 mem
    · obtain ⟨y, run, rfl⟩ := List.mem_map.1 inRing
      obtain ⟨k, less, rfl⟩ := List.mem_map.1 run
      exact bound k (List.mem_range.1 less)
    · obtain ⟨i, here, e⟩ := List.mem_filterMap.1 inImages
      obtain ⟨h, rfl⟩ := foundImages_mem here
      obtain ⟨r, record, rfl⟩ := Option.map_eq_some_iff.1 e
      exact (scanOpen_inRun (images h) record).2
  · rintro ⟨k, less, rfl⟩
    exact List.mem_map_of_mem (List.mem_map_of_mem (List.mem_range.2 less))
  · rintro ⟨h, r, image, rfl⟩
    refine List.mem_filterMap.2 ⟨_, scanOpen_mem h, ?_⟩
    rw [(scanOpen_found (images h)).1]
    obtain e | e := image
    · rw [e]
      rfl
    · rw [e]
      rfl

theorem foundEnd_totals (slots : s.foundSlots failed hd = (List.range n).map x)
    (images : ∀ h, OpenSlotFound s.mem failed n time x h (found h)) (h : Side) :
    (s.foundEnd failed hd).totals.get h = ringTotalizer h ((List.range n).map x) := by
  have noRecovery : (s.scanOpen failed h).toRecover ((List.range n).map x) = none := by
    unfold OpenImage.toRecover
    cases record : (s.scanOpen failed h).record with
    | none => rfl
    | some r => exact if_pos (holdsRecord_of_run (scanOpen_inRun (images h) record).1)
  have restored : (s.foundEnd failed hd).totals.get h =
      restoredTotalizer h (s.foundSlots failed hd) (s.scanOpen failed h) := by
    cases h <;> rfl
  rw [restored, slots, restoredTotalizer, noRecovery]

end

/-- What stands in the journal however the scan of a run ends. -/
theorem scan_journal {s : State} {failed : ScanFailures} {hd : Header} {n p newest : Nat} {x : Nat → RingSlot}
    {found : Side → Option OpenImage} {time : Nat} {j j' : Journal}
    (run : FoundRun s.mem failed.ring s.cfg.nj hd.baseSerial n p newest x)
    (images : ∀ h, OpenSlotFound s.mem failed n time x h (found h))
    (start : j = { s.runJournal failed hd with
      header := j.header, nextSeq := j.nextSeq, openImages := s.foundImages failed, queue := j.queue,
      inService := j.inService, ringWritten := j.ringWritten, opTimer := j.opTimer })
    (passes : j.Passes j') :
    RingOfRun hd s.cfg.nj n p newest j' ∧ ∀ h, j'.openImages.get h = (found h).getD .clear := by
  have ring : RingOfRun hd s.cfg.nj n p newest (s.runJournal failed hd) := by
    rw [State.runJournal, foundRun_eq run]
    obtain ⟨some, -, -, slots, -⟩ := run
    exact withRun_ring some (slots 0 some).1
  have ring_j : RingOfRun hd s.cfg.nj n p newest j := ring.of_rest (by rw [start])
  refine ⟨ring_j.of_rest (by rw [passes.rest]), fun h => ?_⟩
  have same : j'.openImages = s.foundImages failed :=
    (congrArg Journal.openImages passes.rest).trans (congrArg Journal.openImages start)
  rw [same, ← (scanOpen_found (images h)).1]
  cases h <;> rfl

/-- A run of valid slots and the open slots beside it are taken up. -/
theorem run_isTakenUp {failed : ScanFailures} {s : State} {m : List Host.Cell} {hd : Header}
    (stage : s.start.stage = .journalScan)
    (scan : (s.setMem m).runScan failed = ((s.setMem m).scanRing failed hd).endScan)
    {n p newest largest time : Nat} {x : Nat → RingSlot} {found : Side → Option OpenImage}
    (run : FoundRun m failed.ring s.cfg.nj hd.baseSerial n p newest x)
    (images : ∀ h, OpenSlotFound m failed n time x h (found h))
    (sequences : ∀ k < n, (x k).epoch = hd.epoch → (x k).seq ≤ largest)
    (last : largest = 0 ∨ ∃ k < n, (x k).epoch = hd.epoch ∧ (x k).seq = largest) (times : ∀ k < n, (x k).time ≤ time)
    (newestTime : (∃ k < n, (x k).time = time) ∨
      ∃ h r, (found h = some (.opened r) ∨ found h = some (.final r)) ∧ r.stop = time) :
    ∃ (t : State) (totals : Pair Nat), (s.setMem m).runScan failed = t ∧
      (largest < 16777215 → t.journal.header = hd ∧ t.journal.nextSeq = largest + 1 ∧
        t.start.stage = .listen ∧ t.line.siteTime = max time s.line.siteTime ∧
        ∀ h, (t.hose h).totalizer = totals.get h) ∧
      (largest = 16777215 →
        t.journal.header = hd.advanced ∧
        t.journal.nextSeq = 1 ∧ t.journal.inService = some (.header (some t.journal.header)) ∧
        t.start = { s.start with scanEnd := some ⟨time, totals⟩ } ∧ Only [.mem, .journal, .start] s t) ∧
      (largest ≤ 16777215 → RingOfRun hd s.cfg.nj n p newest t.journal ∧
        (∀ h, t.journal.openImages.get h = (found h).getD .clear) ∧
        ∀ h, found h ≠ none → .clearSlot h ∈ t.journal.operations) ∧
      ∀ h, totals.get h = ringTotalizer h ((List.range n).map x) := by
  have slots := foundSlots_eq (s := s.setMem m) (failed := failed) (hd := hd) run
  have sequence := foundSequence_eq (s := s.setMem m) (found := found) slots images sequences last
  have time_eq := foundEnd_time (s := s.setMem m) (found := found) slots images times newestTime
  have totals_eq := foundEnd_totals (s := s.setMem m) (found := found) slots images
  have known (h : Side) (r : IssueRecord) (record : ((s.setMem m).scanOpen failed h).record = some r) :
      holdsRecord ((s.setMem m).foundSlots failed hd) r = true := by
    rw [slots]
    exact holdsRecord_of_run (scanOpen_inRun (s := s.setMem m) (found := found) (images h) record).1
  have set (h : Side) (some : found h ≠ none) : (s.setMem m).scanOpen failed h ≠ .clear :=
    (scanOpen_found (s := s.setMem m) (found := found) (images h)).2 some
  rw [scan]
  by_cases advance : largest = 16777215
  · obtain ⟨j, ended, passes, clears⟩ := scanRing_last (sequence.trans advance) known
    rw [ended]
    have journal := scan_journal (s := s.setMem m) (failed := failed) (hd := hd) run images rfl passes
    have header : j.header = hd.advanced := congrArg Journal.header passes.rest
    refine ⟨_, ((s.setMem m).foundEnd failed hd).totals, rfl, fun less => by omega, fun _ => ⟨header, ?_, ?_, ?_, ?_⟩,
      fun _ => ⟨journal.1, journal.2, fun h some => clears h (set h some)⟩, totals_eq⟩
    · exact congrArg Journal.nextSeq passes.rest
    · rw [State.setStart_journal, State.setJournal_journal, header]
      exact passes.first rfl
    · rw [← time_eq]
      rfl
    · exact Only.next (b1 := [.mem, .journal]) ((setMem_only s m).next (setJournal_only _ _)) (setStart_only _ _)
  · obtain ⟨j, ended, passes, clears⟩ := scanRing_below (hd := hd) (by exact stage) (sequence.trans_ne advance) known
    rw [ended]
    have journal := scan_journal (s := s.setMem m) (failed := failed) (hd := hd) run images rfl passes
    have scanned := scanRing_only (s.setMem m) failed hd
    refine ⟨_, ((s.setMem m).foundEnd failed hd).totals, rfl, fun _ => ⟨?_, ?_, ?_, ?_, fun h => ?_⟩,
      fun yes => absurd yes advance, fun _ => ⟨journal.1, journal.2, fun h some => clears h (set h some)⟩, totals_eq⟩
    · exact (congrArg Journal.header passes.rest).trans runJournal_header
    · rw [← sequence]
      exact congrArg Journal.nextSeq passes.rest
    · rw [State.setJournal_start, scanEnded_start]
    · rw [State.setJournal_line, scanEnded_line, scanned.line_eq, time_eq]
      rfl
    · rw [State.setJournal_hose, scanEnded_hose]

end Sys2Proof.Machine

namespace Sys2Proof.Machine

set_option Elab.async false

/-! ### A ring with no valid slot (R155 to R158) -/

section
variable {s : State} {failed : ScanFailures} {hd : Header}

theorem foundRun_none
    (none : ∀ q y, q < s.cfg.nj → q ∉ failed.ring → s.ringSlot q = some y → y.serial < hd.baseSerial) :
    s.foundRun failed hd = .none := by
  have invalid (q : Nat) (inside : q < s.cfg.nj) : s.validSlot failed.ring hd.baseSerial q = .none := by
    refine Option.eq_none_iff_forall_not_mem.2 fun y mem => ?_
    obtain ⟨read, slot, above⟩ := validSlot_eq_some.1 mem
    exact absurd above (Nat.not_le.2 (none q y inside read slot))
  unfold State.foundRun findRun
  rw [greatestSlot_eq_none invalid]
  rfl

theorem foundSlots_none (none : s.foundRun failed hd = .none) : s.foundSlots failed hd = [] := by
  unfold State.foundSlots
  rw [none]

/-- The ring empty at position 0. -/
theorem runJournal_none (none : s.foundRun failed hd = .none) : s.runJournal failed hd =
    { Journal.reset with header := hd, nextSerial := hd.baseSerial } := by
  unfold State.runJournal
  rw [none]
  rfl

/-- The ring empty and both open slots CLEAR: nothing is passed to the unit. -/
theorem emptyRing_endScan (stage : s.start.stage = .journalScan) (none : s.foundRun failed hd = .none)
    (images : s.foundImages failed = ⟨.clear, .clear⟩) :
    (s.scanRing failed hd).endScan = ((s.setJournal { Journal.reset with
      header := hd, nextSerial := hd.baseSerial, nextSeq := 1 }).holdScanEnd ⟨0, ⟨0, 0⟩⟩).scanEnded ⟨0, ⟨0, 0⟩⟩ := by
  have slots := foundSlots_none none
  have sequence : s.foundSequence failed hd = 0 := by
    unfold State.foundSequence
    rw [slots, images]
    rfl
  have ended : s.foundEnd failed hd = ⟨0, ⟨0, 0⟩⟩ := by
    unfold State.foundEnd
    rw [slots, images]
    rfl
  have scanned : s.scanRing failed hd = (s.setJournal { Journal.reset with
      header := hd, nextSerial := hd.baseSerial, nextSeq := 1 }).holdScanEnd ⟨0, ⟨0, 0⟩⟩ := by
    rw [scanRing_eq, ended, State.slotsTaken, slots, images, runTaken_below (by rw [sequence]; decide), sequence,
      runJournal_none none]
    rfl
  rw [scanRing_endScan stage (by rw [sequence]; decide), ended, scanned]
  exact requestSendRead_of_none (noSendRead_of_sent (congrArg Journal.unsent (scanEnded_only _ _).journal_eq))

end

/-! ### An image recovered (R157, R158) -/

section
variable {s : State}

theorem recover_assigned {r : IssueRecord} (free : 0 < s.journal.free s.cfg.nj)
    (serial : s.journal.nextSerial ≤ 4294967295) (pending : s.journal.pendingRecoveries = []) : s.recover r =
      (s.setJournal { s.journal with
        claims := s.journal.claims + 1, unsent := s.journal.unsent + 1,
        nextSerial := s.journal.nextSerial + 1 }).pushOp
          (.append .scan (s.journal.head s.cfg.nj) s.journal.nextSerial (.issue r)) := by
  have can : ({ s.journal with claims := s.journal.claims + 1 } : Journal).canAssign s.cfg.nj = true := by
    have : 1 ≤ s.journal.reclaimable s.cfg.nj := Nat.le_add_right_of_le free
    have last : s.journal.nextSerial ≤ Config.serialMax := serial
    exact Bool.and_eq_true_iff.2 ⟨decide_eq_true this, decide_eq_true last⟩
  unfold State.recover
  dsimp only
  rw [if_pos ⟨pending, can⟩]
  unfold State.passAppend
  dsimp only
  rw [if_pos (by exact can)]
  show (s.setJournal { ({ s.journal with claims := s.journal.claims + 1 } : Journal).assign s.cfg.nj with
    queue := s.journal.queue }).pushOp _ = _
  rw [assign_of_free (j := { s.journal with claims := s.journal.claims + 1 }) free]
  rfl

theorem pushOp_setOpenImage {op : MemOp} (notPlan : ∀ k r, op ≠ .plan k r)
    (idle : s.journal.inService = none → s.journal.queue = []) (h : Side) (i : OpenImage) :
    (s.pushOp op).setOpenImage h i = (s.setOpenImage h i).pushOp op := by
  cases free : s.journal.inService with
  | none =>
    rw [pushOp_of_idle free (idle free) notPlan, pushOp_of_idle (s := s.setOpenImage h i) free (idle free) notPlan]
    cases op <;> rfl
  | some o =>
    have busy : s.journal.inService.isSome = true := by rw [free]; rfl
    rw [pushOp_of_busy busy, pushOp_of_busy (s := s.setOpenImage h i) busy]
    rfl

/-- One open slot's image recovered, the other slot CLEAR. -/
theorem takeOpenSlots_recover {h : Side} {i : OpenImage} {rec : IssueRecord} {images : Pair OpenImage}
    (pair : images = Pair.set ⟨.clear, .clear⟩ h i) (recovers : i.toRecover [] = some rec)
    (free : 0 < s.journal.free s.cfg.nj) (serial : s.journal.nextSerial ≤ 4294967295)
    (pending : s.journal.pendingRecoveries = []) (clear : s.journal.openImages = ⟨.clear, .clear⟩)
    (idle : s.journal.inService = none → s.journal.queue = []) :
    (s.takeOpenSlot .one [] images.one).takeOpenSlot .two [] images.two =
      (s.setJournal { s.journal with
        claims := s.journal.claims + 1, unsent := s.journal.unsent + 1,
        nextSerial := s.journal.nextSerial + 1, openImages := images }).pushOp
          (.append .scan (s.journal.head s.cfg.nj) s.journal.nextSerial (.issue rec)) := by
  have takes (u : State) (k : Side) : u.takeOpenSlot k [] i = (u.setOpenImage k i).recover rec := by
    unfold State.takeOpenSlot
    dsimp only
    rw [recovers]
    cases record : i.record with
    | none => simp [OpenImage.toRecover, record] at recovers
    | some r => rfl
  have leaves (u : State) (k : Side) : u.takeOpenSlot k [] .clear = u.setOpenImage k .clear := rfl
  subst pair
  cases h with
  | one =>
    have both : (s.journal.openImages.set .one i).set .two .clear = Pair.set ⟨.clear, .clear⟩ .one i := by
      rw [clear]
      rfl
    show (s.takeOpenSlot .one [] i).takeOpenSlot .two [] .clear = _
    rw [takes, leaves, recover_assigned (by exact free) (by exact serial) (by exact pending),
      pushOp_setOpenImage (fun _ _ e => MemOp.noConfusion e) (by exact idle), ← both]
    rfl
  | two =>
    have both : (s.journal.openImages.set .one .clear).set .two i = Pair.set ⟨.clear, .clear⟩ .two i := by
      rw [clear]
      rfl
    show (s.takeOpenSlot .one [] .clear).takeOpenSlot .two [] i = _
    rw [takes, leaves, recover_assigned (by exact free) (by exact serial) (by exact pending), ← both]
    rfl

end

end Sys2Proof.Machine

namespace Sys2Proof.Machine

set_option Elab.async false

/-! ### The scan of an empty ring with one image to recover -/

section
variable {s : State} {failed : ScanFailures} {hd : Header} {h : Side} {i : OpenImage} {r rec : IssueRecord}

theorem requestSendRead_of_append (passed : s.journal.operations.any (MemOp.isAppendAt s.journal.nextToLoad) = true) :
    s.requestSendRead = s :=
  if_neg fun ⟨_, _, _, _, no⟩ => nomatch no.symm.trans passed

theorem imageSequence_eq (slots : s.foundSlots failed hd = [])
    (images : s.foundImages failed = Pair.set ⟨.clear, .clear⟩ h i) (record : i.record = some r) :
    s.foundSequence failed hd = if r.epoch = hd.epoch then r.seq else 0 := by
  have seqOf : i.seqOf hd.epoch = if r.epoch = hd.epoch then some r.seq else none := by
    simp [OpenImage.seqOf, record]
  have clear : OpenImage.clear.seqOf hd.epoch = none := rfl
  unfold State.foundSequence
  rw [largestSeq_eq, slots, images]
  by_cases same : r.epoch = hd.epoch
  · cases h <;> simp [Pair.set, clear, seqOf, same]
  · cases h <;> simp [Pair.set, clear, seqOf, same]

theorem imageEnd_eq (slots : s.foundSlots failed hd = [])
    (images : s.foundImages failed = Pair.set ⟨.clear, .clear⟩ h i) (record : i.record = some r)
    (recovers : i.toRecover [] = some rec) :
    s.foundEnd failed hd = ⟨r.stop, Pair.set ⟨0, 0⟩ h rec.totalizer⟩ := by
  have restored (k : Side) : restoredTotalizer k [] i = rec.totalizer := by
    unfold restoredTotalizer
    rw [recovers]
  have clear (k : Side) : restoredTotalizer k [] .clear = 0 := rfl
  have stop : i.record.map IssueRecord.stop = some r.stop := by rw [record]; rfl
  have noStop : OpenImage.clear.record.map IssueRecord.stop = none := rfl
  unfold State.foundEnd
  rw [newestTime_eq, slots, images]
  cases h <;> simp [Pair.set, restored, clear, stop, noStop]

/-- The journal with the recovered record's append passed. -/
def recoveringJournal (hd : Header) (seq : Nat) (images : Pair OpenImage) : Journal :=
  { Journal.reset with
    header := hd, unsent := 1, nextSerial := hd.baseSerial + 1, nextSeq := seq, claims := 1, openImages := images }

theorem emptyRing_recovers (none : s.foundRun failed hd = .none)
    (images : s.foundImages failed = Pair.set ⟨.clear, .clear⟩ h i) (recovers : i.toRecover [] = some rec)
    (serial : hd.baseSerial ≤ 4294967295) (some : 0 < s.cfg.nj) {j : Journal}
    (taken : s.runTaken failed hd = s.setJournal j)
    (ring : j = { s.runJournal failed hd with
      header := j.header, nextSeq := j.nextSeq, inService := j.inService, opTimer := j.opTimer }) :
    s.slotsTaken failed hd = (s.setJournal { recoveringJournal j.header j.nextSeq (s.foundImages failed) with
      nextSerial := hd.baseSerial + 1, inService := j.inService, opTimer := j.opTimer }).pushOp
        (.append .scan 0 hd.baseSerial (.issue rec)) := by
  rw [runJournal_none none] at ring
  have queue : j.queue = [] := by rw [ring]; rfl
  have free : 0 < j.free s.cfg.nj := by
    rw [ring]
    exact some
  have next : j.nextSerial = hd.baseSerial := by rw [ring]
  have pending : j.pendingRecoveries = [] := by rw [ring]; rfl
  have clear : j.openImages = ⟨.clear, .clear⟩ := by rw [ring]; rfl
  have head : j.head s.cfg.nj = 0 := by
    rw [ring]
    exact Nat.zero_mod _
  unfold State.slotsTaken
  rw [taken, foundSlots_none none, takeOpenSlots_recover (s := s.setJournal j) images recovers free
    (by rw [State.setJournal_journal, next]; exact serial) pending clear fun _ => queue]
  simp only [State.setJournal_journal, State.setJournal_cfg, head, next]
  rw [ring]
  rfl

/-- With no epoch advance the append is in service as LISTEN is entered. -/
theorem emptyRing_recovers_below (stage : s.start.stage = .journalScan) (none : s.foundRun failed hd = .none)
    (images : s.foundImages failed = Pair.set ⟨.clear, .clear⟩ h i) (recovers : i.toRecover [] = some rec)
    (serial : hd.baseSerial ≤ 4294967295) (some : 0 < s.cfg.nj) (below : s.foundSequence failed hd ≠ 16777215) :
    ∃ u : State, (s.scanRing failed hd).endScan = u.scanEnded (s.foundEnd failed hd) ∧
      u.journal = { recoveringJournal hd (s.foundSequence failed hd + 1) (s.foundImages failed) with
        inService := .some (.append .scan 0 hd.baseSerial (.issue rec)), opTimer := .some (s.elapsed + 100) } ∧
      (∀ k, u.hose k = s.hose k) ∧ u.line = s.line := by
  have taken := runTaken_below below
  have slots := emptyRing_recovers none images recovers serial some taken (by rw [runJournal_none none])
  have header := runJournal_header (s := s) (failed := failed) (hd := hd)
  rw [runJournal_none none] at slots
  rw [pushOp_of_idle (op := .append _ _ _ _) rfl rfl nofun] at slots
  have scanned := scanRing_only s failed hd
  have journal : (s.scanRing failed hd).journal =
      { recoveringJournal hd (s.foundSequence failed hd + 1) (s.foundImages failed) with
        inService := .some (.append .scan 0 hd.baseSerial (.issue rec)), opTimer := .some (s.elapsed + 100) } := by
    rw [scanRing_eq, slots]
    rfl
  refine ⟨s.scanRing failed hd, (scanRing_endScan stage below).trans (requestSendRead_of_append ?_), journal,
    fun k => scanned.hose_eq k, scanned.line_eq⟩
  rw [(scanEnded_only _ _).journal_eq, journal]
  rfl

/-- With an epoch advance the header write is in service, and the append waits behind it. -/
theorem emptyRing_recovers_last (none : s.foundRun failed hd = .none)
    (images : s.foundImages failed = Pair.set ⟨.clear, .clear⟩ h i) (recovers : i.toRecover [] = some rec)
    (serial : hd.baseSerial ≤ 4294967295) (some : 0 < s.cfg.nj) (last : s.foundSequence failed hd = 16777215) :
    (s.scanRing failed hd).endScan =
      (s.setJournal { recoveringJournal hd.advanced 1 (s.foundImages failed) with
        inService := .some (.header (.some hd.advanced)), opTimer := .some (s.elapsed + 100),
        queue := [.append .scan 0 hd.baseSerial (.issue rec)] }).setStart
        { s.start with scanEnd := .some (s.foundEnd failed hd) } := by
  have taken := runTaken_last last
  have slots := emptyRing_recovers none images recovers serial some taken (by
    rw [State.advancedJournal, runJournal_none none]; rfl)
  rw [pushOp_of_busy (by rfl)] at slots
  rw [scanRing_eq, slots]
  exact endScan_waits rfl

end

end Sys2Proof.Machine

namespace Sys2Proof.Machine

set_option Elab.async false

section
variable {failed : ScanFailures} {s : State} {m : List Host.Cell} {hd : Header}

theorem foundImages_clear
    (clear : ∀ h, failed.openSlot.get h = true ∨ decodeOpen (memReadBytes s.mem (openAddress h) 128) = .clear) :
    s.foundImages failed = ⟨.clear, .clear⟩ := by
  unfold State.foundImages
  rw [scanOpen_clear (clear .one), scanOpen_clear (clear .two)]

theorem foundImages_one {h : Side} {i : OpenImage} (here : s.scanOpen failed h = i)
    (other : failed.openSlot.get h.other = true ∨
      decodeOpen (memReadBytes s.mem (openAddress h.other) 128) = .clear) :
    s.foundImages failed = Pair.set ⟨.clear, .clear⟩ h i := by
  have clear := scanOpen_clear (s := s) (h := h.other) other
  unfold State.foundImages
  cases h with
  | one => rw [here, show s.scanOpen failed .two = .clear from clear]; rfl
  | two => rw [here, show s.scanOpen failed .one = .clear from clear]; rfl

/-- The image of a hose's open slot, its record in recovered form (R142, R157). -/
theorem recovered_image {h : Side} {i : OpenImage} {r rec : IssueRecord} (read : failed.openSlot.get h = false)
    (image : decodeOpen (memReadBytes s.mem (openAddress h) 128) = i)
    (form : (i = .opened r ∧ rec = { r with
          hose := h, form := .recoveredLower, endReason := none, snapshot := none,
          flags := { r.flags with recovered := true } }) ∨
        (i = .final r ∧ rec = { r with
          hose := h, form := .recoveredFinal,
          flags := { r.flags with tagNotUpdated := false, tagUpdateUnknown := true } })) :
    ∃ img, img = (if i = .opened r then .opened { r with hose := h } else .final { r with hose := h }) ∧
      s.scanOpen failed h = img ∧ img.record = some { r with hose := h } ∧ img.toRecover [] = some rec := by
  obtain ⟨rfl, rfl⟩ | ⟨rfl, rfl⟩ := form
  · exact ⟨_, rfl, by rw [if_pos rfl, scanOpen_opened read image], by rw [if_pos rfl]; rfl, by rw [if_pos rfl]; rfl⟩
  · exact ⟨_, rfl, by rw [if_neg nofun, scanOpen_final read image], by rw [if_neg nofun]; rfl,
      by rw [if_neg nofun]; rfl⟩

/-- A ring with no valid slot and both open slots CLEAR. -/
theorem emptyJournal_isTakenUp (stage : s.start.stage = .journalScan)
    (scan : (s.setMem m).runScan failed = ((s.setMem m).scanRing failed hd).endScan)
    (none : (s.setMem m).foundRun failed hd = .none) (images : (s.setMem m).foundImages failed = ⟨.clear, .clear⟩) :
    ∃ t, (s.setMem m).runScan failed = t ∧
      t.journal = { Journal.reset with header := hd, nextSerial := hd.baseSerial, nextSeq := 1 } ∧
      (∀ h, t.hose h = { s.hose h with totalizer := 0 }) ∧ t.line.siteTime = s.line.siteTime := by
  rw [scan, emptyRing_endScan (by exact stage) none images]
  refine ⟨_, rfl, (scanEnded_only _ _).journal_eq, fun h => ?_, ?_⟩
  · rw [scanEnded_hose]
    cases h <;> rfl
  · rw [scanEnded_line]
    exact Nat.zero_max _

/-- A ring with no valid slot and one image to recover. -/
theorem recovery_isTakenUp (stage : s.start.stage = .journalScan)
    (scan : (s.setMem m).runScan failed = ((s.setMem m).scanRing failed hd).endScan)
    (none : (s.setMem m).foundRun failed hd = .none) {h : Side} {img : OpenImage} {r rec : IssueRecord}
    (images : (s.setMem m).foundImages failed = Pair.set ⟨.clear, .clear⟩ h img)
    (record : img.record = some { r with hose := h }) (recovers : img.toRecover [] = some rec)
    (serial : hd.baseSerial ≤ 4294967295) (some : 0 < s.cfg.nj) :
    (r.epoch ≠ hd.epoch ∨ r.seq < 16777215 → ∃ t, (s.setMem m).runScan failed = t ∧
      t.journal = { Journal.reset with
        header := hd, unsent := 1, nextSerial := hd.baseSerial + 1,
        nextSeq := if r.epoch = hd.epoch then r.seq + 1 else 1, claims := 1,
        openImages := Pair.set ⟨.clear, .clear⟩ h img,
        inService := .some (.append .scan 0 hd.baseSerial (.issue rec)),
        opTimer := .some (s.elapsed + 100) } ∧
      (t.hose h).totalizer = rec.totalizer ∧ (t.hose h.other).totalizer = 0 ∧
      t.line.siteTime = max r.stop s.line.siteTime) ∧
    (r.epoch = hd.epoch → r.seq = 16777215 → ∃ t, (s.setMem m).runScan failed = t ∧
      t.journal = { Journal.reset with
        header := hd.advanced, unsent := 1, nextSerial := hd.baseSerial + 1, nextSeq := 1, claims := 1,
        openImages := Pair.set ⟨.clear, .clear⟩ h img,
        inService := .some (.header (.some hd.advanced)), opTimer := .some (s.elapsed + 100),
        queue := [.append .scan 0 hd.baseSerial (.issue rec)] } ∧
      t.start = { s.start with scanEnd := .some ⟨r.stop, Pair.set ⟨0, 0⟩ h rec.totalizer⟩ } ∧
      Only [.mem, .journal, .start] s t) := by
  have slots := foundSlots_none none
  have sequence := imageSequence_eq slots images record
  have ended := imageEnd_eq slots images record recovers
  rw [scan]
  constructor
  · intro below
    have notLast : (s.setMem m).foundSequence failed hd ≠ 16777215 := by
      rw [sequence]
      dsimp only
      split <;> omega
    obtain ⟨u, listens, journal, hose, line⟩ :=
      emptyRing_recovers_below (by exact stage) none images recovers serial some notLast
    have nextSeq : (s.setMem m).foundSequence failed hd + 1 = if r.epoch = hd.epoch then r.seq + 1 else 1 := by
      rw [sequence]
      dsimp only
      split <;> rfl
    rw [listens, ended]
    rw [nextSeq, images] at journal
    refine ⟨_, rfl, (scanEnded_only _ _).journal_eq.trans journal, ?_, ?_, ?_⟩
    · rw [scanEnded_hose]
      exact Pair.get_set_self ..
    · rw [scanEnded_hose]
      cases h <;> rfl
    · rw [scanEnded_line, line]
      rfl
  · intro epoch seq
    have last : (s.setMem m).foundSequence failed hd = 16777215 := by
      rw [sequence, if_pos (by exact epoch)]
      exact seq
    rw [emptyRing_recovers_last none images recovers serial some last, ended, images]
    exact ⟨_, rfl, rfl, rfl,
      Only.next (b1 := [.mem, .journal]) ((setMem_only s m).next (setJournal_only _ _)) (setStart_only _ _)⟩

end

/-- Settles O16: what a good header's scan takes up, with a run in the ring and without. -/
theorem goodJournalIsTakenUp : Obligations.GoodJournalIsTakenUp := by
  intro outside failed s m hd stage none cells hm read header first count
  have run := exec_journalScan (failed := failed) stage none cells
  rw [← hm] at run
  have scan : (s.setMem m).runScan failed = ((s.setMem m).scanRing failed hd).endScan :=
    runScan_good (scanHeader_some read (by exact header)) first (decodeHeader_epoch header) count
  rw [run]
  refine ⟨fun n p newest largest time x found foundRun images sequences last most times newestTime => ?_,
    fun invalid => ⟨fun clear => ?_, fun h i r rec slotRead image other form serial some => ?_⟩⟩
  · obtain ⟨t, totals, rfl, listens, advances, taken, totalizers⟩ :=
      run_isTakenUp stage scan foundRun images sequences last times newestTime
    obtain ⟨ring, openImages, clears⟩ := taken most
    refine ⟨_, totals, rfl, listens, advances, ring.tail, ring.size, ring.unsentAll, ring.sentAll, ring.sentSome,
      ring.nextSerial, ring.loadHold, ring.sentSinceSave, ring.nextToLoad, ring.claims, ring.pending, openImages,
      clears,
      fun h k less kind hose older => ?_, fun h others => ?_⟩
    · rw [totalizers]
      exact ringTotalizer_newest n k less ⟨kind, hose⟩ fun j before issued => older j before issued.1 issued.2
    · rw [totalizers]
      exact ringTotalizer_none n fun k less issued => others k less issued.1 issued.2
  · obtain ⟨t, rfl, rest⟩ := emptyJournal_isTakenUp stage scan (foundRun_none invalid) (foundImages_clear clear)
    exact ⟨_, rfl, rest⟩
  · obtain ⟨img, rfl, here, record, recovers⟩ := recovered_image (s := s.setMem m) slotRead image form
    obtain ⟨listens, advances⟩ := recovery_isTakenUp stage scan (foundRun_none invalid) (foundImages_one here other)
      record recovers serial some
    refine ⟨fun below => ?_, fun epoch seq => ?_⟩
    · obtain ⟨t, rfl, rest⟩ := listens below
      exact ⟨_, rfl, rest⟩
    · obtain ⟨t, rfl, rest⟩ := advances epoch seq
      exact ⟨_, _, rfl, rfl, rest⟩

end Sys2Proof.Machine

namespace Sys2Proof.Machine

set_option Elab.async false

/-! ### The timers of a tag unit (R51, R52, R58) -/

section
variable {s : State} {h : Side} {u : TagUnit} {now : Nat}

/-- A due poll is served where the unit is READY and nothing waits. -/
theorem serve_poll (ready : u.state = .ready) (quiet : u.quiet = none) (noWriteBack : u.waitingWriteBack = none)
    (noProgress : u.waitingProgress = none) (noRead : u.waitingRead = none) (due : (u.polling && u.pollDue) = true) :
    u.serve now = u.begin now .poll := by
  unfold TagUnit.serve
  rw [if_pos ⟨ready, quiet⟩, noWriteBack, noProgress, noRead]
  exact if_pos due

/-- A unit changed and then served leaves the other hose's unit and every block but the tags alone. -/
theorem setTag_serveTag (s : State) (h : Side) (u : TagUnit) :
    ((s.setTag h u).serveTag h).tag h = u.serve s.elapsed ∧
      ((s.setTag h u).serveTag h).tag h.other = s.tag h.other ∧ Only [.tags] s ((s.setTag h u).serveTag h) :=
  ⟨by simp [State.serveTag], by simp [State.serveTag], (setTag_only _ _ _).trans (serveTag_only _ _)⟩

theorem exec_pollTimerExpiry (polling : (s.tag h).polling = true) (timer : (s.tag h).pollTimer.isSome = true) :
    exec (.pollTimerExpiry h) s = .next ((s.setTag h { s.tag h with
      pollDue := true, pollTimer := some (s.elapsed + 250) }).serveTag h) := by
  simp only [exec, execPollTimerExpiry]
  exact if_pos ⟨polling, timer⟩

theorem exec_quietTimerExpiry (quiet : (s.tag h).quiet.isSome = true) :
    exec (.quietTimerExpiry h) s = .next ((s.setTag h { s.tag h with quiet := none }).serveTag h) := by
  simp only [exec, execQuietTimerExpiry]
  exact if_pos quiet

end

/-- Settles O34: each expiry changes the unit and serves it; what is served follows from what waits. -/
theorem tagTimersExpire : Obligations.TagTimersExpire := by
  rintro h s u rfl
  refine ⟨fun polling timer quiet noWriteBack noProgress noRead => ?_,
    fun k quiet ready noWriteBack noProgress read => ?_⟩
  · let polls : TagUnit := { s.tag h with pollDue := true, pollTimer := some (s.elapsed + 250) }
    have due : (polls.polling && polls.pollDue) = true := congrArg (· && true) polling
    obtain ⟨served, other, only⟩ := setTag_serveTag s h polls
    exact ⟨_, exec_pollTimerExpiry polling timer,
      fun ready => served.trans (serve_poll ready quiet noWriteBack noProgress noRead due),
      fun busy => served.trans (serve_of_busy (.inl busy)), other, only⟩
  · let rested : TagUnit := { s.tag h with quiet := none }
    obtain ⟨served, other, only⟩ := setTag_serveTag s h rested
    exact ⟨_, exec_quietTimerExpiry quiet,
      served.trans (serve_read (u := rested) ready rfl noWriteBack noProgress read), other, only⟩

end Sys2Proof.Machine

namespace Sys2Proof.Machine

set_option Elab.async false

/-! ### Bit fields (chapter 12) -/

theorem packBits_lt (fields : List (Nat × Nat)) : packBits fields < 2 ^ widthSum (fields.map Prod.fst) := by
  induction fields with
  | nil => exact Nat.one_pos
  | cons f rest ih =>
    have small : f.2 % 2 ^ f.1 < 2 ^ f.1 := Nat.mod_lt _ (Nat.two_pow_pos _)
    calc (f.2 % 2 ^ f.1) * 2 ^ widthSum (rest.map Prod.fst) + packBits rest
        < (f.2 % 2 ^ f.1 + 1) * 2 ^ widthSum (rest.map Prod.fst) := by rw [Nat.succ_mul]; omega
      _ ≤ 2 ^ f.1 * 2 ^ widthSum (rest.map Prod.fst) := Nat.mul_le_mul_right _ small
      _ = 2 ^ widthSum ((f :: rest).map Prod.fst) := (Nat.pow_add ..).symm

/-- What stands ahead of the fields does not reach them. -/
theorem unpackBits_mul_add (widths : List Nat) (a n : Nat) :
    unpackBits widths (a * 2 ^ widthSum widths + n) = unpackBits widths n := by
  induction widths generalizing a with
  | nil => rfl
  | cons w ws ih =>
    have ahead : a * 2 ^ widthSum (w :: ws) = a * 2 ^ w * 2 ^ widthSum ws := by
      rw [widthSum, Nat.pow_add, Nat.mul_assoc]
    rw [ahead, unpackBits, unpackBits, ih, Nat.mul_comm _ (2 ^ widthSum ws),
      Nat.mul_add_div (Nat.two_pow_pos _), Nat.add_comm, Nat.add_mul_mod_self_right]

/-- Each field is read as its value cut to its width. -/
theorem unpackBits_packBits (fields : List (Nat × Nat)) :
    unpackBits (fields.map Prod.fst) (packBits fields) = fields.map fun f => f.2 % 2 ^ f.1 := by
  induction fields with
  | nil => rfl
  | cons f rest ih =>
    have first : packBits (f :: rest) / 2 ^ widthSum (rest.map Prod.fst) = f.2 % 2 ^ f.1 := by
      rw [packBits, Nat.mul_comm, Nat.mul_add_div (Nat.two_pow_pos _), Nat.div_eq_of_lt (packBits_lt rest),
        Nat.add_zero]
    rw [List.map_cons, List.map_cons, unpackBits, first, Nat.mod_mod, packBits, unpackBits_mul_add, ih]

/-! ### Byte strings (chapter 12) -/

theorem bytesToNat_cons (b : Byte) (bs : List Byte) :
    bytesToNat (b :: bs) = b.toNat * 256 ^ bs.length + bytesToNat bs := by
  have ahead (bs : List Byte) (acc : Nat) :
      bs.foldl (fun acc b => acc * 256 + b.toNat) acc = acc * 256 ^ bs.length + bytesToNat bs := by
    unfold bytesToNat
    induction bs generalizing acc with
    | nil => simp
    | cons c rest ih =>
      rw [List.foldl_cons, ih, List.foldl_cons, ih (0 * 256 + c.toNat), List.length_cons, Nat.pow_succ]
      ring
  rw [← ahead, bytesToNat, List.foldl_cons, Nat.zero_mul, Nat.zero_add]

theorem bytesToNat_natToBytes (k n : Nat) : bytesToNat (natToBytes k n) = n % 256 ^ k := by
  induction k with
  | zero => exact (Nat.mod_one n).symm
  | succ k ih =>
    rw [natToBytes, bytesToNat_cons, ih, natToBytes_length, BitVec.toNat_ofNat, Nat.mod_pow_succ (b := 256),
      Nat.mul_comm, Nat.add_comm]

theorem bytesToNat_natToBytes_of_lt {k n : Nat} (fits : n < 256 ^ k) : bytesToNat (natToBytes k n) = n := by
  rw [bytesToNat_natToBytes, Nat.mod_eq_of_lt fits]

theorem padTo_eq_append {n : Nat} {bs : List Byte} (fits : bs.length ≤ n) :
    padTo n bs = bs ++ List.replicate (n - bs.length) 0 := by
  rw [padTo, List.take_append, List.take_of_length_le fits, List.take_replicate, Nat.min_eq_left (Nat.sub_le ..)]

theorem padTo_append {n : Nat} {bs : List Byte} (fills : bs.length = n) (rest : List Byte) :
    padTo n (bs ++ rest) = bs := by
  rw [padTo, List.append_assoc, List.take_left' fills]

theorem slice_append_right {a : List Byte} {i : Nat} (past : a.length ≤ i) (b : List Byte) (n : Nat) :
    slice (a ++ b) i n = slice b (i - a.length) n := by
  rw [slice, slice, List.drop_append, List.drop_of_length_le past, List.nil_append]

theorem slice_append_left {a : List Byte} {n : Nat} (fills : a.length = n) (b : List Byte) : slice (a ++ b) 0 n = a :=
  List.take_left' fills

theorem slice_cons (b : Byte) (bs : List Byte) (i n : Nat) : slice (b :: bs) (i + 1) n = slice bs i n := rfl

theorem byteAt_append_right {a : List Byte} {i : Nat} (past : a.length ≤ i) (b : List Byte) :
    byteAt (a ++ b) i = byteAt b (i - a.length) := by
  rw [byteAt, byteAt, List.getD_append_right _ _ _ _ past]

theorem byteAt_cons_zero (b : Byte) (bs : List Byte) : byteAt (b :: bs) 0 = b.toNat := rfl

/-! ### Fields as bytes (chapter 12) -/

theorem encodeFields_length (fields : List (Nat × Nat)) :
    (encodeFields fields).length = widthSum (fields.map Prod.fst) / 8 := natToBytes_length ..

/-- Fields that fill whole bytes read back, each cut to its width, whatever stands behind them. -/
theorem decodeFields_encodeFields_append {fields : List (Nat × Nat)} {widths : List Nat}
    (layout : fields.map Prod.fst = widths) (whole : 8 ∣ widthSum widths) (rest : List Byte) :
    decodeFields widths (encodeFields fields ++ rest) = fields.map fun f => f.2 % 2 ^ f.1 := by
  have bytes : (256 : Nat) ^ (widthSum widths / 8) = 2 ^ widthSum widths := by
    rw [show (256 : Nat) = 2 ^ 8 from rfl, ← Nat.pow_mul, Nat.mul_div_cancel' whole]
  have fits : packBits fields < 2 ^ widthSum widths := layout ▸ packBits_lt fields
  rw [decodeFields, padTo_append (layout ▸ encodeFields_length fields), encodeFields, layout, bytesToNat_natToBytes,
    bytes, Nat.mod_eq_of_lt fits, ← layout, unpackBits_packBits]

theorem decodeFields_encodeFields {fields : List (Nat × Nat)} {widths : List Nat}
    (layout : fields.map Prod.fst = widths) (whole : 8 ∣ widthSum widths) :
    decodeFields widths (encodeFields fields) = fields.map fun f => f.2 % 2 ^ f.1 := by
  rw [← List.append_nil (encodeFields fields), decodeFields_encodeFields_append layout whole]

/-! ### Check values (R189) -/

theorem checkOk_withCheck (bs : List Byte) : checkOk (withCheck bs) = true := by
  simp [checkOk, withCheck, checkBytes, natToBytes_length]

/-! ### Frames (R189, 12.2) -/

theorem checkBytes_length (bs : List Byte) : (checkBytes bs).length = 2 := natToBytes_length ..

theorem parseFrame_frameOf {kind origin : Nat} {body : List Byte} (k : kind < 256) (o : origin < 256)
    (short : body.length ≤ 128) : parseFrame (frameOf kind origin body) = some ⟨kind, origin, body⟩ := by
  have len : (BitVec.ofNat 8 body.length).toNat = body.length := by
    rw [BitVec.toNat_ofNat, Nat.mod_eq_of_lt (by omega)]
  have checks := checkOk_withCheck (BitVec.ofNat 8 body.length :: BitVec.ofNat 8 kind :: BitVec.ofNat 8 origin :: body)
  rw [frameOf]
  simp only [withCheck, List.cons_append] at checks ⊢
  simp only [parseFrame]
  rw [if_pos ⟨trivial, by omega, by rw [List.length_append, len, checkBytes_length], checks⟩, len, List.take_left' rfl,
    BitVec.toNat_ofNat, BitVec.toNat_ofNat, Nat.mod_eq_of_lt k, Nat.mod_eq_of_lt o]

/-! ### Records and notices of plain fields (12.2) -/

/-- A SERVICE content reads back with each field cut to its width. -/
theorem decodeService_encodeService (r : ServiceRecord) (rest : List Byte) :
    decodeService (encodeService r ++ rest) =
      ⟨r.vehicle % 2 ^ 16, r.level % 2 ^ 8, r.time % 2 ^ 32, r.hours % 2 ^ 24, r.stamp % 2 ^ 32⟩ := by
  rw [decodeService, encodeService, decodeFields_encodeFields_append (by rfl) (by decide)]
  rfl

theorem ofNat_toNat_mod (b : Byte) : BitVec.ofNat 8 (b.toNat % 2 ^ 8) = b := by
  rw [Nat.mod_eq_of_lt b.isLt, BitVec.ofNat_toNat, BitVec.setWidth_eq]

theorem decodeVehicleNotice_encodeVehicleNotice (n : VehicleNotice) (rest : List Byte) :
    decodeVehicleNotice (encodeVehicleNotice n ++ rest) =
      ⟨n.vehicle % 2 ^ 16, n.stamp % 2 ^ 32, n.mask, n.allowance % 2 ^ 16, n.hold % 2 ^ 8, n.cls % 2 ^ 8, n.attrs,
        n.useTag % 2 ^ 8⟩ := by
  rw [decodeVehicleNotice, encodeVehicleNotice, decodeFields_encodeFields_append (by rfl) (by decide)]
  simp only [List.map, ofNat_toNat_mod]

/-- A level plan as the widths of a CLASS NOTICE hold it. -/
def Plan.cut (p : Plan) : Plan :=
  ⟨p.ih % 2 ^ 16, p.ah % 2 ^ 16, p.gh % 2 ^ 16, p.il % 2 ^ 24, p.al % 2 ^ 24, p.gl % 2 ^ 24⟩

theorem decodeClassNotice_encodeClassNotice (n : ClassNotice) (rest : List Byte) :
    decodeClassNotice (encodeClassNotice n ++ rest) =
      ⟨n.cls % 2 ^ 8, n.stamp % 2 ^ 32, n.mask, n.allowance % 2 ^ 16, n.hold % 2 ^ 8, n.returnQty % 2 ^ 16,
        n.burn % 2 ^ 16, n.plans.map Plan.cut⟩ := by
  rw [decodeClassNotice, encodeClassNotice, decodeFields_encodeFields_append (by rfl) (by decide)]
  simp only [noticePlanFields, List.cons_append, List.nil_append, List.map, ofNat_toNat_mod]
  rfl

theorem encodeService_length (r : ServiceRecord) : (encodeService r).length = 14 := by
  simp [encodeService, encodeFields_length, widthSum]

theorem encodeVehicleNotice_length (n : VehicleNotice) : (encodeVehicleNotice n).length = 13 := by
  simp [encodeVehicleNotice, encodeFields_length, widthSum]

theorem encodeClassNotice_length (n : ClassNotice) : (encodeClassNotice n).length = 73 := by
  simp [encodeClassNotice, noticePlanFields, encodeFields_length, widthSum]


/-! ### Codes (12.2, 12.3) -/

theorem bitOf_bitCode (b : Bool) : bitOf (bitCode b % 2) = b := by cases b <;> rfl
theorem Side.ofCode_code (h : Side) : Side.ofCode (Side.code h % 2) = h := by cases h <;> rfl
theorem Form.ofCode_code (f : Form) : Form.ofCode (f.code % 4) = f := by cases f <;> rfl
theorem ClassHold.ofCode_code (x : ClassHold) : ClassHold.ofCode (resolveCode 2 (x.code % 2 ^ 2)) = x := by
  cases x <;> rfl
theorem ServiceState.ofCode_code (x : ServiceState) : ServiceState.ofCode (x.code % 8) = x := by cases x <;> rfl

/-- An end reason's code, 0 where it is absent. -/
theorem EndReason.ofCode_code (r : Option EndReason) : EndReason.ofCode (r.elim 0 EndReason.code % 16) = r := by
  cases r with
  | none => rfl
  | some e => cases e <;> rfl

/-- A signed value within its width reads back from two's complement. -/
theorem signedValue_signedCode {x : Int} (low : -1024 ≤ x) (high : x < 1024) :
    signedValue 11 (signedCode 11 x % 2 ^ 11) = x := by
  unfold signedValue signedCode
  split <;> omega

/-! ### Carries (12.3, R190) -/

theorem markFields_eq (m : Option Mark) : markFields m =
    [(32, m.elim 0 Mark.time), (8, m.elim 0 Mark.origin), (16, m.elim 0 Mark.epoch), (24, m.elim 0 Mark.seq)] := by
  cases m <;> rfl

/-- The 84 bytes of a carry, field by field. -/
theorem decodeFields_encodeCarry (c : Carry) : decodeFields carryWidths (encodeCarry c) =
    [c.shift % 2 ^ 19, c.reading.elim 0 (fun r => r.source.code) % 2 ^ 2, c.hold.code % 2 ^ 2, 0,
      litresCode 65535 c.use % 2 ^ 16, litresCode 16777215 c.levels.l1.litres % 2 ^ 24,
      litresCode 16777215 c.levels.l2.litres % 2 ^ 24, litresCode 16777215 c.levels.l3.litres % 2 ^ 24,
      litresCode 16777215 c.levels.l4.litres % 2 ^ 24, litresCode 16777215 c.sinceReading % 2 ^ 24,
      c.levels.l1.hours % 2 ^ 24, c.levels.l2.hours % 2 ^ 24, c.levels.l3.hours % 2 ^ 24, c.levels.l4.hours % 2 ^ 24,
      c.reading.elim 0 Reading.value % 2 ^ 24, c.reading.elim 0 Reading.time % 2 ^ 32,
      (c.hold.stamp.getD ⟨0, 0⟩).time % 2 ^ 32, (c.hold.stamp.getD ⟨0, 0⟩).station % 2 ^ 8] ++
    [c.levels.l1, c.levels.l2, c.levels.l3, c.levels.l4].flatMap fun l =>
      [l.mark.elim 0 Mark.time % 2 ^ 32, l.mark.elim 0 Mark.origin % 2 ^ 8, l.mark.elim 0 Mark.epoch % 2 ^ 16,
        l.mark.elim 0 Mark.seq % 2 ^ 24] := by
  have layout : (carryFields c).map Prod.fst = carryWidths := by
    simp only [carryFields, markFields_eq]
    rfl
  rw [encodeCarry, decodeFields_encodeFields layout (by decide)]
  simp only [carryFields, markFields_eq]
  cases c.reading <;> rfl

theorem encodeCarry_length (c : Carry) : (encodeCarry c).length = 84 := by
  simp [encodeCarry, encodeFields_length, carryFields, markFields_eq, widthSum]

theorem carryCodesKnown_encodeCarry (c : Carry) : carryCodesKnown (encodeCarry c) = true := by
  have source : c.reading.elim 0 (fun r => r.source.code) % 2 ^ 2 < 3 := by
    cases c.reading with
    | none => decide
    | some r => cases e : r.source <;> simp [HourSource.code, e]
  have hold : c.hold.code % 2 ^ 2 < 3 := by cases c.hold <;> simp [Hold.code]
  rw [carryCodesKnown, decodeFields_encodeCarry]
  exact Bool.and_eq_true_iff.2 ⟨decide_eq_true source, decide_eq_true hold⟩

/-- An absent mark has the epoch 0, so a mark with an epoch reads back. -/
theorem markOf_fields {m : Option Mark} (fits : ∀ x, m = some x →
    x.time < 2 ^ 32 ∧ x.origin < 2 ^ 8 ∧ 1 ≤ x.epoch ∧ x.epoch < 2 ^ 16 ∧ x.seq < 2 ^ 24) :
    markOf (m.elim 0 Mark.time % 2 ^ 32) (m.elim 0 Mark.origin % 2 ^ 8) (m.elim 0 Mark.epoch % 2 ^ 16)
      (m.elim 0 Mark.seq % 2 ^ 24) = m := by
  cases m with
  | none => rfl
  | some x =>
    obtain ⟨time, origin, present, epoch, seq⟩ := fits x rfl
    simp only [Option.elim_some, Nat.mod_eq_of_lt, time, origin, epoch, seq]
    exact if_neg (by omega)

theorem readingOf_fields {r : Option Reading} (fits : ∀ x, r = some x → x.value < 2 ^ 24 ∧ x.time < 2 ^ 32) :
    readingOf (resolveCode 0 (r.elim 0 (fun r => r.source.code) % 2 ^ 2)) (r.elim 0 Reading.value % 2 ^ 24)
      (r.elim 0 Reading.time % 2 ^ 32) = r := by
  cases r with
  | none => rfl
  | some x =>
    obtain ⟨value, time⟩ := fits x rfl
    obtain ⟨v, t, source⟩ := x
    simp only [Option.elim_some, Nat.mod_eq_of_lt, value, time]
    cases source <;> rfl

theorem holdOf_fields {x : Hold} (fits : ∀ st, x.stamp = some st → st.time < 2 ^ 32 ∧ st.station < 2 ^ 8) :
    holdOf (resolveCode 1 (x.code % 2 ^ 2)) ((x.stamp.getD ⟨0, 0⟩).time % 2 ^ 32)
      ((x.stamp.getD ⟨0, 0⟩).station % 2 ^ 8) = x := by
  have stamped {st : Stamp} (e : x.stamp = some st) :
      st.time % 2 ^ 32 = st.time ∧ st.station % 2 ^ 8 = st.station :=
    ⟨Nat.mod_eq_of_lt (fits st e).1, Nat.mod_eq_of_lt (fits st e).2⟩
  cases x with
  | none => rfl
  | set st =>
    obtain ⟨time, station⟩ := stamped rfl
    simp only [Hold.stamp, Option.getD_some, time, station]
    rfl
  | cleared st =>
    obtain ⟨time, station⟩ := stamped rfl
    simp only [Hold.stamp, Option.getD_some, time, station]
    rfl

/-- mL that whole litres of the width hold are cut to whole litres. -/
theorem litresCode_mod {w limit ml : Nat} (width : limit + 1 = 2 ^ w) (fits : ml < (limit + 1) * 1000) :
    litresCode limit ml % 2 ^ w = ml / 1000 := by
  have whole : ml / 1000 < 2 ^ w := width ▸ Nat.div_lt_of_lt_mul (Nat.mul_comm .. ▸ fits)
  rw [litresCode, Nat.min_eq_left (by omega), Nat.mod_eq_of_lt whole]

/-- The values of a level lie in the fields of 12.3. -/
def Level.fits (l : Level) : Prop :=
  l.hours < 2 ^ 24 ∧ l.litres < 16777216000 ∧
    ∀ m, l.mark = some m → m.time < 2 ^ 32 ∧ m.origin < 2 ^ 8 ∧ 1 ≤ m.epoch ∧ m.epoch < 2 ^ 16 ∧ m.seq < 2 ^ 24

theorem Level.fields_read {l : Level} (fits : l.fits) :
    (⟨markOf (l.mark.elim 0 Mark.time % 2 ^ 32) (l.mark.elim 0 Mark.origin % 2 ^ 8)
      (l.mark.elim 0 Mark.epoch % 2 ^ 16) (l.mark.elim 0 Mark.seq % 2 ^ 24),
      l.hours % 2 ^ 24, litresCode 16777215 l.litres % 2 ^ 24 * 1000⟩ : Level) =
    { l with litres := l.litres / 1000 * 1000 } := by
  obtain ⟨hours, litres, mark⟩ := fits
  rw [markOf_fields mark, Nat.mod_eq_of_lt hours, litresCode_mod rfl litres]

/-- R190: a carry reads back with its volumes cut to whole litres and its list left out. -/
theorem decodeCarry_encodeCarry {c : Carry} (shift : c.shift < 2 ^ 19) (use : c.use < 65536000)
    (since : c.sinceReading < 16777216000) (levels : ∀ l ∈ c.levels.toList, l.fits)
    (reading : ∀ r, c.reading = some r → r.value < 2 ^ 24 ∧ r.time < 2 ^ 32)
    (hold : ∀ st, c.hold.stamp = some st → st.time < 2 ^ 32 ∧ st.station < 2 ^ 8) :
    decodeCarry (encodeCarry c) = { c with
      use := c.use / 1000 * 1000, sinceReading := c.sinceReading / 1000 * 1000,
      levels := c.levels.map fun l => { l with litres := l.litres / 1000 * 1000 }, list := [] } := by
  simp only [Four.toList, List.forall_mem_cons] at levels
  obtain ⟨fits1, fits2, fits3, fits4, -⟩ := levels
  have use : litresCode 65535 c.use % 2 ^ 16 = c.use / 1000 := litresCode_mod rfl use
  have since : litresCode 16777215 c.sinceReading % 2 ^ 24 = c.sinceReading / 1000 := litresCode_mod rfl since
  rw [decodeCarry, decodeFields_encodeCarry]
  simp only [List.flatMap_cons, List.flatMap_nil, List.cons_append, List.nil_append, carryOfFields,
    Level.fields_read fits1, Level.fields_read fits2, Level.fields_read fits3, Level.fields_read fits4,
    readingOf_fields reading, holdOf_fields hold, Nat.mod_eq_of_lt shift, use, since,
    Four.map]

/-! ### Tag blocks (12.4) -/

theorem encodeItem_length (i : Item) : (encodeItem i).length = 18 := by
  simp [encodeItem, encodeFields_length, widthSum]

/-- The values of an item lie in the fields of 12.4. -/
def Item.fits (i : Item) : Prop :=
  i.origin < 2 ^ 8 ∧ i.seq < 2 ^ 24 ∧ i.start < 2 ^ 32 ∧ i.stop < 2 ^ 32 ∧ i.shift < 2 ^ 19 ∧ i.net < 2 ^ 26

theorem decodeItem_encodeItem {i : Item} (fits : i.fits) : decodeItem (encodeItem i) = i := by
  obtain ⟨origin, seq, start, stop, shift, net⟩ := fits
  have volume : min i.net 67108863 % 2 ^ 26 = i.net := by rw [Nat.min_eq_left (by omega), Nat.mod_eq_of_lt net]
  rw [decodeItem, encodeItem, decodeFields_encodeFields (by rfl) (by decide)]
  simp only [List.map, Nat.mod_eq_of_lt, origin, seq, start, stop, shift, volume, Nat.pow_one, bitOf_bitCode]

theorem flatMap_encodeItem_length (items : List Item) : (items.flatMap encodeItem).length = 18 * items.length := by
  simp [List.length_flatMap, encodeItem_length, Nat.mul_comm]

/-- The items of a list stand one behind the other, 18 bytes each. -/
theorem slice_items {items : List Item} {k : Nat} (inside : k < items.length) (rest : List Byte) :
    slice (items.flatMap encodeItem ++ rest) (18 * k) 18 = encodeItem items[k] := by
  induction items generalizing k with
  | nil => cases inside
  | cons i items ih =>
    rw [List.flatMap_cons, List.append_assoc]
    cases k with
    | zero => exact slice_append_left (encodeItem_length i) _
    | succ k =>
      have past : (encodeItem i).length ≤ 18 * (k + 1) := by rw [encodeItem_length]; omega
      rw [slice_append_right past, encodeItem_length, Nat.mul_add_one, Nat.add_sub_cancel,
        ih (Nat.lt_of_succ_lt_succ inside)]
      rfl

theorem blockItems_flatMap {items : List Item} {head : List Byte} (len : head.length = 88)
    (fits : ∀ i ∈ items, i.fits) (rest : List Byte) :
    blockItems (head ++ (items.flatMap encodeItem ++ rest)) items.length = items := by
  refine List.ext_getElem (by simp [blockItems]) fun k _ inside => ?_
  simp only [blockItems, List.getElem_map, List.getElem_range]
  rw [slice_append_right (by omega), len, Nat.add_sub_cancel_left, slice_items inside,
    decodeItem_encodeItem (fits _ (List.getElem_mem inside))]

/-- An item in the ranges of R66, with its times in 32 bits, fits its fields. -/
theorem Item.fits_of_inRange {i : Item} (range : (identityInRange i.origin i.seq && decide (i.net ≤ Config.useMax) &&
    decide (i.shift ≤ Config.shiftMax)) = true) (times : i.start < 2 ^ 32 ∧ i.stop < 2 ^ 32) : i.fits := by
  simp only [identityInRange, Bool.and_eq_true, decide_eq_true_eq] at range
  simp only [Config.sequenceMax, Config.useMax, Config.shiftMax] at range
  unfold Item.fits
  omega

/-- What stands ahead of the item count in a carry block (12.4). -/
def blockHead (v : Nat) (c : Carry) : List Byte := natToBytes 1 1 ++ natToBytes 2 v ++ encodeCarry c

theorem blockHead_length (v : Nat) (c : Carry) : (blockHead v c).length = 87 := by
  simp [blockHead, natToBytes_length, encodeCarry_length]

/-- The bytes of a carry block by its parts. -/
theorem carryBlock_parts (v : Nat) (c : Carry) : ∃ rest, carryBlock v c =
    blockHead v c ++ BitVec.ofNat 8 (c.list.take 4).length :: ((c.list.take 4).flatMap encodeItem ++ rest) := by
  have few : ((c.list.take 4).flatMap encodeItem).length ≤ 72 := by
    rw [flatMap_encodeItem_length, List.length_take]
    omega
  obtain ⟨zeros, padded⟩ : ∃ zeros, padTo 72 ((c.list.take 4).flatMap encodeItem) =
      (c.list.take 4).flatMap encodeItem ++ zeros := ⟨_, padTo_eq_append few⟩
  refine ⟨zeros ++ checkBytes (blockHead v c ++ natToBytes 1 (c.list.take 4).length ++
    padTo 72 ((c.list.take 4).flatMap encodeItem)), ?_⟩
  simp only [carryBlock, Config.tagListSize, withCheck, blockHead, padded, natToBytes, Nat.pow_zero, Nat.div_one,
    List.append_assoc, List.cons_append, List.nil_append]

theorem carryBlock_length (v : Nat) (c : Carry) : (carryBlock v c).length = 162 := by
  simp [carryBlock, withCheck_length, natToBytes_length, encodeCarry_length, padTo_length]

/-- R57, R62: a block written is usable where its fields lie in their ranges, and holds the 4 newest items. -/
theorem usableCarry_carryBlock {v : Nat} {c x : Carry} (vehicle : v < 2 ^ 16)
    (read : x = { decodeCarry (encodeCarry c) with list := c.list.take 4 }) (range : carryInRange x = true)
    (distinct : itemsDistinct x.list = true) (ordered : itemsOrdered x.list = true)
    (times : ∀ i ∈ x.list, i.start < 2 ^ 32 ∧ i.stop < 2 ^ 32) : usableCarry v (carryBlock v c) = some x := by
  have list : x.list = c.list.take 4 := by rw [read]
  have fits (i : Item) (h : i ∈ c.list.take 4) : i.fits := by
    rw [← list] at h
    simp only [carryInRange, Bool.and_eq_true, List.all_eq_true] at range
    obtain ⟨-, items⟩ := range
    exact Item.fits_of_inRange (by simpa using items i h) (times i h)
  have few : (c.list.take 4).length ≤ 4 := List.length_take_le ..
  obtain ⟨rest, parts⟩ := carryBlock_parts v c
  have nested : carryBlock v c = natToBytes 1 1 ++ (natToBytes 2 v ++ (encodeCarry c ++
      BitVec.ofNat 8 (c.list.take 4).length :: ((c.list.take 4).flatMap encodeItem ++ rest))) := by
    rw [parts, blockHead, List.append_assoc, List.append_assoc]
  have version : byteAt (carryBlock v c) 0 = 1 := by
    rw [nested]
    rfl
  have number : bytesToNat (slice (carryBlock v c) 1 2) = v := by
    rw [nested, slice_append_right (natToBytes_length ..).le, natToBytes_length,
      slice_append_left (natToBytes_length ..), bytesToNat_natToBytes_of_lt vehicle]
  have carry : slice (carryBlock v c) 3 84 = encodeCarry c := by
    rw [nested, slice_append_right (by decide), slice_append_right (by rw [natToBytes_length, natToBytes_length]),
      natToBytes_length, natToBytes_length, slice_append_left (encodeCarry_length c)]
  have count : byteAt (carryBlock v c) 87 = (c.list.take 4).length := by
    rw [parts, byteAt_append_right (blockHead_length v c).le, blockHead_length, byteAt_cons_zero, BitVec.toNat_ofNat,
      Nat.mod_eq_of_lt (by omega)]
  have items : blockItems (carryBlock v c) (c.list.take 4).length = c.list.take 4 := by
    rw [parts, List.append_cons, blockItems_flatMap (by rw [List.length_append, blockHead_length]; rfl) fits]
  unfold usableCarry
  simp only [carry, count, items]
  rw [list] at distinct ordered
  rw [← read, if_pos ⟨carryBlock_length v c, checkOk_withCheck _, version, number, few, carryCodesKnown_encodeCarry c,
    distinct, ordered, range⟩]

/-! ### ISSUE contents (12.2, R190) -/

theorem encodeSnapshot_length (x : Option Carry) : (encodeSnapshot x).length = 84 := by
  cases x with
  | none => rfl
  | some c => exact encodeCarry_length c

theorem encodeFields_issueFields_length (r : IssueRecord) : (encodeFields (issueFields r)).length = 32 := by
  simp [encodeFields_length, issueFields, fourBits, causeBits, flagBits, widthSum]

theorem encodeIssue_length (r : IssueRecord) : (encodeIssue r).length = 116 := by
  rw [encodeIssue, List.length_append, encodeFields_issueFields_length, encodeSnapshot_length]

/-- Bytes 0 to 31 of an ISSUE content, field by field. -/
theorem decodeFields_encodeIssue (r : IssueRecord) (rest : List Byte) :
    decodeFields issueWidths (slice (encodeIssue r ++ rest) 0 32) =
      [r.shift % 2 ^ 19, r.cls % 2 ^ 3, r.grade % 2 ^ 2, Side.code r.hose % 2, r.form.code % 4,
        r.endReason.elim 0 EndReason.code % 16, 0, r.vehicle % 2 ^ 16, r.start % 2 ^ 32,
        durationCode r.start r.stop % 2 ^ 16, volumeCode r.target % 2 ^ 26, volumeCode r.gross % 2 ^ 26,
        volumeCode r.net % 2 ^ 26, 0, r.totalizer % 2 ^ 37, signedCode 11 r.temperature % 2 ^ 11, r.service.code % 8,
        r.level.getD 0 % 2 ^ 3, 0] ++
      [r.unknown.l1, r.unknown.l2, r.unknown.l3, r.unknown.l4, r.causes.useRaised, r.causes.allowanceLowered,
        r.causes.holdSet].map (bitCode · % 2) ++ [0] ++
      [r.flags.supervised, r.flags.unknownVehicle, r.flags.uncompensated, r.flags.hoursEstimated,
        r.flags.hoursBackward, r.flags.hoursClamped, r.flags.stockUnknown, r.flags.disturbed, r.flags.tagNotUpdated,
        r.flags.tagUpdateUnknown, r.flags.recovered].map (bitCode · % 2) ++ [0] := by
  rw [encodeIssue, List.append_assoc, slice_append_left (encodeFields_issueFields_length r),
    decodeFields_encodeFields (by rfl) (by decide)]
  unfold issueFields
  cases r.endReason <;> rfl

theorem volumeCode_mod {ml : Nat} (fits : ml < 2 ^ 26) : volumeCode ml % 2 ^ 26 = ml := by
  rw [volumeCode, Nat.min_eq_left (by omega), Nat.mod_eq_of_lt fits]

/-- The end time is the start time plus the duration (R190). -/
theorem start_add_duration {start stop : Nat} (after : start ≤ stop) (near : stop ≤ start + 65535) :
    start + durationCode start stop % 2 ^ 16 = stop := by
  rw [durationCode, Nat.min_eq_left (by omega), Nat.mod_eq_of_lt (by omega), Nat.add_sub_cancel' after]

/-- A level's code, 0 where it is absent. -/
theorem level_read {level : Option Nat} (fits : ∀ l, level = some l → 1 ≤ l ∧ l < 8) :
    (if level.getD 0 % 2 ^ 3 = 0 then none else some (level.getD 0 % 2 ^ 3)) = level := by
  cases level with
  | none => rfl
  | some l =>
    obtain ⟨low, high⟩ := fits l rfl
    rw [Option.getD_some, Nat.mod_eq_of_lt (by exact high)]
    exact if_neg (by omega)

/-- The end time of an ISSUE content needs its two time fields alone. -/
theorem decodeIssue_stop {r : IssueRecord} (start : r.start < 2 ^ 32) (after : r.start ≤ r.stop)
    (near : r.stop ≤ r.start + 65535) (epoch seq : Nat) (rest : List Byte) :
    (decodeIssue epoch seq (encodeIssue r ++ rest)).stop = r.stop := by
  have stop : r.start % 2 ^ 32 + durationCode r.start r.stop % 2 ^ 16 = r.stop := by
    rw [Nat.mod_eq_of_lt start, start_add_duration after near]
  rw [decodeIssue, decodeFields_encodeIssue]
  exact stop

/-- The values of an ISSUE record lie in the fields of 12.2. -/
def IssueRecord.fits (r : IssueRecord) : Prop :=
  r.shift < 2 ^ 19 ∧ r.cls < 2 ^ 3 ∧ r.grade < 2 ^ 2 ∧ r.vehicle < 2 ^ 16 ∧ r.start < 2 ^ 32 ∧ r.start ≤ r.stop ∧
    r.stop ≤ r.start + 65535 ∧ r.target < 2 ^ 26 ∧ r.gross < 2 ^ 26 ∧ r.net < 2 ^ 26 ∧ r.totalizer < 2 ^ 37 ∧
    -1024 ≤ r.temperature ∧ r.temperature < 1024 ∧ ∀ l, r.level = some l → 1 ≤ l ∧ l < 8

/-- 12.2: an ISSUE content reads back with its snapshot as 84 bytes hold it. -/
theorem decodeIssue_encodeIssue {r : IssueRecord} (fits : r.fits) (rest : List Byte) :
    decodeIssue r.epoch r.seq (encodeIssue r ++ rest) =
      { r with snapshot := decodeSnapshot (encodeSnapshot r.snapshot) } := by
  obtain ⟨shift, cls, grade, vehicle, start, after, near, target, gross, net, totalizer, cold, warm, level⟩ := fits
  have snapshot : slice (encodeIssue r ++ rest) 32 84 = encodeSnapshot r.snapshot := by
    rw [encodeIssue, List.append_assoc, slice_append_right (encodeFields_issueFields_length r).le,
      encodeFields_issueFields_length, slice_append_left (encodeSnapshot_length _)]
  rw [decodeIssue, decodeFields_encodeIssue, snapshot]
  simp only [List.map, List.cons_append, List.nil_append, bitOf_bitCode, Side.ofCode_code, Form.ofCode_code,
    EndReason.ofCode_code, ServiceState.ofCode_code, volumeCode_mod target, volumeCode_mod gross, volumeCode_mod net,
    signedValue_signedCode cold warm, level_read level, Nat.mod_eq_of_lt, shift, cls, grade, vehicle, start, totalizer,
    start_add_duration after near]

/-- 12.2: a snapshot of zeros is an absent one. -/
theorem decodeSnapshot_encodeCarry (c : Carry) : decodeSnapshot (encodeCarry c) =
    if ∀ b ∈ encodeCarry c, b = 0 then none else some (decodeCarry (encodeCarry c)) := by
  simp [decodeSnapshot, List.all_eq_true]

/-! ### Ring slots and open slots (12.5) -/

theorem Record.content_length (r : Record) : r.content.length = contentLength r.kind := by
  cases r with
  | issue r => exact encodeIssue_length r
  | service e q r => exact encodeService_length r
  | vehicle e q r => exact encodeVehicleNotice_length r
  | cls e q r => exact encodeClassNotice_length r

theorem Record.content_length_le (r : Record) : r.content.length ≤ 116 := by
  rw [r.content_length]
  cases r <;> simp [kind, contentLength]

/-- A record's content in the 116 bytes that the ring form has for it. -/
def Record.ringContent (r : Record) : List Byte := r.content ++ List.replicate (116 - r.content.length) 0

theorem Record.ringContent_length (r : Record) : r.ringContent.length = 116 := by
  rw [ringContent, List.length_append, List.length_replicate, Nat.add_sub_cancel' r.content_length_le]

/-- The ring form by its parts. -/
theorem Record.ringForm_eq (r : Record) : r.ringForm =
    BitVec.ofNat 8 r.kind :: (natToBytes 2 r.epoch ++ (natToBytes 3 r.seq ++ r.ringContent)) := by
  have length : (BitVec.ofNat 8 r.kind :: r.body).length = 6 + r.content.length := by
    simp only [Record.body, List.length_cons, List.length_append, natToBytes_length]
    omega
  have fits := r.content_length_le
  rw [ringForm, padTo_eq_append (by omega), length, Nat.sub_add_eq]
  simp [Record.body, ringContent]

/-- What is read of a record in the ring form, wherever it stands. -/
theorem Record.ringForm_read (r : Record) (ahead behind : List Byte) :
    byteAt (ahead ++ (r.ringForm ++ behind)) ahead.length = r.kind ∧
      slice (ahead ++ (r.ringForm ++ behind)) (ahead.length + 1) 2 = natToBytes 2 r.epoch ∧
      slice (ahead ++ (r.ringForm ++ behind)) (ahead.length + 3) 3 = natToBytes 3 r.seq ∧
      slice (ahead ++ (r.ringForm ++ behind)) (ahead.length + 6) 116 = r.ringContent := by
  have behindKind (i n : Nat) : slice (ahead ++ (r.ringForm ++ behind)) (ahead.length + (i + 1)) n =
      slice (natToBytes 2 r.epoch ++ (natToBytes 3 r.seq ++ (r.ringContent ++ behind))) i n := by
    rw [slice_append_right (Nat.le_add_right ..), Nat.add_sub_cancel_left, r.ringForm_eq, List.cons_append, slice_cons,
      List.append_assoc, List.append_assoc]
  refine ⟨?_, ?_, ?_, ?_⟩
  · rw [byteAt_append_right le_rfl, Nat.sub_self, r.ringForm_eq]
    cases r <;> rfl
  · rw [behindKind 0 2, slice_append_left (natToBytes_length ..)]
  · rw [behindKind 2 3, slice_append_right (natToBytes_length ..).le, natToBytes_length,
      slice_append_left (natToBytes_length ..)]
  · rw [behindKind 5 116, slice_append_right (by simp [natToBytes_length]),
      slice_append_right (by simp [natToBytes_length]), natToBytes_length, natToBytes_length,
      slice_append_left r.ringContent_length]

theorem decodeSlot_encodeSlot {serial : Nat} {r : Record} (s : serial < 2 ^ 32) (e : r.epoch < 2 ^ 16)
    (q : r.seq < 2 ^ 24) :
    decodeSlot (encodeSlot serial r) = some ⟨serial, r.kind, r.epoch, r.seq, r.ringContent⟩ := by
  have parts : encodeSlot serial r =
      natToBytes 4 serial ++ (r.ringForm ++ checkBytes (natToBytes 4 serial ++ r.ringForm)) := by
    rw [encodeSlot, withCheck, List.append_assoc]
  obtain ⟨kind, epoch, seq, content⟩ := r.ringForm_read (natToBytes 4 serial)
    (checkBytes (natToBytes 4 serial ++ r.ringForm))
  rw [← parts, natToBytes_length] at kind epoch seq content
  have number : slice (encodeSlot serial r) 0 4 = natToBytes 4 serial := by
    rw [parts, slice_append_left (natToBytes_length ..)]
  rw [decodeSlot, if_pos ⟨encodeSlot_length serial r, checkOk_withCheck _⟩, number, kind, epoch, seq, content,
    bytesToNat_natToBytes_of_lt s, bytesToNat_natToBytes_of_lt e, bytesToNat_natToBytes_of_lt q]

theorem RingSlot.body_eq (serial : Nat) (r : Record) :
    (⟨serial, r.kind, r.epoch, r.seq, r.ringContent⟩ : RingSlot).body = r.body := by
  rw [RingSlot.body, Record.body, Record.ringContent, List.take_left' r.content_length]

section
variable {form : IssueRecord → OpenImage} {r : IssueRecord}

/-- What is read of a record's image in an open slot. -/
theorem encodeOpen_read (image : form = .opened ∨ form = .final) :
    byteAt (encodeOpen (form r)) 0 = (form r).code ∧ slice (encodeOpen (form r)) 2 2 = natToBytes 2 r.epoch ∧
      slice (encodeOpen (form r)) 4 3 = natToBytes 3 r.seq ∧ slice (encodeOpen (form r)) 7 116 = encodeIssue r := by
  obtain ⟨zeros, padded⟩ : ∃ zeros, padTo 126 (BitVec.ofNat 8 (form r).code :: (Record.issue r).ringForm) =
      BitVec.ofNat 8 (form r).code :: (Record.issue r).ringForm ++ zeros :=
    ⟨_, padTo_eq_append (by simp [Record.ringForm, padTo_length])⟩
  have written : encodeOpen (form r) =
      withCheck (padTo 126 (BitVec.ofNat 8 (form r).code :: (Record.issue r).ringForm)) := by
    obtain rfl | rfl := image <;> rfl
  obtain ⟨behind, parts⟩ : ∃ behind, encodeOpen (form r) =
      [BitVec.ofNat 8 (form r).code] ++ ((Record.issue r).ringForm ++ behind) := by
    rw [written, withCheck, padded, List.append_assoc]
    exact ⟨_, rfl⟩
  obtain ⟨-, epoch, seq, content⟩ := (Record.issue r).ringForm_read [BitVec.ofNat 8 (form r).code] behind
  rw [← parts] at epoch seq content
  refine ⟨?_, epoch, seq, content.trans ?_⟩
  · rw [parts]
    obtain rfl | rfl := image <;> rfl
  · simp [Record.ringContent, Record.content, encodeIssue_length]

/-- 12.5: the image in an open slot reads back as its content does. -/
theorem decodeOpen_encodeOpen (image : form = .opened ∨ form = .final) (e : r.epoch < 2 ^ 16) (q : r.seq < 2 ^ 24) :
    decodeOpen (encodeOpen (form r)) = form (decodeIssue r.epoch r.seq (encodeIssue r)) := by
  obtain ⟨code, epoch, seq, content⟩ := encodeOpen_read (r := r) image
  rw [decodeOpen, if_pos ⟨encodeOpen_length _, checkOk_withCheck _⟩, code, epoch, seq, content,
    bytesToNat_natToBytes_of_lt e, bytesToNat_natToBytes_of_lt q]
  obtain rfl | rfl := image <;> rfl

end

theorem decodeOpen_clear : decodeOpen (encodeOpen .clear) = .clear := by
  rw [decodeOpen, if_pos ⟨encodeOpen_length _, checkOk_withCheck _⟩]
  rfl

/-! ### The header and the plan records (12.5, 12.6) -/

theorem slice_withCheck {bs : List Byte} {n : Nat} (length : bs.length = n) : slice (withCheck bs) 0 n = bs :=
  slice_append_left length _

theorem decodeHeader_encodeHeader {h : Header} (epoch : h.epoch < 2 ^ 16) (count : h.slotCount < 2 ^ 16)
    (base : h.baseSerial < 2 ^ 32) (mark : h.savedMark < 2 ^ 32) : decodeHeader (encodeHeader h) = some h := by
  rw [decodeHeader, if_pos ⟨encodeHeader_length h, checkOk_withCheck _⟩, encodeHeader,
    slice_withCheck (by simp [encodeFields_length, widthSum]), decodeFields_encodeFields (by rfl) (by decide)]
  simp only [List.map, Nat.mod_eq_of_lt, epoch, count, base, mark]

/-- The stamp that a plan record gives its items: its own time with station 254 (R67, R191). -/
theorem planStamp_read {st : Option Stamp} (fits : ∀ x, st = some x → x.time < 2 ^ 32) :
    (if bitCode st.isSome % 2 ^ 1 = 1 then some (⟨(st.getD ⟨0, 0⟩).time % 2 ^ 32, 254⟩ : Stamp) else none) =
      st.map fun x => ⟨x.time, 254⟩ := by
  cases st with
  | none => rfl
  | some x =>
    rw [Option.getD_some, Nat.mod_eq_of_lt (fits x rfl)]
    rfl

/-- The values of a level plan lie in the fields of a plan record. -/
def Plan.fits (p : Plan) : Prop :=
  p.ih < 2 ^ 15 ∧ p.ah < 2 ^ 15 ∧ p.gh < 2 ^ 15 ∧ p.il < 2 ^ 20 ∧ p.al < 2 ^ 20 ∧ p.gl < 2 ^ 20

theorem Plan.fields_read {p : Plan} (fits : p.fits) :
    (⟨p.ih % 2 ^ 15, p.ah % 2 ^ 15, p.gh % 2 ^ 15, p.il % 2 ^ 20, p.al % 2 ^ 20, p.gl % 2 ^ 20⟩ : Plan) = p := by
  obtain ⟨ih, ah, gh, il, al, gl⟩ := fits
  simp only [Nat.mod_eq_of_lt, ih, ah, gh, il, al, gl]

theorem decodePlan_encodePlan {k : ClassRecord} (allowance : k.allowance.val < 2 ^ 16)
    (returnQty : k.returnQty.val < 2 ^ 11) (burn : k.burn.val < 2 ^ 9)
    (stamp : ∀ x, k.newestStamp = some x → x.time < 2 ^ 32) (plans : ∀ p ∈ k.plans.toList, p.val.fits) :
    decodePlan (encodePlan k) =
      let st := k.newestStamp.map fun x => ⟨x.time, 254⟩
      { allowance := ⟨k.allowance.val, st⟩, hold := ⟨k.hold.val, st⟩, returnQty := ⟨k.returnQty.val, st⟩,
        burn := ⟨k.burn.val, st⟩, plans := k.plans.map fun p => ⟨p.val, st⟩ } := by
  simp only [Four.toList, List.forall_mem_cons] at plans
  obtain ⟨plan1, plan2, plan3, plan4, -⟩ := plans
  rw [decodePlan, if_pos ⟨encodePlan_length k, checkOk_withCheck _⟩, encodePlan,
    slice_withCheck (by simp [encodeFields_length, planFields, widthSum]),
    decodeFields_encodeFields (by rfl) (by decide)]
  simp only [planFields, List.cons_append, List.nil_append, List.map, planStamp_read stamp, Plan.fields_read plan1,
    Plan.fields_read plan2, Plan.fields_read plan3, Plan.fields_read plan4, ClassHold.ofCode_code, Nat.mod_eq_of_lt,
    allowance, returnQty, burn, Four.map]

/-! ### What is written reads back (12.2 to 12.6) -/

theorem Plan.cut_of_fits {p : Plan} (fits : p.ih < 2 ^ 16 ∧ p.ah < 2 ^ 16 ∧ p.gh < 2 ^ 16 ∧ p.il < 2 ^ 24 ∧
    p.al < 2 ^ 24 ∧ p.gl < 2 ^ 24) : p.cut = p := by
  obtain ⟨ih, ah, gh, il, al, gl⟩ := fits
  simp only [Plan.cut, Nat.mod_eq_of_lt, ih, ah, gh, il, al, gl]

/-- A SERVICE content whose fields fit reads back. -/
theorem service_reads_back {r : ServiceRecord} (vehicle : r.vehicle < 2 ^ 16) (level : r.level < 2 ^ 8)
    (time : r.time < 2 ^ 32) (hours : r.hours < 2 ^ 24) (stamp : r.stamp < 2 ^ 32) :
    decodeService (encodeService r) = r := by
  rw [← List.append_nil (encodeService r), decodeService_encodeService]
  simp only [Nat.mod_eq_of_lt, vehicle, level, time, hours, stamp]

/-- A VEHICLE NOTICE whose fields fit reads back. -/
theorem vehicleNotice_reads_back {n : VehicleNotice} (vehicle : n.vehicle < 2 ^ 16) (stamp : n.stamp < 2 ^ 32)
    (allowance : n.allowance < 2 ^ 16) (hold : n.hold < 2 ^ 8) (cls : n.cls < 2 ^ 8) (useTag : n.useTag < 2 ^ 8) :
    decodeVehicleNotice (encodeVehicleNotice n) = n := by
  rw [← List.append_nil (encodeVehicleNotice n), decodeVehicleNotice_encodeVehicleNotice]
  simp only [Nat.mod_eq_of_lt, vehicle, stamp, allowance, hold, cls, useTag]

/-- A CLASS NOTICE whose fields fit reads back. -/
theorem classNotice_reads_back {n : ClassNotice} (cls : n.cls < 2 ^ 8) (stamp : n.stamp < 2 ^ 32)
    (allowance : n.allowance < 2 ^ 16) (hold : n.hold < 2 ^ 8) (returnQty : n.returnQty < 2 ^ 16)
    (burn : n.burn < 2 ^ 16) (plans : ∀ p ∈ n.plans.toList, p.cut = p) :
    decodeClassNotice (encodeClassNotice n) = n := by
  simp only [Four.toList, List.forall_mem_cons] at plans
  obtain ⟨plan1, plan2, plan3, plan4, -⟩ := plans
  rw [← List.append_nil (encodeClassNotice n), decodeClassNotice_encodeClassNotice]
  simp only [Nat.mod_eq_of_lt, cls, stamp, allowance, hold, returnQty, burn, Four.map, plan1, plan2, plan3, plan4]

/-- The record time of a slot is that of the record in it (R141). -/
theorem slotTime_reads_back (serial : Nat) (r : Record) :
    (∀ i, r = .issue i → i.start < 2 ^ 32 → i.start ≤ i.stop → i.stop ≤ i.start + 65535 →
      (⟨serial, r.kind, r.epoch, r.seq, r.ringContent⟩ : RingSlot).time = i.stop) ∧
    (∀ e q v, r = .service e q v → v.stamp < 2 ^ 32 →
      (⟨serial, r.kind, r.epoch, r.seq, r.ringContent⟩ : RingSlot).time = v.stamp) ∧
    (∀ e q v, r = .vehicle e q v → v.stamp < 2 ^ 32 →
      (⟨serial, r.kind, r.epoch, r.seq, r.ringContent⟩ : RingSlot).time = v.stamp) ∧
    (∀ e q v, r = .cls e q v → v.stamp < 2 ^ 32 →
      (⟨serial, r.kind, r.epoch, r.seq, r.ringContent⟩ : RingSlot).time = v.stamp) := by
  refine ⟨?_, ?_, ?_, ?_⟩
  · rintro i rfl start after near
    simp only [RingSlot.time, Record.kind, Record.ringContent, Record.content]
    exact decodeIssue_stop start after near ..
  · rintro e q v rfl stamp
    simp only [RingSlot.time, Record.kind, Record.ringContent, Record.content, decodeService_encodeService]
    exact Nat.mod_eq_of_lt stamp
  · rintro e q v rfl stamp
    simp only [RingSlot.time, Record.kind, Record.ringContent, Record.content, decodeVehicleNotice_encodeVehicleNotice]
    exact Nat.mod_eq_of_lt stamp
  · rintro e q v rfl stamp
    simp only [RingSlot.time, Record.kind, Record.ringContent, Record.content, decodeClassNotice_encodeClassNotice]
    exact Nat.mod_eq_of_lt stamp

/-- Settles O60, format by format. -/
theorem recordsReadBack : Obligations.RecordsReadBack := by
  refine ⟨fun kind origin body => parseFrame_frameOf, fun r => service_reads_back,
    fun n => vehicleNotice_reads_back, fun n cls stamp allowance hold returnQty burn plans => ?_,
    fun h => decodeHeader_encodeHeader, fun serial r s e q => ?_,
    fun r x shift cls grade vehicle start after near target gross net totalizer cold warm level read => ?_,
    decodeOpen_clear, fun k st stamped allowance returnQty burn stamp plans => ?_,
    fun v c x => usableCarry_carryBlock, fun c shift use since levels => decodeCarry_encodeCarry shift use since levels⟩
  · exact classNotice_reads_back cls stamp allowance hold returnQty burn fun p held => Plan.cut_of_fits (plans p held)
  · exact ⟨_, decodeSlot_encodeSlot s e q, rfl, rfl, rfl, rfl, RingSlot.body_eq serial r, slotTime_reads_back serial r⟩
  · have fits : r.fits :=
      ⟨shift, cls, grade, vehicle, start, after, near, target, gross, net, totalizer, cold, warm, level⟩
    have content : decodeIssue r.epoch r.seq (encodeIssue r) = x := by
      rw [← List.append_nil (encodeIssue r), decodeIssue_encodeIssue fits, read]
      cases r.snapshot with
      | none => rfl
      | some c => rw [encodeSnapshot, decodeSnapshot_encodeCarry]
    refine ⟨content, fun epoch seq => ?_⟩
    rw [← content]
    exact ⟨decodeOpen_encodeOpen (.inl rfl) epoch seq, decodeOpen_encodeOpen (.inr rfl) epoch seq⟩
  · subst stamped
    exact decodePlan_encodePlan allowance returnQty burn stamp plans

end Sys2Proof.Machine

namespace Sys2Proof.Machine

/-! ### Levels in order (R73, R75) -/

theorem markNewer_irrefl (m : Option Mark) : markNewer m m = false := by
  cases m <;> simp [markNewer, Mark.newer]

theorem enforce_mark (lo hi : Level) :
    (lo.enforce hi).mark = if markNewer hi.mark lo.mark then hi.mark else lo.mark := by
  unfold Level.enforce
  dsimp only
  split <;> split <;> rfl

theorem enforce_litres (lo hi : Level) : (lo.enforce hi).litres = min lo.litres hi.litres := by
  unfold Level.enforce
  dsimp only
  split <;> split <;> rfl

theorem enforce_hours (lo hi : Level) (low : (lo.enforce hi).mark.isSome = true) (high : hi.mark.isSome = true) :
    hi.hours ≤ (lo.enforce hi).hours := by
  unfold Level.enforce at low ⊢
  dsimp only at low ⊢
  generalize (if markNewer hi.mark lo.mark then { lo with mark := hi.mark, hours := hi.hours } else lo : Level) = a
    at low ⊢
  split
  · exact Nat.le_max_right _ _
  · rename_i marks
    rw [if_neg marks] at low
    exact absurd (Bool.and_eq_true _ _ ▸ ⟨low, high⟩) marks

/-- A level put through step 4 of R75 is in order with the one above it. -/
theorem enforce_inOrder (lo hi : Level) : (lo.enforce hi).inOrder hi := by
  refine ⟨?_, enforce_litres lo hi ▸ Nat.min_le_right _ _, enforce_hours lo hi⟩
  rw [enforce_mark]
  split
  · exact markNewer_irrefl _
  · rename_i older
    exact Bool.eq_false_iff.2 older

theorem ordered_of_enforced {c : Carry} {q : Four Level} (levels : c.levels = enforceLevels q) : c.ordered := by
  unfold Carry.ordered
  rw [levels]
  exact ⟨enforce_inOrder _ _, enforce_inOrder _ _, enforce_inOrder _ _⟩

theorem merge_ordered (c x : Carry) : (c.merge x).1.ordered := ordered_of_enforced rfl

theorem adopt_ordered (c : Carry) (m : Mark) (level hours : Nat) : (c.adopt m level hours).ordered :=
  ordered_of_enforced rfl

/-! ### An amount applied (R73) -/

/-- An amount counts for a level: it has no mark, or the delivery ended later than the mark (R73). -/
def Level.takes (l : Level) (stop : Nat) : Prop := ∀ m, l.mark = some m → m.time < stop

theorem apply_of_takes {l : Level} {stop : Nat} (a : Nat) (takes : l.takes stop) :
    l.apply stop a = { l with litres := min 4000000000000 (l.litres + a) } := by
  unfold Level.apply
  split
  · rfl
  · rename_i m mark
    exact if_pos (takes m mark)

theorem apply_of_marked {l : Level} {m : Mark} {stop : Nat} (a : Nat) (mark : l.mark = some m) (since : stop ≤ m.time) :
    l.apply stop a = l := by
  unfold Level.apply
  rw [mark]
  exact if_neg (Nat.not_lt.2 since)

/-- An amount either counts for a level or stands before its mark. -/
theorem takes_or_marked (l : Level) (stop : Nat) : l.takes stop ∨ ∃ m, l.mark = some m ∧ stop ≤ m.time := by
  unfold Level.takes
  cases l.mark with
  | none => exact .inl nofun
  | some m =>
    by_cases later : m.time < stop
    · exact .inl fun k e => by cases e; exact later
    · exact .inr ⟨m, rfl, Nat.not_lt.1 later⟩

/-- What counts for a level counts for the level above it, whose mark is no newer. -/
theorem takes_above {lo hi : Level} {stop : Nat} (older : markNewer hi.mark lo.mark = false) (takes : lo.takes stop) :
    hi.takes stop := by
  intro k mark
  rw [mark] at older
  cases below : lo.mark with
  | none => rw [below] at older; cases older
  | some m =>
    have later := takes m below
    simp only [below, markNewer, Mark.newer, Bool.or_eq_false_iff, decide_eq_false_iff_not] at older
    omega

theorem apply_inOrder {lo hi : Level} (stop a : Nat) (ordered : lo.inOrder hi) (range : hi.litres ≤ 4000000000000) :
    (lo.apply stop a).inOrder (hi.apply stop a) := by
  obtain ⟨older, fewer, hours⟩ := ordered
  obtain low | ⟨m, mark, since⟩ := takes_or_marked lo stop
  · rw [apply_of_takes a low, apply_of_takes a (takes_above older low)]
    exact ⟨older, by dsimp only; omega, hours⟩
  · rw [apply_of_marked a mark since]
    obtain high | ⟨k, mark', since'⟩ := takes_or_marked hi stop
    · rw [apply_of_takes a high]
      exact ⟨older, by dsimp only; omega, hours⟩
    · rw [apply_of_marked a mark' since']
      exact ⟨older, fewer, hours⟩

theorem apply_ordered {c : Carry} (shift stop a : Nat) (ordered : c.ordered)
    (range : c.levels.l4.litres ≤ 4000000000000) : (c.apply shift stop a).ordered := by
  obtain ⟨low, middle, high⟩ := ordered
  have ⟨_, three, _⟩ := high
  have ⟨_, two, _⟩ := middle
  exact ⟨apply_inOrder stop a low (by omega), apply_inOrder stop a middle (by omega), apply_inOrder stop a high range⟩

/-! ### The absorb (R72) -/

/-- An absorb leaves the levels alone, or applies an amount for the delivery to a carry of the same levels. -/
theorem absorb_cases (c : Carry) (d : Item) : ∃ items : List Item, (c.absorb d).1 = { c with list := items } ∨
    ∃ n, (c.absorb d).1 = ({ c with list := items } : Carry).apply d.shift d.stop n := by
  unfold Carry.absorb
  split
  · dsimp only
    split
    · exact ⟨_, .inr ⟨_, rfl⟩⟩
    · exact ⟨_, .inl rfl⟩
  · split
    · split
      · split
        · exact ⟨c.list, .inl rfl⟩
        · exact ⟨_, .inr ⟨_, rfl⟩⟩
      · exact ⟨c.list, .inl rfl⟩
    · exact ⟨_, .inr ⟨_, rfl⟩⟩

theorem absorb_ordered {c : Carry} (d : Item) (ordered : c.ordered) (range : c.levels.l4.litres ≤ 4000000000000) :
    (c.absorb d).1.ordered := by
  obtain ⟨items, e | ⟨n, e⟩⟩ := absorb_cases c d
  · rw [e]; exact ordered
  · rw [e]; exact apply_ordered _ _ _ ordered range

/-- Settles O36: a merge and an adoption end with the enforcement, an absorb applies one amount. -/
theorem levelsStayInOrder : Obligations.LevelsStayInOrder :=
  fun c x m level hours d => ⟨merge_ordered c x, adopt_ordered c m level hours, absorb_ordered d⟩

/-- A listed item once another report has come: its own delivery's is taken, another's is not (R72). -/
def Item.takeReport (i d : Item) : Item := if Item.is d.origin d.seq i then i.report d else i

theorem takeReport_is (i d : Item) : Item.is d.origin d.seq (i.takeReport d) = Item.is d.origin d.seq i := by
  unfold Item.takeReport
  split <;> rfl

/-- The carry holds all that a report of the delivery brings: an item of its own lists no less, and the
report changes none of the items listed for it. -/
structure Absorbed (c : Carry) (d : Item) : Prop where
  listed : ∃ i, c.list.find? (Item.is d.origin d.seq) = some i ∧ d.net ≤ i.net
  settled : ∀ i ∈ c.list, Item.is d.origin d.seq i = true → i.report d = i

theorem absorb_of_absorbed {c : Carry} {d : Item} (absorbed : Absorbed c d) : (c.absorb d).1 = c := by
  obtain ⟨⟨i, found, less⟩, settled⟩ := absorbed
  have same : c.list.map (fun j => j.takeReport d) = c.list := by
    refine (List.map_congr_left fun j mem => ?_).trans (List.map_id _)
    unfold Item.takeReport
    split
    · exact settled j mem (by assumption)
    · rfl
  unfold Item.takeReport at same
  unfold Carry.absorb
  rw [found]
  dsimp only
  rw [if_neg (Nat.not_lt.2 less), same]

theorem report_report (i d : Item) : (i.report d).report d = i.report d := by
  have stays : ¬((i.report d).net < d.net ∨ (d.final = true ∧ (i.report d).final = false)) := by
    simp only [Item.report, Bool.or_eq_false_iff]
    rintro (less | ⟨final, -, open_⟩)
    · omega
    · rw [final] at open_; cases open_
  unfold Item.report at stays ⊢
  rw [if_neg stays]
  simp

theorem report_self (d : Item) : d.report d = d := by
  unfold Item.report
  simp

theorem mem_insertItem {i d : Item} {items : List Item} : i ∈ insertItem d items ↔ i = d ∨ i ∈ items := by
  induction items with
  | nil => simp [insertItem]
  | cons j rest ih =>
    unfold insertItem
    split
    · simp
    · simp only [List.mem_cons, ih]
      tauto

/-- An item listed anew is the only one of its delivery. -/
theorem absorbed_of_inserted {c : Carry} {d : Item} {items : List Item} (list : c.list = insertItem d items)
    (new : ∀ i ∈ items, Item.is d.origin d.seq i = false) : Absorbed c d := by
  have own : Item.is d.origin d.seq d = true := by simp [Item.is]
  have only {i : Item} (mem : i ∈ c.list) (is : Item.is d.origin d.seq i = true) : i = d := by
    rw [list] at mem
    obtain rfl | mem := mem_insertItem.1 mem
    · rfl
    · rw [new i mem] at is; cases is
  refine ⟨?_, fun i mem is => by rw [only mem is, report_self]⟩
  cases found : c.list.find? (Item.is d.origin d.seq) with
  | none =>
    have away := List.find?_eq_none.1 found d (list ▸ mem_insertItem.2 (.inl rfl))
    exact absurd own away
  | some i => exact ⟨i, rfl, by rw [only (List.mem_of_find?_eq_some found) (List.find?_some found)]⟩

/-- A delivery reported again is absorbed once its item has taken the report. -/
theorem absorbed_of_reported {c x : Carry} {d i : Item} (found : c.list.find? (Item.is d.origin d.seq) = some i)
    (list : x.list = c.list.map fun j => j.takeReport d) : Absorbed x d := by
  have own {j : Item} (is : Item.is d.origin d.seq j = true) : j.takeReport d = j.report d := if_pos is
  constructor
  · have same : (Item.is d.origin d.seq ∘ fun j => j.takeReport d) = Item.is d.origin d.seq :=
      funext fun j => takeReport_is j d
    refine ⟨i.report d, ?_, Nat.le_max_right _ _⟩
    rw [list, List.find?_map, same, found, Option.map_some, own (List.find?_some found)]
  · intro j mem is
    rw [list] at mem
    obtain ⟨k, -, rfl⟩ := List.mem_map.1 mem
    rw [takeReport_is] at is
    rw [own is, report_report]

/-- An absorb turns the delivery away as too old, or all of it is then absorbed. -/
theorem absorb_absorbs (c : Carry) (d : Item) : (c.absorb d).1 = c ∨ Absorbed (c.absorb d).1 d := by
  unfold Carry.absorb
  split
  · rename_i i found
    refine .inr (absorbed_of_reported found ?_)
    dsimp only
    split <;> rfl
  · rename_i absent
    have new : ∀ i ∈ c.list, Item.is d.origin d.seq i = false := by
      simpa using absent
    split
    · split
      · split
        · exact .inl rfl
        · exact .inr (absorbed_of_inserted rfl fun i mem => new i (List.mem_of_mem_dropLast mem))
      · exact .inl rfl
    · exact .inr (absorbed_of_inserted rfl new)

theorem absorb_absorb (c : Carry) (d : Item) : ((c.absorb d).1.absorb d).1 = (c.absorb d).1 := by
  obtain same | absorbed := absorb_absorbs c d
  · rw [same, same]
  · exact absorb_of_absorbed absorbed

/-- Settles O35: after an absorb nothing more of the delivery is outstanding, and the amounts case by case. -/
theorem absorbCountsOnce : Obligations.AbsorbCountsOnce := by
  refine ⟨absorb_absorb, fun c shift stop a => ⟨?_, ?_, ?_, ?_, fun l m mark => apply_of_marked a mark,
    rfl, rfl, rfl, rfl, rfl, apply_ordered shift stop a⟩⟩
  · rintro rfl
    exact ⟨if_neg (Nat.lt_irrefl _), if_pos rfl⟩
  · intro later
    exact ⟨if_pos later, (if_neg (Nat.ne_of_gt later)).trans (if_pos later)⟩
  · intro earlier
    have notLater : ¬c.shift < shift := Nat.lt_asymm earlier
    exact ⟨if_neg notLater, (if_neg (Nat.ne_of_lt earlier)).trans (if_neg notLater)⟩
  · rintro l (none | ⟨m, mark, later⟩)
    · exact apply_of_takes a fun k e => by rw [none] at e; cases e
    · exact apply_of_takes a fun k e => by rw [mark] at e; cases e; exact later

end Sys2Proof.Machine

namespace Sys2Proof.Machine

/-! ### A record frame accepted by the window (R123, R131, R134, R135) -/

/-- A frame of kind `k` of another station comes whole where one can begin, in LISTEN or RUN, passes its checks and is
accepted by the window. -/
structure AcceptedFrame (s : State) (k : Kind) (gap : Bool) (frame : List Byte) (f : SiteFrame) : Prop where
  listening : s.listening = true
  begins : s.frameCanBegin gap
  passes : siteFrame k frame = some f
  foreign : f.origin ≠ s.cfg.station
  window : ∃ p, ((s.line.hear f s.elapsed).peer f.origin).bind (fun q => q.window f.seq) = some p

/-- The state as the owners of a record find it: the line unit and the notice port alone have moved, and site time
has not. -/
structure BeforeDispatch (s u : State) : Prop where
  only : Only [.line, .notice] s u
  siteTime : u.line.siteTime = s.line.siteTime

/-- Where a frame can begin, the receiver's own move before its bytes changes the line unit alone, and leaves a
receiver that takes the frame. -/
theorem gap_before_frame {s : State} {gap : Bool} (receiving : s.receiving = true) (begins : s.frameCanBegin gap) :
    ∃ w : State, (if gap then s.gapPassed else s) = w ∧ Only [.line] s w ∧ w.line.skipping = false ∧
      w.line.receiveBuffer = [] ∧ w.line.peers = s.line.peers ∧ w.line.siteTime = s.line.siteTime := by
  cases gap with
  | true =>
    have line := gapPassed_line receiving
    exact ⟨s.gapPassed, rfl, gapPassed_only s, by rw [line], by rw [line], by rw [line], by rw [line]⟩
  | false =>
    obtain ⟨skips, empty⟩ := begins.2.resolve_left nofun
    exact ⟨s, rfl, .refl _ _, skips, empty, rfl, rfl⟩

theorem hear_peer_of_peers {l l' : SiteLine} (same : l'.peers = l.peers) (f : SiteFrame) (now station : Nat) :
    (l'.hear f now).peer station = (l.hear f now).peer station := by
  simp only [SiteLine.hear, SiteLine.changePeer, SiteLine.peer, same]

/-- The peer table and the monitor stream once a record's entry `p` has accepted it (R132 to R134, R187). -/
def State.recordAccepted (s : State) (f : SiteFrame) (p : Peer) : State :=
  (s.setLine ((s.line.hear f s.elapsed).changePeer f.origin fun _ => p)).heardItem f

theorem recordAccepted_before (s : State) (f : SiteFrame) (p : Peer) : BeforeDispatch s (s.recordAccepted f p) :=
  ⟨(setLine_only _ _).next (heardItem_only _ _), by rw [State.recordAccepted, (heardItem_only _ _).line_eq]; rfl⟩

theorem takeRecordFrame_accepted {s : State} {f : SiteFrame} {p : Peer}
    (window : ((s.line.hear f s.elapsed).peer f.origin).bind (fun q => q.window f.seq) = some p) :
    s.takeRecordFrame f = ((s.recordAccepted f p).dispatch f).trySend := by
  unfold State.takeRecordFrame
  dsimp only [State.setLine_line]
  rw [window]
  rfl

/-- An accepted record is dispatched, and then the sender looks for a frame to send (R126, R135). -/
theorem receive_accepted {s : State} {k : Kind} {gap : Bool} {frame : List Byte} {f : SiteFrame}
    (accepted : AcceptedFrame s k gap frame f) (record : k ≠ .beacon) :
    ∃ u, s.receive k ⟨gap, frame⟩ = (u.dispatch f).trySend ∧ BeforeDispatch s u := by
  obtain ⟨listening, begins, passes, foreign, p, window⟩ := accepted
  have receiving : s.receiving = true := by
    unfold State.receiving
    rw [listening]
    rfl
  have hearing : s.hearing = true := by
    unfold State.hearing
    rw [receiving, bne_iff_ne.2 begins.1]
    rfl
  obtain ⟨w, gapped, moved, skips, empty, peers, time⟩ := gap_before_frame receiving begins
  have moved' : Only [.line] s (w.setReceiver [] true) := moved.trans (setReceiver_only _ _ _)
  have listening' : (w.setReceiver [] true).listening = true := by
    rw [State.listening, moved'.start_eq]
    exact listening
  have kind : f.kind ≠ .beacon := siteFrame_kind passes ▸ record
  obtain ⟨only, time'⟩ := recordAccepted_before (w.setReceiver [] true) f p
  refine ⟨(w.setReceiver [] true).recordAccepted f p, ?_, moved'.next only, time'.trans time⟩
  calc s.receive k ⟨gap, frame⟩
    _ = w.hearRun frame fun s frame => (siteFrame k frame).map (s.handOver k) := by
      unfold State.receive State.hearBytes
      rw [if_pos hearing]
      dsimp only
      rw [gapped]
    _ = (w.setReceiver [] true).handOver k f := hearRun_passing passes skips empty
    _ = (w.setReceiver [] true).takeRecordFrame f := by
      unfold State.handOver State.takeFrame
      rw [if_pos listening', moved'.cfg_eq, if_neg foreign, if_neg kind]
    _ = (((w.setReceiver [] true).recordAccepted f p).dispatch f).trySend := takeRecordFrame_accepted (by
      rw [moved'.elapsed_eq, ← window]
      exact congrArg (Option.bind · _) (hear_peer_of_peers peers _ _ _))

/-! ### Dispatch (R80, R135) -/

section
variable {s : State} {f : SiteFrame}

theorem dispatch_issue (kind : f.kind = .issue) :
    s.dispatch f = s.takeIssue f.origin (decodeIssue f.epoch f.seq f.content) := by
  unfold State.dispatch
  rw [kind]

theorem dispatch_unauthorised (kind : f.kind = .service ∨ f.kind = .vehicleNotice ∨ f.kind = .classNotice)
    (off : s.cfg.authority.contains f.origin = false) : s.dispatch f = s.countUnauthorised := by
  have ignored (g : State → State) : s.ifAuthorised f.origin g = s.countUnauthorised := by
    unfold State.ifAuthorised State.authorised
    rw [off]
    exact if_neg nofun
  unfold State.dispatch
  obtain kind | kind | kind := kind <;> rw [kind] <;> exact ignored _

theorem ifAuthorised_of_authority (on : s.cfg.authority.contains f.origin = true) (g : State → State) :
    s.ifAuthorised f.origin g = g s := if_pos on

theorem dispatch_service (kind : f.kind = .service) (on : s.cfg.authority.contains f.origin = true) :
    s.dispatch f = s.takeService f.origin f.epoch f.seq (decodeService f.content) := by
  unfold State.dispatch
  rw [kind]
  exact ifAuthorised_of_authority on _

theorem dispatch_vehicleNotice (kind : f.kind = .vehicleNotice) (on : s.cfg.authority.contains f.origin = true) :
    s.dispatch f = s.takeVehicleNotice f.origin (decodeVehicleNotice f.content) := by
  unfold State.dispatch
  rw [kind]
  exact ifAuthorised_of_authority on _

theorem dispatch_classNotice (kind : f.kind = .classNotice) (on : s.cfg.authority.contains f.origin = true) :
    s.dispatch f = s.takeClassNotice f.origin (decodeClassNotice f.content) := by
  unfold State.dispatch
  rw [kind]
  exact ifAuthorised_of_authority on _

end

/-- An accepted frame can change what its record changes, the line unit and the notice port. -/
theorem dispatched_only {s u t : State} {bs : List Block} (before : BeforeDispatch s u) (record : Only bs u t)
    {cs : List Block} (m : ∀ b ∈ bs, b ∈ cs := by decide) (m' : ∀ b ∈ [Block.line, .notice], b ∈ cs := by decide) :
    Only cs s t.trySend :=
  (Only.next before.only record m' m).trans
    ((trySend_only _).mono fun b mem => m' b (by rw [List.mem_singleton.1 mem]; decide))

/-- Settles O41: the dispatch of such a record only counts. -/
theorem unauthorisedRecordsAreIgnored : Obligations.UnauthorisedRecordsAreIgnored := by
  intro k gap frame s f p c command listening begins passes foreign off window
  have record : k = .service ∨ k = .vehicleNotice ∨ k = .classNotice :=
    command.imp And.left (Or.imp And.left And.left)
  have heard : exec c s = .next (s.receive k ⟨gap, frame⟩) := by
    obtain ⟨rfl, rfl⟩ | ⟨rfl, rfl⟩ | ⟨rfl, rfl⟩ := command <;> rfl
  obtain ⟨u, received, before⟩ := receive_accepted ⟨listening, begins, passes, foreign, p, window⟩
    (by rintro rfl; simp at record)
  rw [dispatch_unauthorised (siteFrame_kind passes ▸ record) (by rw [before.only.cfg_eq]; exact off)] at received
  refine ⟨_, heard.trans (congrArg _ received), ?_, dispatched_only before (countUnauthorised_only u)⟩
  rw [(trySend_only _).fleet_eq, ← before.only.fleet_eq]
  rfl

/-! ### An entry that takes a record (R71, R84, R85) -/

/-- The vehicle's entry becomes `e`, `n` more records are counted late, and nothing else of the fleet table changes. -/
structure EntryTaken (s t : State) (v : Nat) (e : FleetEntry) (n : Nat) : Prop where
  entry : t.entry v = some e
  others : ∀ w, w ≠ v → t.entry w = s.entry w
  late : t.fleet.late = min 65535 (s.fleet.late + n)
  notApplied : t.fleet.notApplied = s.fleet.notApplied
  unauthorised : t.fleet.unauthorised = s.fleet.unauthorised

theorem EntryTaken.of_fleet {s s' t t' : State} {v n : Nat} {e : FleetEntry} (taken : EntryTaken s t v e n)
    (before : s.fleet = s'.fleet) (after : t'.fleet = t.fleet) : EntryTaken s' t' v e n := by
  obtain ⟨entry, others, late, notApplied, unauthorised⟩ := taken
  exact ⟨(entry_of_fleet after v).trans entry,
    fun w away => (entry_of_fleet after w).trans ((others w away).trans (entry_of_fleet before w)),
    by rw [after, late, before], by rw [after, notApplied, before], by rw [after, unauthorised, before]⟩

/-- An entry as a change leaves it: touched now where anything of it has changed (R71). -/
def FleetEntry.touchedIfChanged (e e' : FleetEntry) (now : Nat) : FleetEntry :=
  if e' = e then e else { e' with touched := now }

theorem touchedIfChanged_vehicle {e e' : FleetEntry} (same : e'.vehicle = e.vehicle) (now : Nat) :
    (e.touchedIfChanged e' now).vehicle = e.vehicle := by
  unfold FleetEntry.touchedIfChanged
  split
  · rfl
  · exact same

theorem changeEntry_taken {s : State} {v : Nat} {f : FleetEntry → FleetEntry × Nat} {e : FleetEntry}
    (found : s.entry v = some e) (same : (f e).1.vehicle = e.vehicle) :
    EntryTaken s (s.changeEntry v f) v (e.touchedIfChanged (f e).1 s.line.siteTime) (f e).2 := by
  have vehicle : (e.touchedIfChanged (f e).1 s.line.siteTime).vehicle = v :=
    (touchedIfChanged_vehicle same _).trans (entry_vehicle found)
  have set : EntryTaken s ((s.setEntry (e.touchedIfChanged (f e).1 s.line.siteTime)).countLate (f e).2) v
      (e.touchedIfChanged (f e).1 s.line.siteTime) (f e).2 :=
    ⟨entry_setEntry_self found vehicle, fun w away => entry_setEntry_other (by rw [vehicle]; exact away.symm),
      rfl, rfl, rfl⟩
  refine set.of_fleet rfl ?_
  unfold State.changeEntry
  rw [found]
  exact (reportOther_only _ _ _).fleet_eq

theorem findOrMake_found {s : State} {v : Nat} {e : FleetEntry} (found : s.entry v = some e) (src : EntrySource)
    (cls : Option Nat) : s.findOrMake v src cls = some s := by
  unfold State.findOrMake
  rw [found]

theorem takeIssue_found {s : State} {r : IssueRecord} {e : FleetEntry} (found : s.entry r.vehicle = some e)
    (origin : Nat) : s.takeIssue origin r = s.changeEntry r.vehicle fun e => e.takeIssue origin r := by
  unfold State.takeIssue
  rw [findOrMake_found found]

/-- An entry that adopts a SERVICE record (R116 to R119). -/
def FleetEntry.takeService (e : FleetEntry) (origin epoch seq : Nat) (r : ServiceRecord) : FleetEntry :=
  { e with carry := e.carry.adopt ⟨r.time, origin, epoch, seq⟩ r.level r.hours }

theorem takeService_found {s : State} {r : ServiceRecord} {e : FleetEntry} (range : r.inRange = true)
    (found : s.entry r.vehicle = some e) (origin epoch seq : Nat) :
    s.takeService origin epoch seq r = s.changeEntry r.vehicle fun e => (e.takeService origin epoch seq r, 0) := by
  unfold State.takeService
  rw [if_pos range, findOrMake_found found]
  rfl

theorem takeVehicleNotice_found {s : State} {n : VehicleNotice} {e : FleetEntry} (range : n.inRange = true)
    (found : s.entry n.vehicle = some e) (origin : Nat) :
    s.takeVehicleNotice origin n = s.changeEntry n.vehicle fun e => (e.takeNotice ⟨n.stamp, origin⟩ n, 0) := by
  unfold State.takeVehicleNotice
  rw [if_pos range, findOrMake_found found]

/-- An accepted frame whose dispatch changes the vehicle's entry does so from the entry as it stood at the frame. -/
theorem accepted_taken {s : State} {k : Kind} {gap : Bool} {frame : List Byte} {f : SiteFrame} {v : Nat}
    {e : FleetEntry} {change : FleetEntry → FleetEntry × Nat} (accepted : AcceptedFrame s k gap frame f)
    (record : k ≠ .beacon) (found : s.entry v = some e) (same : (change e).1.vehicle = e.vehicle)
    (dispatched : ∀ u : State, u.cfg = s.cfg → u.entry v = some e → u.dispatch f = u.changeEntry v change) :
    EntryTaken s (s.receive k ⟨gap, frame⟩) v (e.touchedIfChanged (change e).1 s.line.siteTime) (change e).2 := by
  obtain ⟨u, received, before⟩ := receive_accepted accepted record
  have fleet := before.only.fleet_eq
  have found' : u.entry v = some e := (entry_of_fleet fleet v).trans found
  rw [received, dispatched u before.only.cfg_eq found', ← before.siteTime]
  exact (changeEntry_taken found' same).of_fleet fleet (trySend_only _).fleet_eq

/-- Settles O40: the dispatch of an ISSUE record changes its vehicle's entry by the absorb and the merge. -/
theorem heardIssueIsAbsorbed : Obligations.HeardIssueIsAbsorbed := by
  rintro gap frame s f p e e1 e2 r c1 listening begins passes foreign window rfl found rfl rfl rfl
  have kind := siteFrame_kind passes
  obtain ⟨entry, others, late, notApplied, unauthorised⟩ := accepted_taken
    (change := fun e => e.takeIssue f.origin (decodeIssue f.epoch f.seq f.content))
    ⟨listening, begins, passes, foreign, p, window⟩ nofun found rfl
    fun u _ found => (dispatch_issue kind).trans (takeIssue_found found _)
  exact ⟨_, rfl, entry, others, late, notApplied, unauthorised, exec_only rfl⟩

end Sys2Proof.Machine

namespace Sys2Proof.Machine

/-! ### The stamped-write test (R79) -/

theorem newerThan_iff {st : Stamp} {held : Option Stamp} : st.newerThan held = true ↔ StampBeats st held := by
  cases held with
  | none => exact iff_of_true rfl nofun
  | some o => simp [Stamp.newerThan, Stamp.newer, StampBeats, @eq_comm Nat st.time]

theorem test_passes {masked : Bool} {st : Stamp} {held : Option Stamp} (names : masked = true)
    (beats : StampBeats st held) : (masked && st.newerThan held) = true := by
  rw [names, newerThan_iff.2 beats]
  rfl

theorem test_fails {masked : Bool} {st : Stamp} {held : Option Stamp} (stands : masked = false ∨ ¬StampBeats st held) :
    ¬(masked && st.newerThan held) = true := by
  rw [Bool.and_eq_true, newerThan_iff]
  rintro ⟨names, beats⟩
  obtain off | loses := stands
  · rw [off] at names; cases names
  · exact loses beats

theorem Override.write_of_beats {α : Type} {o : Override α} {masked : Bool} {st : Stamp} (v : Option α)
    (names : masked = true) (beats : StampBeats st o.stamp) : o.write masked st v = ⟨v, some st⟩ :=
  if_pos (test_passes names beats)

theorem Override.write_stands {α : Type} {o : Override α} {masked : Bool} {st : Stamp} (v : Option α)
    (stands : masked = false ∨ ¬StampBeats st o.stamp) : o.write masked st v = o := if_neg (test_fails stands)

theorem Stamped.write_of_beats {α : Type} {o : Stamped α} {masked : Bool} {st : Stamp} (v : α)
    (names : masked = true) (beats : StampBeats st o.stamp) : o.write masked st v = ⟨v, some st⟩ :=
  if_pos (test_passes names beats)

theorem Stamped.write_stands {α : Type} {o : Stamped α} {masked : Bool} {st : Stamp} (v : α)
    (stands : masked = false ∨ ¬StampBeats st o.stamp) : o.write masked st v = o := if_neg (test_fails stands)

/-! ### The adoption of a service (R117) -/

theorem listSumAfter_eq (t : Nat) (items : List Item) :
    listSumAfter t items = min 4000000000000 ((items.filter fun i => decide (t < i.stop)).map Item.net).sum := by
  have summed (n : Nat) : items.foldl (fun n i => if t < i.stop then n + i.net else n) n =
      n + ((items.filter fun i => decide (t < i.stop)).map Item.net).sum := by
    induction items generalizing n with
    | nil => rfl
    | cons i rest ih =>
      rw [List.foldl_cons, ih]
      by_cases later : t < i.stop
      · simp [later, Nat.add_assoc]
      · simp [later]
  unfold listSumAfter
  rw [summed, Nat.zero_add]
  rfl

theorem markNewer_some_iff {m : Mark} {held : Option Mark} : markNewer (some m) held = true ↔
    ∀ k, held = some k → k.time < m.time ∨ (k.time = m.time ∧ (k.origin < m.origin ∨
      (k.origin = m.origin ∧ (k.epoch < m.epoch ∨ (k.epoch = m.epoch ∧ k.seq < m.seq))))) := by
  cases held with
  | none => exact iff_of_true rfl nofun
  | some k => simp [markNewer, Mark.newer, @eq_comm Nat m.time, @eq_comm Nat m.origin, @eq_comm Nat m.epoch]

/-- A service record reaches a level up to its own whose mark is older (R117). -/
def Level.adoptUpTo (m : Mark) (level hours sum j : Nat) (l : Level) : Level :=
  if j ≤ level then l.adopt m hours sum else l

theorem adoptUpTo_takes {m : Mark} {level j : Nat} {l : Level} (hours sum : Nat) (reached : j ≤ level)
    (older : ∀ k, l.mark = some k → k.time < m.time ∨ (k.time = m.time ∧ (k.origin < m.origin ∨
      (k.origin = m.origin ∧ (k.epoch < m.epoch ∨ (k.epoch = m.epoch ∧ k.seq < m.seq)))))) :
    l.adoptUpTo m level hours sum j = ⟨some m, hours, sum⟩ :=
  (if_pos reached).trans (if_pos (markNewer_some_iff.2 older))

theorem adoptUpTo_stands {m : Mark} {level j : Nat} {l : Level} (hours sum : Nat)
    (stands : level < j ∨ ∃ k, l.mark = some k ∧ (m.time < k.time ∨ (k.time = m.time ∧ (m.origin < k.origin ∨
      (k.origin = m.origin ∧ (m.epoch < k.epoch ∨ (k.epoch = m.epoch ∧ m.seq ≤ k.seq))))))) :
    l.adoptUpTo m level hours sum j = l := by
  unfold Level.adoptUpTo
  split
  · rename_i reached
    obtain above | ⟨k, mark, newer⟩ := stands
    · omega
    · refine if_neg fun older => ?_
      have := markNewer_some_iff.1 older k mark
      omega
  · rfl

theorem adopt_levels (c : Carry) (m : Mark) (level hours : Nat) : (c.adopt m level hours).levels = enforceLevels
    ⟨c.levels.l1.adoptUpTo m level hours (listSumAfter m.time c.list) 1,
      c.levels.l2.adoptUpTo m level hours (listSumAfter m.time c.list) 2,
      c.levels.l3.adoptUpTo m level hours (listSumAfter m.time c.list) 3,
      c.levels.l4.adoptUpTo m level hours (listSumAfter m.time c.list) 4⟩ := rfl

/-- Settles O42: the change of the entry, the notice field by field, and the adoption level by level. -/
theorem heardNoticeAndServiceAreTaken : Obligations.HeardNoticeAndServiceAreTaken := by
  refine ⟨?_, ?_, ?_⟩
  · rintro gap frame s f p e e1 e2 c v listening begins foreign on window found command rfl
    have accepted {k : Kind} (passes : siteFrame k frame = some f) : AcceptedFrame s k gap frame f :=
      ⟨listening, begins, passes, foreign, p, window⟩
    have taken : ∃ t, exec c s = .next t ∧ EntryTaken s t v (e.touchedIfChanged e1 s.line.siteTime) 0 := by
      obtain ⟨n, passes, rfl, rfl, range, rfl, rfl⟩ | ⟨r, passes, rfl, rfl, range, rfl, rfl⟩ := command
      · exact ⟨_, rfl, accepted_taken (accepted passes) nofun found
          (change := fun e => (e.takeNotice ⟨(decodeVehicleNotice f.content).stamp, f.origin⟩
            (decodeVehicleNotice f.content), 0)) rfl
          fun u cfg found => (dispatch_vehicleNotice (siteFrame_kind passes) (by rw [cfg]; exact on)).trans
            (takeVehicleNotice_found range found _)⟩
      · exact ⟨_, rfl, accepted_taken (accepted passes) nofun found
          (change := fun e => (e.takeService f.origin f.epoch f.seq (decodeService f.content), 0)) rfl
          fun u cfg found => (dispatch_service (siteFrame_kind passes) (by rw [cfg]; exact on)).trans
            (takeService_found range found _ _ _)⟩
    obtain ⟨t, next, entry, others, -, notApplied, unauthorised⟩ := taken
    exact ⟨t, next, entry, others, notApplied, unauthorised, exec_only next⟩
  · rintro e x st n rfl
    refine ⟨Override.write_of_beats _, Override.write_stands _, fun names beats => ?_, fun stands => ?_,
      Override.write_of_beats _, Override.write_stands _, Override.write_of_beats _, Override.write_stands _,
      rfl, rfl, rfl, rfl, rfl, rfl⟩
    · exact if_pos (test_passes names beats)
    · exact if_neg (test_fails stands)
  · rintro c x m level hours sum rfl rfl
    rw [← listSumAfter_eq]
    refine ⟨_, _, _, _, adopt_levels c m level hours, fun j old new held => ?_⟩
    simp only [List.mem_cons, Prod.mk.injEq, List.not_mem_nil, or_false] at held
    obtain ⟨rfl, rfl, rfl⟩ | ⟨rfl, rfl, rfl⟩ | ⟨rfl, rfl, rfl⟩ | ⟨rfl, rfl, rfl⟩ := held <;>
      exact ⟨adoptUpTo_takes _ _, adoptUpTo_stands _ _⟩

end Sys2Proof.Machine

namespace Sys2Proof.Machine

/-! ### A plan write passed to the journal unit (R83, R150) -/

section
variable {s : State} {k : Nat} {r : ClassRecord}

theorem serveNext_records (s : State) : s.serveNext.classes.records = s.classes.records := by
  unfold State.serveNext
  dsimp only
  split
  · split <;> rfl
  · rfl

theorem requestPlan_records (s : State) (k : Nat) (r : ClassRecord) :
    (s.requestPlan k r).classes.records = s.classes.records := by
  unfold State.requestPlan
  split
  · rfl
  · exact serveNext_records _

theorem anyPlan_eq_false {queue : List MemOp} (absent : ∀ k r, MemOp.plan k r ∉ queue) :
    queue.any MemOp.isPlan = false := by
  rw [List.any_eq_false]
  intro op mem
  cases op with
  | plan k r => exact absurd mem (absent k r)
  | _ => exact Bool.false_ne_true

theorem serveNext_plan {rest : List MemOp} (free : s.journal.inService = none)
    (queue : s.journal.queue = .plan k r :: rest) (held : s.classes.heldPlans = []) :
    s.serveNext = s.setJournal (s.journal.served (.plan k r) rest s.elapsed) := by
  unfold State.serveNext
  dsimp only
  rw [free, queue]
  dsimp only
  rw [held]
  rfl

theorem requestPlan_serves (free : s.journal.inService = none) (queue : s.journal.queue = [])
    (held : s.classes.heldPlans = []) :
    s.requestPlan k r = s.setJournal (s.journal.served (.plan k r) [] s.elapsed) := by
  have alone : s.journal.queue ++ [MemOp.plan k r] = [.plan k r] := by rw [queue]; rfl
  have none : s.journal.queue.any MemOp.isPlan = false := by rw [queue]; rfl
  unfold State.requestPlan
  rw [none, if_neg nofun]
  exact serveNext_plan (s := s.setJournal { s.journal with queue := s.journal.queue ++ [.plan k r] }) free alone held

theorem requestPlan_queues (busy : s.journal.inService.isSome = true)
    (absent : ∀ k r, MemOp.plan k r ∉ s.journal.queue) :
    s.requestPlan k r = s.setJournal { s.journal with queue := s.journal.queue ++ [.plan k r] } := by
  unfold State.requestPlan
  rw [anyPlan_eq_false absent]
  exact pushOp_of_busy busy _

theorem requestPlan_waits (waits : ∃ k r, MemOp.plan k r ∈ s.journal.queue) :
    s.requestPlan k r = s.setClasses { s.classes with
      heldPlans := if s.classes.heldPlans.any (fun p => p.1 == k) then
          s.classes.heldPlans.map fun p => if p.1 == k then (k, r) else p
        else s.classes.heldPlans ++ [(k, r)] } := by
  obtain ⟨k', r', mem⟩ := waits
  exact if_pos (List.any_eq_true.2 ⟨_, mem, rfl⟩)

/-- A plan write of class `k` passed in `s` is served at once, queued, or held back while one waits (R150). -/
structure PlanPassed (s t : State) (k : Nat) (r : ClassRecord) : Prop where
  served : s.journal.inService = none → s.journal.queue = [] → s.classes.heldPlans = [] →
    t.journal = { s.journal with
      inService := some (.plan k r), ringWritten := false, opTimer := some (s.elapsed + 100) } ∧
    t.classes.heldPlans = []
  queued : s.journal.inService.isSome = true → (∀ k r, .plan k r ∉ s.journal.queue) →
    t.journal = { s.journal with queue := s.journal.queue ++ [.plan k r] } ∧
    t.classes.heldPlans = s.classes.heldPlans
  held : (∃ k r, .plan k r ∈ s.journal.queue) → t.journal = s.journal ∧
    ((∀ r', (k, r') ∉ s.classes.heldPlans) → t.classes.heldPlans = s.classes.heldPlans ++ [(k, r)]) ∧
    ((∃ r', (k, r') ∈ s.classes.heldPlans) →
      t.classes.heldPlans = s.classes.heldPlans.map fun p => if p.1 = k then (k, r) else p)

theorem requestPlan_passed (s : State) (k : Nat) (r : ClassRecord) : PlanPassed s (s.requestPlan k r) k r where
  served free queue held := by
    rw [requestPlan_serves free queue held, ← queue]
    exact ⟨rfl, held⟩
  queued busy absent := by
    rw [requestPlan_queues busy absent]
    exact ⟨rfl, rfl⟩
  held waits := by
    have holds : s.classes.heldPlans.any (fun p => p.1 == k) = true ↔ ∃ r', (k, r') ∈ s.classes.heldPlans := by simp
    rw [requestPlan_waits waits]
    refine ⟨rfl, fun absent => if_neg fun any => ?_, fun present => (if_pos (holds.2 present)).trans ?_⟩
    · obtain ⟨r', mem⟩ := holds.1 any
      exact absent r' mem
    · simp

theorem PlanPassed.of_eq {s s' t t' : State} (passed : PlanPassed s t k r) (journal : s'.journal = s.journal)
    (held : s'.classes.heldPlans = s.classes.heldPlans) (elapsed : s'.elapsed = s.elapsed)
    (journal' : t'.journal = t.journal) (held' : t'.classes.heldPlans = t.classes.heldPlans) :
    PlanPassed s' t' k r := by
  obtain ⟨served, queued, waits⟩ := passed
  rw [← journal, ← held, ← journal', ← held'] at served queued waits
  rw [← elapsed] at served
  exact ⟨served, queued, waits⟩

end

/-! ### A class report (R84, R97) -/

section
variable {s : State} {h : Side} {k : Nat}

/-- A class report at one hose: its entry examined where it is watched and its vehicle is of that class (R97). -/
def State.reportClassAt (k : Nat) (s : State) (h : Side) : State :=
  match s.reservation h with
  | none => s
  | some r =>
    match s.entry r.vehicle with
    | none => s
    | some e =>
      if r.watched && e.effectiveClass == some k then s.examine h e (e.carry.useAgainst r.shift) else s

theorem reportClass_eq (s : State) (k : Nat) : s.reportClass k = s.grantOrder.foldl (State.reportClassAt k) s := rfl

theorem reportClassAt_away (away : ∀ r e, s.reservation h = some r → r.watched = true →
    s.entry r.vehicle = some e → e.effectiveClass ≠ some k) : s.reportClassAt k h = s := by
  unfold State.reportClassAt
  split
  · rfl
  · rename_i r reserved
    split
    · rfl
    · rename_i e found
      refine if_neg ?_
      rw [Bool.and_eq_true, beq_iff_eq]
      exact fun ⟨watched, cls⟩ => away r e reserved watched found cls

theorem reportClassAt_watched {r : Reservation} {e : FleetEntry} (reserved : s.reservation h = some r)
    (watched : r.watched = true) (found : s.entry r.vehicle = some e) (cls : e.effectiveClass = some k) :
    s.reportClassAt k h = s.examine h e (e.carry.useAgainst r.shift) := by
  unfold State.reportClassAt
  rw [reserved]
  dsimp only
  rw [found]
  exact if_pos (by rw [watched, cls, beq_self_eq_true]; rfl)

theorem reportClass_away (away : ∀ h r e, s.reservation h = some r → r.watched = true →
    s.entry r.vehicle = some e → e.effectiveClass ≠ some k) : s.reportClass k = s :=
  List.foldl_fixed' (fun h => reportClassAt_away (away h)) _

theorem withDisturbed_otherKept (s : State) (h : Side) (r : Reservation) : OtherHoseKept h s (s.withDisturbed h r) := by
  unfold State.withDisturbed
  dsimp only
  split
  · exact setReservation_otherKept _ _ _
  · exact (setReservation_otherKept _ _ _).trans (setHose_otherKept _ _ _)

theorem reevaluate_otherKept (s : State) (h : Side) (r : Reservation) (n : Nat) :
    OtherHoseKept h s (s.reevaluate h r n) := by
  unfold State.reevaluate
  dsimp only
  split
  · split
    · exact endDelivery_otherKept _ _ _
    · split
      · exact .refl _ _
      · split
        · exact setTarget_otherKept _ _ _
        · exact (setTarget_otherKept _ _ _).trans (endDelivery_otherKept _ _ _)
  · exact .refl _ _

theorem examine_otherKept (s : State) (h : Side) (e : FleetEntry) (n : Nat) : OtherHoseKept h s (s.examine h e n) := by
  obtain ⟨-, eq⟩ | ⟨r, r', -, -, eq | ⟨m, eq⟩⟩ := examine_cases s h e n <;> rw [eq]
  · exact .refl _ _
  · exact setReservation_otherKept _ _ _
  · exact (withDisturbed_otherKept _ _ _).trans (reevaluate_otherKept _ _ _ _)

theorem grantOrder_of_alone (alone : s.reservation h.other = none) : s.grantOrder = [.one, .two] := by
  unfold State.grantOrder
  cases h with
  | one =>
    rw [show s.reservations.two = none from alone]
    cases s.reservations.one <;> rfl
  | two => rw [show s.reservations.one = none from alone]

/-- A class report where one hose alone has a reservation, and it is watched and of that class. -/
theorem reportClass_alone {r : Reservation} {e : FleetEntry} (reserved : s.reservation h = some r)
    (alone : s.reservation h.other = none) (watched : r.watched = true) (found : s.entry r.vehicle = some e)
    (cls : e.effectiveClass = some k) : s.reportClass k = s.examine h e (e.carry.useAgainst r.shift) := by
  obtain ⟨-, -, -, reservation⟩ := examine_otherKept s h e (e.carry.useAgainst r.shift)
  have here := reportClassAt_watched reserved watched found cls
  have unreserved {u : State} (free : u.reservation h.other = none) : u.reportClassAt k h.other = u :=
    reportClassAt_away fun r e taken => by rw [free] at taken; cases taken
  rw [reportClass_eq, grantOrder_of_alone alone, List.foldl_cons, List.foldl_cons, List.foldl_nil]
  cases h with
  | one =>
    rw [here]
    exact unreserved (reservation.trans alone)
  | two =>
    rw [show s.reportClassAt k .one = s from unreserved alone]
    exact here

/-- A hold newly in force disturbs the entry and ends its live delivery (R98, R100). -/
theorem examine_hold {r : Reservation} {e : FleetEntry} (reserved : s.reservation h = some r) (free : r.hold = false)
    (hold : holdInForce e.carry (s.classOf e) = true) (o : (s.hose h).state.open = true) (n : Nat) :
    ∃ u : State, s.examine h e n = u.endDelivery h .holdReceived ∧ (u.hose h).state.open = true ∧
      (u.hose h).delivery.isSome = (s.hose h).delivery.isSome := by
  have marked : s.examine h e n = (s.withDisturbed h (s.disturbedEntry r e n)).reevaluate h (s.disturbedEntry r e n)
      (e.carry.useAgainst r.shift) := by
    unfold State.examine
    rw [reserved]
    exact if_pos (by simp [Causes.any, hold, free])
  have view := withDisturbed_view_eq (s := s) (h := h) (r := s.disturbedEntry r e n) reserved rfl h
  have o' : ((s.withDisturbed h (s.disturbedEntry r e n)).hose h).state.open = true :=
    (congrArg (fun v : SideView => v.state.open) view).trans o
  refine ⟨s.withDisturbed h (s.disturbedEntry r e n), marked.trans ?_, o', ?_⟩
  · unfold State.reevaluate
    rw [if_pos o']
    exact if_pos hold
  · simpa [State.view] using congrArg (fun v : SideView => v.delivery.isSome) view

end

/-! ### A CLASS NOTICE (R82 to R84) -/

/-- A class record replaced in the class table. -/
def State.classWritten (s : State) (k : Nat) (r : ClassRecord) : State :=
  s.setClasses { s.classes with records := s.classes.records.set k r }

theorem classWritten_only (s : State) (k : Nat) (r : ClassRecord) : Only [.classes] s (s.classWritten k r) :=
  setClasses_only _ _

section
variable {s : State} {k : Nat} {r : ClassRecord}

theorem classRecord_of_records {t : State} (same : t.classes.records = s.classes.records) (k : Nat) :
    t.classRecord k = s.classRecord k := by
  unfold State.classRecord
  rw [same]

theorem classWritten_self (inside : k < s.classes.records.length) : (s.classWritten k r).classRecord k = r := by
  show (s.classes.records.set k r).getD k _ = r
  simp [inside]

theorem classWritten_other {j : Nat} (away : j ≠ k) : (s.classWritten k r).classRecord j = s.classRecord j := by
  show (s.classes.records.set k r).getD j _ = s.classes.records.getD j _
  simp [List.getElem?_set_ne away.symm]

end

section
variable {s : State} {origin : Nat} {n : ClassNotice} {new : ClassRecord}

theorem inRange_cls (range : n.inRange = true) : n.cls ≤ 7 := by
  unfold ClassNotice.inRange at range
  simp only [Bool.and_eq_true, decide_eq_true_eq] at range
  tauto

theorem takeClassNotice_outOfRange (range : n.inRange = false) : s.takeClassNotice origin n = s.countNotApplied :=
  if_neg (by rw [range]; nofun)

theorem takeClassNotice_stands (range : n.inRange = true)
    (same : (s.classRecord n.cls).takeNotice ⟨n.stamp, origin⟩ n = s.classRecord n.cls) :
    s.takeClassNotice origin n = s := (if_pos range).trans (if_pos same)

theorem takeClassNotice_writes (range : n.inRange = true)
    (taken : (s.classRecord n.cls).takeNotice ⟨n.stamp, origin⟩ n = new) (changed : new ≠ s.classRecord n.cls) :
    s.takeClassNotice origin n = (if new.values = (s.classRecord n.cls).values then s.classWritten n.cls new
      else (s.classWritten n.cls new).reportClass n.cls).requestPlan n.cls new := by
  subst taken
  exact (if_pos range).trans (if_neg changed)

/-- A notice that writes items and concerns no watched entry writes its record and passes its plan write. -/
theorem takeClassNotice_unwatched (range : n.inRange = true)
    (taken : (s.classRecord n.cls).takeNotice ⟨n.stamp, origin⟩ n = new) (changed : new ≠ s.classRecord n.cls)
    (away : ∀ h r e, s.reservation h = some r → r.watched = true → s.entry r.vehicle = some e →
      e.effectiveClass ≠ some n.cls) :
    s.takeClassNotice origin n = (s.classWritten n.cls new).requestPlan n.cls new := by
  rw [takeClassNotice_writes range taken changed,
    show (s.classWritten n.cls new).reportClass n.cls = s.classWritten n.cls new from reportClass_away away, ite_self]

/-- A class hold newly set ends the live delivery of the one reserved vehicle, where it is of that class. -/
theorem takeClassNotice_holds {h : Side} {r : Reservation} {e : FleetEntry} (range : n.inRange = true)
    (inside : n.cls < s.classes.records.length)
    (taken : (s.classRecord n.cls).takeNotice ⟨n.stamp, origin⟩ n = new) (set : new.hold.val = .set)
    (unset : (s.classRecord n.cls).hold.val ≠ .set) (reserved : s.reservation h = some r)
    (alone : s.reservation h.other = none) (watched : r.watched = true) (free : r.hold = false)
    (found : s.entry r.vehicle = some e) (cls : e.effectiveClass = some n.cls) (o : (s.hose h).state.open = true)
    (live : (s.hose h).delivery.isSome = true) :
    ((s.takeClassNotice origin n).hose h).state.open = false ∧
    ((s.takeClassNotice origin n).hose h).reason = some (.ended .holdReceived) ∧
    OtherHoseKept h s (s.takeClassNotice origin n) := by
  have values : new.values ≠ (s.classRecord n.cls).values := fun same =>
    unset ((congrArg (fun v => v.2.1) same).symm.trans set)
  have changed : new ≠ s.classRecord n.cls := fun same => values (congrArg _ same)
  have written := classWritten_only s n.cls new
  have inForce : holdInForce e.carry ((s.classWritten n.cls new).classOf e) = true := by
    have classOf : (s.classWritten n.cls new).classOf e = some new := by
      unfold State.classOf
      rw [cls, Option.map_some, classWritten_self inside]
    rw [classOf]
    simp [holdInForce, set, ClassHold.isSet]
  obtain ⟨u, ended, o', live'⟩ := examine_hold (s := s.classWritten n.cls new) reserved free inForce o
    (e.carry.useAgainst r.shift)
  obtain ⟨shut, reason, -, -⟩ := endDelivery_shuts (r := .holdReceived) o' (live'.trans live) nofun
  have kept := (written.otherKept h).trans
    (examine_otherKept (s.classWritten n.cls new) h e (e.carry.useAgainst r.shift))
  rw [takeClassNotice_writes range taken changed, if_neg values,
    reportClass_alone (s := s.classWritten n.cls new) reserved alone watched found cls]
  have plan := requestPlan_only ((s.classWritten n.cls new).examine h e (e.carry.useAgainst r.shift)) n.cls new
  refine ⟨?_, ?_, kept.next plan⟩
  · rw [plan.hose_eq, ended]; exact shut
  · rw [plan.hose_eq, ended]; exact reason

end

/-- The class records after a notice that writes items: the one it names is replaced. -/
theorem takeClassNotice_classRecord {s : State} {origin : Nat} {n : ClassNotice} {new : ClassRecord}
    (range : n.inRange = true) (inside : n.cls < s.classes.records.length)
    (taken : (s.classRecord n.cls).takeNotice ⟨n.stamp, origin⟩ n = new) (changed : new ≠ s.classRecord n.cls)
    (k : Nat) :
    (s.takeClassNotice origin n).classRecord k = if k = n.cls then new else s.classRecord k := by
  have reported : (if new.values = (s.classRecord n.cls).values then s.classWritten n.cls new
      else (s.classWritten n.cls new).reportClass n.cls).classes = (s.classWritten n.cls new).classes := by
    split
    · rfl
    · exact (reportClass_only _ _).classes_eq
  rw [takeClassNotice_writes range taken changed, classRecord_of_records (requestPlan_records _ _ _),
    classRecord_of_records (congrArg Classes.records reported)]
  split
  · subst k; exact classWritten_self inside
  · exact classWritten_other (by assumption)

/-- What an accepted CLASS NOTICE of an authority does: its own effect, between moves of the line unit and the
notice port. -/
theorem accepted_classNotice {s : State} {gap : Bool} {frame : List Byte} {f : SiteFrame}
    (accepted : AcceptedFrame s .classNotice gap frame f) (on : s.cfg.authority.contains f.origin = true) :
    ∃ u, s.receive .classNotice ⟨gap, frame⟩ = (u.takeClassNotice f.origin (decodeClassNotice f.content)).trySend ∧
      BeforeDispatch s u := by
  obtain ⟨u, received, before⟩ := receive_accepted accepted nofun
  refine ⟨u, received.trans ?_, before⟩
  rw [dispatch_classNotice (siteFrame_kind accepted.passes) (by rw [before.only.cfg_eq]; exact on)]

/-- An item named by the mask with a newer stamp takes the notice's value and stamp; else it stands (R79, R82). -/
theorem takeNotice_plan (c : ClassRecord) (st : Stamp) (n : ClassNotice) (i : Nat) (old new : Stamped Plan) (v : Plan)
    (item : (i, old, new, v) ∈ [(3, c.plans.l1, (c.takeNotice st n).plans.l1, n.plans.l1),
      (2, c.plans.l2, (c.takeNotice st n).plans.l2, n.plans.l2),
      (1, c.plans.l3, (c.takeNotice st n).plans.l3, n.plans.l3),
      (0, c.plans.l4, (c.takeNotice st n).plans.l4, n.plans.l4)]) :
    (n.mask.getLsbD i = true → StampBeats st old.stamp → new = ⟨v, some st⟩) ∧
      (n.mask.getLsbD i = false ∨ ¬StampBeats st old.stamp → new = old) := by
  simp only [List.mem_cons, Prod.mk.injEq, List.not_mem_nil, or_false] at item
  obtain ⟨rfl, rfl, rfl, rfl⟩ | ⟨rfl, rfl, rfl, rfl⟩ | ⟨rfl, rfl, rfl, rfl⟩ | ⟨rfl, rfl, rfl, rfl⟩ := item <;>
    exact ⟨Stamped.write_of_beats _, Stamped.write_stands _⟩

/-- A notice dispatched in `u` that writes items and concerns no watched entry: what stands of it after the frame. -/
theorem unwatchedNotice_taken {s u : State} {origin : Nat} {n : ClassNotice} {new : ClassRecord}
    (before : BeforeDispatch s u) (range : n.inRange = true) (inside : n.cls < u.classes.records.length)
    (taken : (u.classRecord n.cls).takeNotice ⟨n.stamp, origin⟩ n = new) (changed : new ≠ u.classRecord n.cls)
    (away : ∀ h r e, s.reservation h = some r → r.watched = true → s.entry r.vehicle = some e →
      e.effectiveClass ≠ some n.cls) :
    (∀ k, (u.takeClassNotice origin n).trySend.classRecord k = if k = n.cls then new else u.classRecord k) ∧
      PlanPassed s (u.takeClassNotice origin n).trySend n.cls new ∧
      Only [.line, .classes, .journal, .notice] s (u.takeClassNotice origin n).trySend := by
  have sent := trySend_only (u.takeClassNotice origin n)
  refine ⟨fun k => (classRecord_of_records (congrArg _ sent.classes_eq) k).trans
    (takeClassNotice_classRecord range inside taken changed k), ?_⟩
  have written := takeClassNotice_unwatched range taken changed fun h r e reserved watched found =>
    away h r e ((before.only.reservation_eq h).symm.trans reserved) watched
      ((entry_of_fleet before.only.fleet_eq _).symm.trans found)
  have held : s.classes.heldPlans = u.classes.heldPlans := by rw [before.only.classes_eq]
  rw [written] at sent ⊢
  exact ⟨(requestPlan_passed (u.classWritten n.cls new) n.cls new).of_eq before.only.journal_eq.symm
      held before.only.elapsed_eq.symm sent.journal_eq (congrArg _ sent.classes_eq),
    dispatched_only before ((classWritten_only u _ _).next (bs := [.classes, .journal]) (requestPlan_only _ _ _))⟩

/-- Settles O43: the notice's own effect by its cases, and the record item by item. -/
theorem classNoticeWritesClassRecord : Obligations.ClassNoticeWritesClassRecord := by
  refine ⟨?_, ?_⟩
  · rintro gap frame s f p n new listening begins passes foreign on window rfl taken
    obtain ⟨u, received, before⟩ := accepted_classNotice ⟨listening, begins, passes, foreign, p, window⟩ on
    have next : exec (.classNoticeFrame ⟨gap, frame⟩) s =
      .next (u.takeClassNotice f.origin (decodeClassNotice f.content)).trySend := congrArg _ received
    have classes := before.only.classes_eq
    have sameRecord (k : Nat) : u.classRecord k = s.classRecord k := classRecord_of_records (congrArg _ classes) k
    generalize decodeClassNotice f.content = n at *
    have inside (range : n.inRange = true) (eight : s.classes.records.length = 8) :
        n.cls < u.classes.records.length := by
      rw [classes, eight]
      exact Nat.lt_succ_of_le (inRange_cls range)
    have sent := trySend_only (u.takeClassNotice f.origin n)
    rw [← sameRecord] at taken
    simp only [← sameRecord]
    refine ⟨fun range => ⟨_, next, ?_, ?_⟩, fun range same => ⟨_, next, ?_⟩, fun range changed eight away => ?_,
      fun h r e d range eight masked hold beats unset reserved alone watched free found cls o live => ⟨_, next, ?_⟩⟩
    · rw [sent.fleet_eq, takeClassNotice_outOfRange range, ← before.only.fleet_eq]
      rfl
    · rw [takeClassNotice_outOfRange range]
      exact dispatched_only before (countNotApplied_only u)
    · rw [takeClassNotice_stands range (taken.symm.trans same)]
      exact dispatched_only before (Only.refl [] u)
    · obtain ⟨record, ⟨served, queued, held⟩, only⟩ :=
        unwatchedNotice_taken before range (inside range eight) taken.symm changed away
      exact ⟨_, next, (record _).trans (if_pos rfl), fun k other => (record k).trans (if_neg other), served, queued,
        held, only⟩
    · have written : new.hold = ⟨.set, some ⟨n.stamp, f.origin⟩⟩ := by
        rw [taken, ← show ClassHold.ofCode n.hold = .set from hold ▸ rfl]
        exact Stamped.write_of_beats _ masked beats
      have changed : new ≠ u.classRecord n.cls := fun same => unset (by rw [← same, written])
      obtain ⟨shut, reason, kept⟩ := takeClassNotice_holds (s := u) (h := h) range (inside range eight) taken.symm
        (congrArg Stamped.val written) unset ((before.only.reservation_eq h).trans reserved)
        ((before.only.reservation_eq _).trans alone) watched free
        ((entry_of_fleet before.only.fleet_eq _).trans found) cls
        (by rw [before.only.hose_eq]; exact o) (by rw [before.only.hose_eq, live]; rfl)
      refine ⟨?_, by rw [sent.hose_eq]; exact shut, by rw [sent.hose_eq]; exact reason,
        ((before.only.otherKept h).trans kept).next sent⟩
      rw [classRecord_of_records (congrArg _ sent.classes_eq),
        takeClassNotice_classRecord range (inside range eight) taken.symm changed, if_pos rfl]
      exact written
  · rintro c x st n rfl
    refine ⟨Stamped.write_of_beats _, Stamped.write_stands _, fun names beats => ?_, Stamped.write_stands _,
      Stamped.write_of_beats _, Stamped.write_stands _, Stamped.write_of_beats _, Stamped.write_stands _,
      takeNotice_plan c st n⟩
    have hold : (c.takeNotice st n).hold = ⟨ClassHold.ofCode n.hold, some st⟩ := Stamped.write_of_beats _ names beats
    rw [hold]
    exact ⟨rfl, fun code => by rw [code]; rfl, fun code => by rw [code]; rfl, fun code => by rw [code]; rfl⟩

end Sys2Proof.Machine

namespace Sys2Proof.Machine

/-! ### A relation carried through reports and tag exchanges -/

/-- A relation of states that composes and holds of every change that no side's view shows. -/
structure ViewRelation (R : State → State → Prop) : Prop where
  trans : ∀ {s t u}, R s t → R t u → R s u
  of_view_eq : ∀ {s t : State}, (∀ k, t.view k = s.view k) → R s t

section
variable {R : State → State → Prop} (rel : ViewRelation R)
include rel

theorem ViewRelation.refl (s : State) : R s s := rel.of_view_eq fun _ => rfl

theorem ViewRelation.only {s t : State} {bs : List Block} (e : Only bs s t) (m1 : Block.hoses ∉ bs := by decide)
    (m2 : Block.meters ∉ bs := by decide) (m3 : Block.reservations ∉ bs := by decide) : R s t :=
  rel.of_view_eq fun k => e.view_eq k m1 m2 m3

end

section
variable {R : State → State → Prop} (rel : ViewRelation R)
  (examined : ∀ (s : State) (h : Side) (e : FleetEntry) (n : Nat), R s (s.examine h e n))
include rel examined

theorem changeEntry_related (s : State) (v : Nat) (f : FleetEntry → FleetEntry × Nat) : R s (s.changeEntry v f) := by
  unfold State.changeEntry
  split
  · exact rel.refl _
  · exact rel.trans (rel.only ((setEntry_only _ _).trans (countLate_only _ _)))
      (reportOther_related rel.refl rel.trans examined _ _ _)

/-- An entry found or made, and then changed. -/
theorem madeChanged_related {s t : State} {v : Nat} {src : EntrySource} {c : Option Nat}
    (made : s.findOrMake v src c = some t) (f : FleetEntry → FleetEntry × Nat) : R s (t.changeEntry v f) :=
  rel.trans (rel.only (findOrMake_only made)) (changeEntry_related rel examined _ _ _)

theorem takeIssue_related (s : State) (o : Nat) (r : IssueRecord) : R s (s.takeIssue o r) := by
  unfold State.takeIssue
  split
  · exact rel.only (countNotApplied_only _)
  · exact madeChanged_related rel examined ‹_› _

theorem takeService_related (s : State) (o e q : Nat) (r : ServiceRecord) : R s (s.takeService o e q r) := by
  unfold State.takeService
  split
  · split
    · exact rel.only (countNotApplied_only _)
    · exact madeChanged_related rel examined ‹_› _
  · exact rel.only (countNotApplied_only _)

theorem takeVehicleNotice_related (s : State) (o : Nat) (n : VehicleNotice) : R s (s.takeVehicleNotice o n) := by
  unfold State.takeVehicleNotice
  split
  · split
    · exact rel.only (countNotApplied_only _)
    · exact madeChanged_related rel examined ‹_› _
  · exact rel.only (countNotApplied_only _)

theorem reportClass_related (s : State) (c : Nat) : R s (s.reportClass c) := by
  rw [reportClass_eq]
  refine foldSides_related rel.refl rel.trans (fun s h => ?_) _ _
  unfold State.reportClassAt
  split
  · exact rel.refl _
  · split
    · exact rel.refl _
    · split
      · exact examined _ _ _ _
      · exact rel.refl _

theorem takeClassNotice_related (s : State) (o : Nat) (n : ClassNotice) : R s (s.takeClassNotice o n) := by
  cases range : n.inRange with
  | false =>
    rw [takeClassNotice_outOfRange range]
    exact rel.only (countNotApplied_only _)
  | true =>
    by_cases changed : (s.classRecord n.cls).takeNotice ⟨n.stamp, o⟩ n = s.classRecord n.cls
    · rw [takeClassNotice_stands range changed]
      exact rel.refl _
    · rw [takeClassNotice_writes range rfl changed]
      refine rel.trans ?_ (rel.only (requestPlan_only _ _ _))
      split
      · exact rel.only (classWritten_only _ _ _)
      · exact rel.trans (rel.only (classWritten_only _ _ _)) (reportClass_related rel examined _ _)

omit examined in
theorem ifAuthorised_related (s : State) (o : Nat) {f : State → State} (applied : R s (f s)) :
    R s (s.ifAuthorised o f) := by
  unfold State.ifAuthorised
  split
  · exact applied
  · exact rel.only (countUnauthorised_only _)

theorem dispatch_related (s : State) (f : SiteFrame) : R s (s.dispatch f) := by
  unfold State.dispatch
  split
  · exact takeIssue_related rel examined _ _ _
  · exact ifAuthorised_related rel _ _ (takeService_related rel examined _ _ _ _ _)
  · exact ifAuthorised_related rel _ _ (takeVehicleNotice_related rel examined _ _ _)
  · exact ifAuthorised_related rel _ _ (takeClassNotice_related rel examined _ _ _)
  · exact rel.refl _

theorem takeFrame_related (s : State) (f : SiteFrame) : R s (s.takeFrame f) := by
  unfold State.takeFrame
  split
  · exact rel.only (takeOwnNumber_only _ _)
  · split
    · exact rel.only (((setLine_only _ _).next (bs := [.line, .notice]) (beaconItem_only _ _)).next
        (bs := [.line, .notice]) (trySend_only _))
    · unfold State.takeRecordFrame
      dsimp only
      have heard (u : SiteLine) : R s (s.setLine u) := rel.only (setLine_only _ _)
      split
      · exact rel.trans (heard _) (rel.only (trySend_only _))
      · exact rel.trans (heard _) (rel.trans (rel.only ((setLine_only _ _).next (bs := [.line, .notice])
          (heardItem_only _ _))) (rel.trans (dispatch_related rel examined _ _) (rel.only (trySend_only _))))

/-- What holds of every examination and of every change that no view shows holds of all that a frame of a record
brings (R84, R123, R135). -/
theorem receive_related (s : State) (k : Kind) (x : LineBytes) : R s (s.receive k x) := by
  refine hearBytes_related rel.refl rel.trans (fun _ _ _ => rel.only (setReceiver_only _ _ _))
    (fun _ => rel.only (countBadFrame_only _)) (fun u f t e => ?_) s x
  obtain ⟨f, -, rfl⟩ := Option.map_eq_some_iff.1 e
  unfold State.handOver
  split
  · exact takeFrame_related rel examined _ _
  · split
    · exact rel.only (setLine_only _ _)
    · exact rel.refl _

theorem applyOwn_related (s : State) (r : Record) : R s (s.applyOwn r) := by
  unfold State.applyOwn
  split
  · exact rel.refl _
  · exact takeService_related rel examined _ _ _ _ _
  · exact rel.trans (takeVehicleNotice_related rel examined _ _ _) (rel.only (countTurnedAway_only _ _))
  · exact rel.trans (takeClassNotice_related rel examined _ _ _) (rel.only (countTurnedAway_only _ _))

/-- The same of a completed append, given what becomes of a hose whose record it was (R22, R148). -/
theorem appendDone_related (recorded : ∀ (s : State) h, R s (s.hoseRecorded h)) (s : State) (src : AppendSource)
    (r : Record) : R s (s.appendDone src r) := by
  unfold State.appendDone
  refine rel.trans (rel.only ((ownItem_only s r).next (bs := [.notice, .journal, .classes]) (afterService_only _))) ?_
  unfold State.reportAppend
  split
  · split
    · exact recorded _ _
    · exact rel.refl _
  · exact rel.trans (applyOwn_related rel examined _ _) (rel.only (reply_only _ _))
  · unfold State.absorbRecovered
    split
    · exact takeIssue_related rel examined _ _ _
    · exact rel.refl _

end

section
variable {R : State → State → Prop} (rel : ViewRelation R) {h : Side}
  (identified : ∀ s : State, (s.hose h).state = .identifying → R s (s.identified h))
  (written : ∀ (s : State) (b : Bool), R s (s.writeBackOver h b))
include rel identified

theorem readsOver_related (s : State) : R s (s.readsOver h) := by
  unfold State.readsOver
  dsimp only
  split
  · exact rel.trans (rel.only (serveTag_only _ _)) (identified _ ‹_›)
  · exact rel.only (serveTag_only _ _)

include written

theorem exchangeDone_related (s : State) (r : Request) (x : Success) : R s (s.exchangeDone h r x) := by
  have served (u : TagUnit) : R s ((s.setTag h u).serveTag h) :=
    rel.only ((setTag_only _ _ _).trans (serveTag_only _ _))
  unfold State.exchangeDone
  dsimp only
  split
  · exact rel.of_view_eq fun k => ((askNext_only _ _ _).view_eq k).trans
      ((setHose_view_eq k).trans ((setTag_only _ _ _).view_eq k))
  · exact rel.only ((setTag_only _ _ _).trans (askNext_only _ _ _))
  · exact rel.trans (rel.only (setTag_only _ _ _)) (readsOver_related rel identified _)
  · exact served _
  · split
    · exact rel.trans (served _) (written _ _)
    · exact served _

theorem exchangeGivenUp_related (s : State) (r : Request) : R s (s.exchangeGivenUp h r) := by
  have ended (u : TagUnit) : R s (s.setTag h u) := rel.only (setTag_only _ _ _)
  unfold State.exchangeGivenUp
  dsimp only
  split
  · exact rel.trans (ended _) (rel.only (askNext_only _ _ _))
  · exact rel.trans (ended _) (rel.only ((setTag_only _ _ _).trans (askNext_only _ _ _)))
  · exact rel.trans (ended _) (rel.trans (rel.only (setTag_only _ _ _)) (readsOver_related rel identified _))
  · exact rel.trans (ended _) (rel.only (serveTag_only _ _))
  · exact rel.trans (ended _) (rel.trans (rel.only (serveTag_only _ _)) (written _ _))
  · exact rel.trans (ended _) (rel.only (serveTag_only _ _))

theorem endAttempt_related (s : State) (x : Exchange) (a : ReaderAnswer) : R s (s.endAttempt h x a) := by
  unfold State.endAttempt
  split
  · split
    · unfold State.attemptEnded
      dsimp only
      refine rel.trans (rel.of_view_eq (pollResult_view_eq s h ((s.tag h).answeredBy a))) ?_
      split
      · exact exchangeDone_related rel identified written _ _ _
      · split
        · exact rel.only (setTag_only _ _ _)
        · exact exchangeGivenUp_related rel identified written _ _
    · exact rel.refl _
  · split
    · exact rel.only ((setTag_only _ _ _).trans (serveTag_only _ _))
    · exact rel.refl _
  · exact rel.refl _

/-- What holds of a write-back's end, of the end of identification and of every change that no view shows holds
of a reader's answer (R52). -/
theorem readerAnswer_related (s : State) (n : BitVec 8) (a : ReaderAnswer) : R s (s.readerAnswer h n a) := by
  unfold State.readerAnswer
  split
  · exact rel.refl _
  · split
    · exact endAttempt_related rel identified written _ _ _
    · exact rel.refl _

end

/-! ### Hoses in START (R7) -/

/-- No hose leaves START. -/
def StartKept (s t : State) : Prop := ∀ k, (s.hose k).state = .start → (t.hose k).state = .start

theorem StartKept.trans {s t u : State} (a : StartKept s t) (b : StartKept t u) : StartKept s u := fun k => b k ∘ a k

theorem StartKept.of_view_eq {s t : State} (e : ∀ k, t.view k = s.view k) : StartKept s t := fun k =>
  (congrArg SideView.state (e k)).trans

theorem startKept_viewRelation : ViewRelation StartKept := ⟨StartKept.trans, StartKept.of_view_eq⟩

theorem StartKept.refl (s : State) : StartKept s s := fun _ => id

theorem Only.startKept {s t : State} {bs : List Block} (e : Only bs s t) (m : Block.hoses ∉ bs := by decide) :
    StartKept s t := fun k still => by rw [e.hose_eq k m]; exact still

theorem ClosedStay.startKept {s t : State} (e : ClosedStay s t) : StartKept s t := fun k still =>
  (e k (by rw [still]; rfl)).trans still

/-- A change at one side, which keeps START there. -/
theorem OtherHoseKept.startKept {s t : State} {h : Side} (other : OtherHoseKept h s t)
    (self : (s.hose h).state = .start → (t.hose h).state = .start) : StartKept s t := by
  intro k still
  obtain rfl | rfl := h.eq_or_other k
  · exact self still
  · rw [other.1]
    exact still

/-- A change at a side whose hose has left START. -/
theorem OtherHoseKept.startKept_of_left {s t : State} {h : Side} (other : OtherHoseKept h s t)
    (left : (s.hose h).state ≠ .start) : StartKept s t := other.startKept fun still => absurd still left

/-- A change at one side that is none while the hose there is in START. -/
theorem OtherHoseKept.startKept_of_eq {s t : State} {h : Side} (other : OtherHoseKept h s t)
    (self : (s.hose h).state = .start → t = s) : StartKept s t := other.startKept fun still => by
  rw [self still]
  exact still

theorem endDelivery_startKept (s : State) (h : Side) (r : EndReason) : StartKept s (s.endDelivery h r) :=
  (endDelivery_closedStay s h r).startKept

theorem examine_startKept (s : State) (h : Side) (e : FleetEntry) (n : Nat) : StartKept s (s.examine h e n) :=
  (examine_closedStay s h e n).startKept

/-! ### Flow, the hook and the append -/

theorem meterFault_startKept (s : State) (h : Side) : StartKept s (s.meterFault h) :=
  (meterFault_otherKept s h).startKept_of_eq fun still => meterFault_of_not_live (by rw [still]; rfl)

theorem meterUpdate_of_start {s : State} {h : Side} (rose : Bool) (still : (s.hose h).state = .start) :
    s.meterUpdate h rose = s := by
  unfold State.meterUpdate
  rw [markUncompensated_of_not_live (by rw [still]; rfl)]
  dsimp only
  rw [still]
  rfl

theorem meterUpdate_startKept (s : State) (h : Side) (rose : Bool) : StartKept s (s.meterUpdate h rose) :=
  (meterUpdate_otherKept s h rose).startKept_of_eq (meterUpdate_of_start rose)

theorem takeEdge_startKept (s : State) (h : Side) (ch : Channel) (l : Bool) : StartKept s (s.takeEdge h ch l) := by
  have metered (u : State) (m : Meter) : StartKept u (u.setMeter h m) := (setMeter_only _ _ _).startKept
  have reported (u : State) : StartKept u (u.reportFaults h) := by
    unfold State.reportFaults
    dsimp only
    split
    · exact (metered _ _).trans (meterFault_startKept _ _)
    · exact .refl _
  have recomputed (u : State) : StartKept u (u.recomputeGross h) := by
    unfold State.recomputeGross
    dsimp only
    split
    · exact (metered _ _).trans ((metered _ _).trans (meterUpdate_startKept _ _ _))
    · exact .refl _
  have counted : StartKept s (if ((s.meter h).edge ch l).faultCount ≠ (s.meter h).faultCount
      then (s.setMeter h ((s.meter h).edge ch l)).reportFaults h else s.setMeter h ((s.meter h).edge ch l)) := by
    split
    · exact (metered _ _).trans (reported _)
    · exact metered _ _
  unfold State.takeEdge
  dsimp only
  split
  · exact counted.trans (recomputed _)
  · exact counted

theorem hang_startKept (s : State) (h : Side) : StartKept s (s.hang h) :=
  (hang_otherKept s h).startKept_of_eq fun still => by
    unfold State.hang
    dsimp only
    rw [still]

theorem hoseRecorded_startKept (s : State) (h : Side) : StartKept s (s.hoseRecorded h) := by
  have other (x : Hose) : OtherHoseKept h s (s.setHose h x) := setHose_otherKept _ _ _
  unfold State.hoseRecorded
  dsimp only
  split
  · exact (other _).startKept_of_left (by rw [‹(s.hose h).state = _›]; nofun)
  · split
    · exact (other _).startKept_of_left (by rw [‹(s.hose h).state = _›]; nofun)
    · exact .refl _

theorem clearFault_startKept (s : State) (h : Side) : StartKept s (s.clearFault h) :=
  (clearFault_otherKept s h).startKept_of_eq fun still => if_neg (by rw [still]; nofun)

theorem writeBackOver_startKept (s : State) (h : Side) (b : Bool) : StartKept s (s.writeBackOver h b) :=
  (writeBackOver_otherKept s h b).startKept fun still => by
    have same : s.writeBackOver h b = s.setTag h (s.tag h).forget := by
      unfold State.writeBackOver
      dsimp only
      rw [still]
      rfl
    rw [same]
    exact still

theorem identified_startKept {s : State} {h : Side} (identifying : (s.hose h).state = .identifying) :
    StartKept s (s.identified h) := by
  have left : (s.hose h).state ≠ .start := by rw [identifying]; nofun
  unfold State.identified
  dsimp only
  split
  · exact .refl _
  · split
    · rename_i merged
      have stay := (mergeTag_kept merged).2
      refine stay.startKept.trans ((decideEntry_otherKept _ _ _ _).startKept_of_left ?_)
      rw [stay h (by rw [identifying]; rfl)]
      exact left
    · split
      · exact ((setHose_otherKept _ _ _).trans ((setHose_otherKept _ _ _).trans
          (checked_otherKept _ _ _))).startKept_of_left left
      · unfold State.refuseUnknown
        split
        · exact (refuse_otherKept _ _ _).startKept_of_left left
        · exact (refuse_otherKept _ _ _).startKept_of_left left

theorem endAttempt_startKept (s : State) (h : Side) (x : Exchange) (a : ReaderAnswer) :
    StartKept s (s.endAttempt h x a) :=
  endAttempt_related startKept_viewRelation (fun _ => identified_startKept) (fun u => writeBackOver_startKept u h) s x a

theorem readerAnswer_startKept (s : State) (h : Side) (n : BitVec 8) (a : ReaderAnswer) :
    StartKept s (s.readerAnswer h n a) :=
  readerAnswer_related startKept_viewRelation (fun _ => identified_startKept) (fun u => writeBackOver_startKept u h)
    s n a

theorem receive_startKept (s : State) (k : Kind) (x : LineBytes) : StartKept s (s.receive k x) :=
  receive_related startKept_viewRelation examine_startKept s k x

theorem appendDone_startKept (s : State) (src : AppendSource) (r : Record) : StartKept s (s.appendDone src r) :=
  appendDone_related startKept_viewRelation examine_startKept hoseRecorded_startKept s src r

theorem cutOffAt_startKept (s : State) (h t : Side) : StartKept s (s.cutOffAt h t) := by
  unfold State.cutOffAt
  split
  · exact endDelivery_startKept _ _ _
  · exact .refl _

theorem levelUpdate_startKept (s : State) (t : Side) (n : Nat) : StartKept s (s.levelUpdate t n) := by
  unfold State.levelUpdate
  dsimp only
  split
  · exact (setTank_only _ _ _).startKept.trans ((cutOffAt_startKept _ _ _).trans (cutOffAt_startKept _ _ _))
  · exact (setTank_only _ _ _).startKept

theorem goodResponse_startKept (s : State) (pos : Nat) (e : ScanEntry) (code : BitVec 12) :
    StartKept s (s.goodResponse pos e code) := by
  unfold State.goodResponse
  dsimp only
  split
  · exact (setScan_only _ _).startKept
  · exact StartKept.trans (setScan_only _ _).startKept (levelUpdate_startKept _ _ _)

theorem clearPress_startKept (s : State) : StartKept s s.clearPress := by
  have cleared : StartKept s (if s.inRun then (s.clearFault .one).clearFault .two else s) := by
    split
    · exact (clearFault_startKept _ _).trans (clearFault_startKept _ _)
    · exact .refl _
  unfold State.clearPress
  dsimp only
  generalize (if s.inRun then (s.clearFault .one).clearFault .two else s) = s1 at cleared ⊢
  split
  · refine cleared.trans ?_
    unfold State.clearScan
    split
    · exact .of_view_eq fun k => (startScan_view_eq _ k).trans ((setScan_only _ _).view_eq k)
    · exact .refl _
  · exact cleared

/-! ### START and RUN through the commands (R7, R180) -/

theorem startWith_hose (s : State) (c : Cause) (a b : Bool) (k : Side) :
    ((s.startWith c a b).hose k).state = .start := congrArg SideView.state (startWith_view s c a b k)

theorem judgeConfig_startKept (s : State) : StartKept s s.judgeConfig := by
  unfold State.judgeConfig
  dsimp only
  split
  · exact (enterConfigFault_only _ _ _).startKept
  · intro k still
    obtain ⟨g, n, view⟩ := loadConfig_view s (decodeConfig (memReadBytes s.mem 0 256)) k
    exact (congrArg SideView.state view).trans still

/-- A hose leaves START by the command that enters RUN alone (R7). -/
theorem exec_startKept {c : Instr} {s t : State} (entry : c ≠ .listenEnd) (e : exec c s = .next t) : StartKept s t := by
  have started (x : Cause) (a b : Bool) : StartKept s (s.startWith x a b) := fun k _ => startWith_hose s x a b k
  cases c with
  | listenEnd => exact absurd rfl entry
  | powerStart => exact next_related e (started _ _ _)
  | supplyDip => exact next_related e (started _ _ _)
  | resetLine => exact next_related e (started _ _ _)
  | holdEnd x =>
    simp only [exec, execHoldEnd] at e
    split at e
    · exact next_related e (.of_view_eq (leaveHold_view_eq _ _))
    · exact next_related e (.refl _)
  | configAreaRead o f =>
    simp only [exec, execConfigAreaRead] at e
    split at e
    · split at e
      · exact next_related e (enterConfigFault_only _ _ _).startKept
      · split at e
        · exact next_related e ((setMem_only _ _).startKept.trans (judgeConfig_startKept _))
        · cases e
    · exact next_related e (.refl _)
  | planAreaLoad o f =>
    have loaded (m : List Host.Cell) (f : BitVec 8) : StartKept s ((s.setMem m).loadPlans f) :=
      ((setMem_only _ _).next (bs := [.mem, .classes]) (loadPlans_only _ _)).startKept
    simp only [exec, execPlanAreaLoad] at e
    split at e
    · split at e
      · split at e
        · exact next_related e (StartKept.trans (loaded _ _) (StartKept.trans (setStart_only _ _).startKept
            (.of_view_eq (startScan_view_eq _))))
        · exact next_related e (loaded _ _)
      · cases e
    · exact next_related e (.refl _)
  | journalScan o f =>
    simp only [exec, execJournalScan] at e
    split at e
    · split at e
      · exact next_related e (StartKept.trans (setMem_only _ _).startKept (.of_view_eq (runScan_view_eq _ _)))
      · cases e
    · exact next_related e (.refl _)
  | lift h =>
    simp only [exec, execLift] at e
    split at e
    · exact next_related e (.refl _)
    · split at e
      · rename_i idle
        exact next_related e ((startCycle_otherKept _ _).startKept_of_left (by rw [idle]; nofun))
      · exact next_related e (.of_view_eq fun k => setHose_view_eq k)
  | hang h =>
    simp only [exec, execHang] at e
    split at e
    · exact next_related e (.refl _)
    · exact next_related e (StartKept.trans (.of_view_eq fun k => setHose_view_eq k) (hang_startKept _ _))
  | liftWaitExpiry h =>
    simp only [exec, execLiftWaitExpiry] at e
    split at e
    · rename_i identifying
      exact next_related e (((leaveIdentifying_otherKept _ _ _).trans
        (refuse_otherKept _ _ _)).startKept_of_left (by rw [identifying.1]; nofun))
    · exact next_related e (.refl _)
  | noFlowExpiry h =>
    simp only [exec, execNoFlowExpiry] at e
    split at e
    · exact next_related e (endDelivery_startKept _ _ _)
    · exact next_related e (.refl _)
  | stallExpiry h =>
    simp only [exec, execStallExpiry] at e
    split at e
    · exact next_related e (endDelivery_startKept _ _ _)
    · exact next_related e (.refl _)
  | tagLossExpiry h =>
    simp only [exec, execTagLossExpiry] at e
    split at e
    · exact next_related e (endDelivery_startKept _ _ _)
    · exact next_related e (.refl _)
  | settleExpiry h =>
    simp only [exec, execSettleExpiry] at e
    split at e
    · exact next_related e (.refl _)
    · split at e
      · rename_i closing
        exact next_related e ((settleEnd_otherKept _ _ _).startKept_of_left (by rw [closing.1]; nofun))
      · exact next_related e (.refl _)
  | channelEdge h ch l =>
    simp only [exec, execChannelEdge] at e
    split at e
    · exact next_related e (.refl _)
    · exact next_related e (takeEdge_startKept _ _ _ _)
  | readerBlock h n a b => exact next_related e (readerAnswer_startKept _ _ _ _)
  | readerWritten h n a => exact next_related e (readerAnswer_startKept _ _ _ _)
  | readerPresent h n a => exact next_related e (readerAnswer_startKept _ _ _ _)
  | readerNoTag h n => exact next_related e (readerAnswer_startKept _ _ _ _)
  | readerFault h n => exact next_related e (readerAnswer_startKept _ _ _ _)
  | readerWindowExpiry h =>
    simp only [exec, execReaderWindowExpiry] at e
    split at e
    · exact next_related e (endAttempt_startKept _ _ _ _)
    · exact next_related e (.refl _)
  | stopKey h pressed =>
    simp only [exec, execStopKey] at e
    split at e
    · exact next_related e (.refl _)
    · split at e
      · exact next_related e ((setPanel_only _ _).startKept.trans (endDelivery_startKept _ _ _))
      · exact next_related e (setPanel_only _ _).startKept
  | clearKey pressed =>
    simp only [exec, execClearKey] at e
    split at e
    · exact next_related e (.refl _)
    · split at e
      · exact next_related e ((setPanel_only _ _).startKept.trans (clearPress_startKept _))
      · exact next_related e (setPanel_only _ _).startKept
  | emergencyStopActive =>
    exact next_related e ((setPanel_only _ _).startKept.trans
      ((endDelivery_startKept _ _ _).trans (endDelivery_startKept _ _ _)))
  | issueFrame x => exact next_related e (receive_startKept _ _ _)
  | serviceFrame x => exact next_related e (receive_startKept _ _ _)
  | vehicleNoticeFrame x => exact next_related e (receive_startKept _ _ _)
  | classNoticeFrame x => exact next_related e (receive_startKept _ _ _)
  | appendComplete =>
    simp only [exec, execAppendComplete] at e
    split at e
    · split at e
      · split at e
        · exact next_related e (StartKept.trans ((writeOpen_only _ _ _).next (bs := [.mem, .journal])
            (setJournal_only _ _)).startKept (appendDone_startKept _ _ _))
        · exact next_related e (.refl _)
      · split at e
        · exact next_related e (appendDone_startKept _ _ _)
        · exact next_related e ((setMem_only _ _).startKept.trans (appendDone_startKept _ _ _))
    · exact next_related e (.refl _)
  | headerWriteComplete =>
    simp only [exec, execHeaderWriteComplete] at e
    split at e
    · exact next_related e (StartKept.trans ((setMem_only _ _).next (bs := [.mem, .journal, .classes])
        (afterService_only _)).startKept (.of_view_eq (endScan_view_eq _)))
    · exact next_related e (.refl _)
  | scanTimerExpiry =>
    simp only [exec, execScanTimerExpiry] at e
    split at e
    · exact next_related e (.of_view_eq (startScan_view_eq _))
    · exact next_related e (.refl _)
  | converterResponse n ch code =>
    simp only [exec, execConverterResponse] at e
    split at e
    · split at e
      · exact next_related e (.refl _)
      · split at e
        · exact next_related e (goodResponse_startKept _ _ _ _)
        · exact next_related e (.refl _)
    · exact next_related e (.refl _)
  | failedStockTest =>
    simp only [exec, execFailedStockTest] at e
    split at e
    · exact next_related e (.of_view_eq (testStock_view_eq _))
    · exact next_related e (.refl _)
  | _ => exact (exec_only e).startKept (by simp [touched])

theorem endScan_run {s : State} (run : s.start.stage = .run) : s.endScan.start.stage = .run := by
  unfold State.endScan
  split
  · exact run
  · rw [if_neg (by rw [run]; nofun)]
    exact run

theorem operationFails_run {s : State} (run : s.start.stage = .run) : s.operationFails.start.stage = .run := by
  have reading : s.readingConfig = false := by simp [State.readingConfig, run]
  unfold State.operationFails
  rw [reading, if_neg nofun]
  split
  · exact run
  · rw [(readEnded_only _ _ _).start_eq]
    exact run
  · exact run

/-- RUN is left by a start alone (R7, R171). -/
theorem exec_run {c : Instr} {s t : State} (run : s.start.stage = .run) (e : exec c s = .next t) :
    t.start.stage = .run ∨ ∃ cause good active, t = s.startWith cause good active := by
  have stays {u : State} (next : (Host.Outcome.next u : Answer) = .next t) (kept : u.start.stage = .run) :
      t.start.stage = .run := by cases next; exact kept
  cases c with
  | powerStart => cases e; exact .inr ⟨_, _, _, rfl⟩
  | supplyDip => cases e; exact .inr ⟨_, _, _, rfl⟩
  | resetLine => cases e; exact .inr ⟨_, _, _, rfl⟩
  | holdEnd x => exact .inl (stays (by simpa [exec, execHoldEnd, run] using e) run)
  | configAreaRead o f => exact .inl (stays (by simpa [exec, execConfigAreaRead, State.readingConfig, run] using e) run)
  | planAreaLoad o f => exact .inl (stays (by simpa [exec, execPlanAreaLoad, run] using e) run)
  | journalScan o f => exact .inl (stays (by simpa [exec, execJournalScan, run] using e) run)
  | listenEnd => exact .inl (stays (by simpa [exec, execListenEnd, run] using e) run)
  | headerWriteComplete =>
    simp only [exec, execHeaderWriteComplete] at e
    split at e
    · exact .inl (stays e (endScan_run (by rw [(afterService_only _).start_eq]; exact run)))
    · exact .inl (stays e run)
  | memoryOpFailed => exact .inl (stays e (operationFails_run run))
  | memoryOpTimeout => exact .inl (stays e (operationFails_run run))
  | supplyRisesAboveThreshold => exact .inl (stays e run)
  | resetLineInactive => exact .inl (stays e run)
  | _ =>
    left
    rw [(exec_only e).start_eq (by simp [touched])]
    exact run

theorem listenEnd_cases {s t : State} (e : exec .listenEnd s = .next t) : t.start.stage = .run ∨ t = s := by
  simp only [exec, execListenEnd] at e
  split at e
  · cases e
    rw [enterRun_start]
    exact .inl rfl
  · cases e
    exact .inr rfl

/-- A command keeps every hose in START while RUN has not been reached (R7). -/
theorem exec_keeps_start {c : Instr} {s t : State} (held : s.start.stage ≠ .run → ∀ k, (s.hose k).state = .start)
    (e : exec c s = .next t) (stage : t.start.stage ≠ .run) (k : Side) : (t.hose k).state = .start := by
  by_cases run : s.start.stage = .run
  · obtain still | ⟨cause, good, active, rfl⟩ := exec_run run e
    · exact absurd still stage
    · exact startWith_hose _ _ _ _ _
  · by_cases entry : c = .listenEnd
    · subst entry
      obtain entered | rfl := listenEnd_cases e
      · exact absurd entered stage
      · exact held run k
    · exact exec_startKept entry e k (held run k)

/-- Settles O6: no operation parts a hose's reservation from its delivery, and no hose leaves START before RUN. -/
theorem reservationsKept : Obligations.ReservationsKept := by
  intro s t ok e h
  refine ⟨(view_reserved_iff t h).1 ((step_allGranted ok e h).reserved ((view_reserved_iff s h).2 (ok h).1)), ?_⟩
  have held (stage : s.start.stage ≠ .run) (k : Side) : (s.hose k).state = .start := (ok k).2 stage
  unfold step at e
  split at e
  · cases e
    have tick : s.tick.start = s.start ∧ s.tick.hose h = s.hose h := by
      unfold State.tick
      split <;> exact ⟨rfl, rfl⟩
    rw [tick.1, tick.2]
    exact fun stage => held stage h
  · rename_i c rest _
    exact fun stage => exec_keeps_start (s := { s with pending := rest }) held e stage h

end Sys2Proof.Machine

namespace Sys2Proof.Machine

/-! ### An entry examined (R98, R103, R104) -/

theorem OtherHoseKept.reservation_eq {s t : State} {h : Side} (kept : OtherHoseKept h s t) :
    t.reservation h.other = s.reservation h.other := by
  obtain ⟨-, -, -, same⟩ := kept
  exact same

section
variable {s : State} {h : Side} {r : Reservation} {e : FleetEntry} {n : Nat}

/-- What an examination finds: the use in force raised, the allowance lowered, a hold set (R98). -/
def State.foundCauses (s : State) (r : Reservation) (e : FleetEntry) (n : Nat) : Causes :=
  let cls := s.classOf e
  ⟨decide (n < e.carry.useAgainst r.shift),
    (effectiveAllowance r.capped (baseAllowance e.allowanceOv.val cls) cls).lower r.allowance,
    holdInForce e.carry cls && !r.hold⟩

theorem causes_any_iff (c : Causes) : c.any = true ↔ c ≠ ⟨false, false, false⟩ := by
  rw [Causes.any, ne_eq, Causes.mk.injEq]
  simp only [Bool.or_eq_true]
  grind

/-- An entry found undisturbed takes the allowance and the hold in force, and nothing more (R104). -/
theorem examine_undisturbed (reserved : s.reservation h = some r)
    (quiet : s.foundCauses r e n = ⟨false, false, false⟩) :
    s.examine h e n = s.setReservation h (some { r with
      allowance := effectiveAllowance r.capped (baseAllowance e.allowanceOv.val (s.classOf e)) (s.classOf e)
      hold := holdInForce e.carry (s.classOf e) }) := by
  unfold State.examine
  rw [reserved]
  exact if_neg fun any => (causes_any_iff _).1 any quiet

/-- An entry found disturbed is marked with its delivery, and re-evaluated (R98, R100). -/
theorem examine_disturbed (reserved : s.reservation h = some r)
    (found : s.foundCauses r e n ≠ ⟨false, false, false⟩) :
    s.examine h e n = (s.withDisturbed h (s.disturbedEntry r e n)).reevaluate h (s.disturbedEntry r e n)
      (e.carry.useAgainst r.shift) := by
  unfold State.examine
  rw [reserved]
  exact if_pos ((causes_any_iff _).2 found)

/-- The delivery record of an entry found disturbed, marked with it. -/
def Delivery.markDisturbed (d : Delivery) (r : Reservation) : Delivery :=
  { d with watch := .disturbed, causes := r.causes, flags := { d.flags with disturbed := true } }

theorem withDisturbed_eq {d : Delivery} (live : (s.hose h).delivery = some d) : s.withDisturbed h r =
    (s.setReservation h (some r)).setHose h { s.hose h with delivery := some (d.markDisturbed r) } := by
  unfold State.withDisturbed
  dsimp only
  rw [State.setReservation_hose, live]
  rfl

theorem withDisturbed_only (s : State) (h : Side) (r : Reservation) :
    Only [.hoses, .reservations] s (s.withDisturbed h r) := by
  unfold State.withDisturbed
  dsimp only
  split
  · exact (setReservation_only _ _ _).mono
  · exact (setReservation_only _ _ _).next (setHose_only _ _ _)

end

/-! ### The re-evaluation (R100 to R103) -/

section
variable {s : State} {h : Side} {r : Reservation} {use n : Nat}

theorem reevaluate_closed (o : (s.hose h).state.open = false) : s.reevaluate h r use = s := by
  unfold State.reevaluate
  rw [if_neg (by rw [o]; nofun)]

theorem reevaluate_hold (o : (s.hose h).state.open = true) (hold : r.hold = true) :
    s.reevaluate h r use = s.endDelivery h .holdReceived := by
  unfold State.reevaluate
  rw [if_pos o, if_pos hold]

theorem reevaluate_unlimited (free : r.hold = false) (unlimited : r.allowance = .unlimited) :
    s.reevaluate h r use = s := by
  unfold State.reevaluate
  rw [free, unlimited]
  split <;> rfl

/-- The target that the available quantity leaves to an entry (R101). -/
def State.loweredTarget (s : State) (h : Side) (r : Reservation) (litres use : Nat) : Int :=
  min (r.target : Int) ((litres : Int) * 1000 - use + r.absorbed - outstandingFor r.vehicle (s.reservation h.other))

theorem reevaluate_litres (o : (s.hose h).state.open = true) (free : r.hold = false)
    (litres : r.allowance = .litres n) : s.reevaluate h r use =
      if ((s.meter h).lastNet : Int) < s.loweredTarget h r n use then
        s.setTarget h (s.loweredTarget h r n use).toNat
      else (s.setTarget h (s.meter h).lastNet).endDelivery h .allowanceReduced := by
  unfold State.reevaluate
  rw [if_pos o, free, if_neg nofun, litres]
  rfl

theorem setTarget_eq {d : Delivery} (reserved : s.reservation h = some r) (live : (s.hose h).delivery = some d) :
    s.setTarget h n = (s.setReservation h (some { r with target := n })).setHose h
      { s.hose h with delivery := some { d with target := n } } := by
  unfold State.setTarget
  rw [reserved]
  dsimp only
  rw [State.setReservation_hose, live]

/-- A delivery ended that is in CLOSING keeps its reservation, and its record but for the end. -/
theorem endDelivery_into_closing {d : Delivery} {reason : EndReason} (o : (s.hose h).state.open = true)
    (live : (s.hose h).delivery = some d) (closing : ((s.endDelivery h reason).hose h).state = .closing) :
    (s.endDelivery h reason).reservation h = s.reservation h ∧
      ((s.endDelivery h reason).hose h).delivery =
        some { d with endReason := some reason, endTime := some s.line.siteTime } := by
  by_cases passed : 0 < (s.meter h).gross ∨ 1 ≤ d.steps
  · obtain ⟨hose, -, only⟩ := endDelivery_closing reason o live passed
    rw [hose]
    exact ⟨only.reservation_eq h, rfl⟩
  · obtain ⟨hose, -⟩ := endDelivery_dropped reason o live (by omega) (by omega)
    rw [hose] at closing
    dsimp only at closing
    split at closing
    · cases closing
    · cases hook : (s.hose h).hook <;> rw [hook] at closing <;> cases closing

end

/-! ### A disturbed delivery re-evaluated -/

section
variable {s : State} {h : Side} {r : Reservation} {d : Delivery} {use n : Nat}
  (live : (s.hose h).delivery = some d)
include live

theorem withDisturbed_hose :
    (s.withDisturbed h r).hose h = { s.hose h with delivery := some (d.markDisturbed r) } := by
  simp [withDisturbed_eq live]

theorem withDisturbed_tag : (s.withDisturbed h r).tag h = s.tag h := by simp [withDisturbed_eq live]

theorem withDisturbed_setTarget : (s.withDisturbed h r).setTarget h n =
    ((s.withDisturbed h r).setReservation h (some { r with target := n })).setHose h
      { s.hose h with delivery := some { d.markDisturbed r with target := n } } := by
  have hose := withDisturbed_hose (r := r) live
  rw [setTarget_eq (withDisturbed_reservation s h r) (congrArg Hose.delivery hose), hose]

variable (o : (s.hose h).state.open = true)
include o

/-- A hold in force ends the delivery (R100). -/
theorem withDisturbed_hold (hold : r.hold = true) :
    (((s.withDisturbed h r).reevaluate h r use).hose h).state.open = false ∧
    (((s.withDisturbed h r).reevaluate h r use).hose h).reason = some (.ended .holdReceived) := by
  have hose := withDisturbed_hose (r := r) live
  have o' : ((s.withDisturbed h r).hose h).state.open = true := by rw [hose]; exact o
  rw [reevaluate_hold o' hold]
  obtain ⟨shut, reason, -⟩ := endDelivery_shuts (r := .holdReceived) o' (by rw [hose]; rfl) nofun
  exact ⟨shut, reason⟩

/-- The two outcomes of R101: the lowered target, or the live net as the target and the end of the delivery. -/
theorem withDisturbed_litres (free : r.hold = false) (litres : r.allowance = .litres n) :
    (s.withDisturbed h r).reevaluate h r use =
      if ((s.meter h).lastNet : Int) < s.loweredTarget h r n use then
        (s.withDisturbed h r).setTarget h (s.loweredTarget h r n use).toNat
      else ((s.withDisturbed h r).setTarget h (s.meter h).lastNet).endDelivery h .allowanceReduced := by
  have lowered : (s.withDisturbed h r).loweredTarget h r n use = s.loweredTarget h r n use := by
    unfold State.loweredTarget
    rw [(withDisturbed_otherKept s h r).reservation_eq]
  rw [reevaluate_litres (by rw [withDisturbed_hose live]; exact o) free litres, lowered,
    (withDisturbed_only s h r).meter_eq h]

/-- A target at or below the live net ends the delivery with the live net as its target (R101, R102). -/
theorem withDisturbed_endsAtNet (free : r.hold = false) (litres : r.allowance = .litres n)
    (below : s.loweredTarget h r n use ≤ ((s.meter h).lastNet : Int)) (t : State)
    (ht : t = (s.withDisturbed h r).reevaluate h r use) :
    (t.hose h).state.open = false ∧ (t.hose h).reason = some (.ended .allowanceReduced) ∧
    ((t.hose h).state = .closing → t.reservation h = some { r with target := (s.meter h).lastNet } ∧
      ∃ x, (t.hose h).delivery = some x ∧ x.target = (s.meter h).lastNet ∧ x.watch = .disturbed) := by
  rw [withDisturbed_litres live o free litres, if_neg (not_lt.2 below), withDisturbed_setTarget live] at ht
  generalize ended : ((s.withDisturbed h r).setReservation h _).setHose h _ = u at ht
  have hose : u.hose h = { s.hose h with
      delivery := some { d.markDisturbed r with target := (s.meter h).lastNet } } := by simp [← ended]
  have reserved : u.reservation h = some { r with target := (s.meter h).lastNet } := by simp [← ended]
  have o' : (u.hose h).state.open = true := by rw [hose]; exact o
  obtain ⟨shut, reason, -⟩ := endDelivery_shuts (r := .allowanceReduced) o' (by rw [hose]; rfl) nofun
  subst ht
  refine ⟨shut, reason, fun closing => ?_⟩
  obtain ⟨reservation, delivery⟩ := endDelivery_into_closing o' (congrArg Hose.delivery hose) closing
  exact ⟨reservation.trans reserved, _, delivery, rfl, rfl⟩

/-- A target above the live net is set in the entry and its delivery, which goes on (R101). -/
theorem withDisturbed_lowers (free : r.hold = false) (litres : r.allowance = .litres n)
    (above : ((s.meter h).lastNet : Int) < s.loweredTarget h r n use) (t : State)
    (ht : t = (s.withDisturbed h r).reevaluate h r use) :
    t.reservation h = some { r with target := (s.loweredTarget h r n use).toNat } ∧
    t.hose h = { s.hose h with
      delivery := some { d.markDisturbed r with target := (s.loweredTarget h r n use).toNat } } ∧
    t.tag h = s.tag h := by
  rw [withDisturbed_litres live o free litres, if_pos above, withDisturbed_setTarget live] at ht
  subst ht
  simp [withDisturbed_tag live]

end

/-! ### A report on a vehicle with two watched entries (R99) -/

section
variable {s : State} {h : Side} {v : Nat} {e : FleetEntry} {old : ReportValues}

/-- A report of source OTHER at one hose: its entry examined where it is watched and names the vehicle (R97). -/
def State.reportOtherAt (v : Nat) (e : FleetEntry) (old : ReportValues) (s : State) (h : Side) : State :=
  if s.watches h v then s.examine h e (s.useBefore h old.shift old.use) else s

theorem reportOther_changed (found : s.entry v = some e) (changed : s.reportValues e ≠ old) :
    s.reportOther v old = s.grantOrder.foldl (State.reportOtherAt v e old) s := by
  unfold State.reportOther
  rw [found]
  exact if_neg changed

theorem reportOtherAt_watched {r : Reservation} (reserved : s.reservation h = some r) (watched : r.watched = true)
    (vehicle : r.vehicle = v) : s.reportOtherAt v e old h =
      s.examine h e (if old.shift = r.shift then old.use else 0) := by
  have watches : s.watches h v = true := by simp [State.watches, reserved, watched, vehicle]
  have before : s.useBefore h old.shift old.use = if old.shift = r.shift then old.use else 0 := by
    simp [State.useBefore, reserved]
  unfold State.reportOtherAt
  rw [if_pos watches, before]

theorem grantOrder_of_rank {a b : Reservation} (first : s.reservation h = some a)
    (second : s.reservation h.other = some b) (older : a.rank < b.rank) : s.grantOrder = [h, h.other] := by
  unfold State.grantOrder
  cases h with
  | one =>
    rw [show s.reservations.one = some a from first, show s.reservations.two = some b from second]
    exact if_neg (by omega)
  | two =>
    rw [show s.reservations.one = some b from second, show s.reservations.two = some a from first]
    exact if_pos older

/-- The entry granted earlier is examined first, and the other as that leaves it. -/
theorem reportOther_two {a b : Reservation} (first : s.reservation h = some a)
    (second : s.reservation h.other = some b) (older : a.rank < b.rank) (watchedA : a.watched = true)
    (watchedB : b.watched = true) (vehicleA : a.vehicle = v) (vehicleB : b.vehicle = v)
    (found : s.entry v = some e) (changed : s.reportValues e ≠ old) :
    s.reportOther v old = (s.examine h e (if old.shift = a.shift then old.use else 0)).examine h.other e
      (if old.shift = b.shift then old.use else 0) := by
  have kept (n : Nat) : (s.examine h e n).reservation h.other = some b :=
    (examine_otherKept s h e n).reservation_eq.trans second
  rw [reportOther_changed found changed, grantOrder_of_rank first second older, List.foldl_cons, List.foldl_cons,
    List.foldl_nil, reportOtherAt_watched first watchedA vehicleA,
    reportOtherAt_watched (kept _) watchedB vehicleB]

end

/-- Settles O39: an examination by what it finds, and the re-evaluation of what it marks by the allowance. -/
theorem disturbedDeliveryIsReevaluated : Obligations.DisturbedDeliveryIsReevaluated := by
  refine ⟨?_, fun _ _ _ _ _ _ _ => reportOther_two⟩
  rintro h s t e before use r r' d d' q hold found reserved live record rfl rfl rfl rfl rfl rfl rfl
  have disturbed (found : s.foundCauses r e before ≠ ⟨false, false, false⟩) := examine_disturbed reserved found
  have reservation := withDisturbed_reservation s h (s.disturbedEntry r e before)
  have hose := withDisturbed_hose (r := s.disturbedEntry r e before) record
  refine ⟨examine_undisturbed reserved, fun found closing => ?_, fun found o => ⟨fun held => ?_, fun free none => ?_,
    ?_⟩, examine_otherKept s h e before, examine_only s h e before⟩
  · rw [disturbed found, reevaluate_closed (by rw [hose, closing]; rfl)]
    exact ⟨reservation, hose, withDisturbed_only _ _ _⟩
  · rw [disturbed found]
    exact withDisturbed_hold record o held
  · rw [disturbed found, reevaluate_unlimited free none]
    exact ⟨reservation, hose, withDisturbed_tag record⟩
  · rintro n _ free litres rfl
    exact ⟨fun above => withDisturbed_lowers (r := s.disturbedEntry r e before) record o free litres above _
        (disturbed found),
      fun below => withDisturbed_endsAtNet (r := s.disturbedEntry r e before) record o free litres below _
        (disturbed found)⟩

end Sys2Proof.Machine

namespace Sys2Proof.Machine

/-! ### The reading of a carry under a SERVICE record (R118) -/

theorem adopt_raises {c : Carry} (m : Mark) (level : Nat) {hours : Nat}
    (below : c.reading = none ∨ ∃ r, c.reading = some r ∧ r.value < hours) :
    (c.adopt m level hours).reading = some ⟨hours, m.time, .read⟩ ∧ (c.adopt m level hours).sinceReading = 0 := by
  obtain absent | ⟨r, held, below⟩ := below
  · simp [Carry.adopt, absent]
  · simp [Carry.adopt, held, below]

theorem adopt_keeps_reading {c : Carry} (m : Mark) (level : Nat) {hours : Nat} {r : Reading}
    (held : c.reading = some r) (reached : hours ≤ r.value) :
    (c.adopt m level hours).reading = some r ∧ (c.adopt m level hours).sinceReading = c.sinceReading := by
  simp [Carry.adopt, held, reached.not_gt]

/-- Settles O37: the two branches of R118; the other fields are not among those written. -/
theorem serviceRaisesReading : Obligations.ServiceRaisesReading := fun _ m level _ =>
  ⟨adopt_raises m level, fun _ held reached => adopt_keeps_reading m level held reached, rfl, rfl, rfl, rfl⟩

/-! ### The state of one level (R110, R111) -/

section
variable {p : Plan} {l : Level} {hours : Option Nat}

/-- One of a level's two limits meets the threshold picked (R111). -/
def Plan.meets (p : Plan) (l : Level) (hours : Option Nat) (pick : Nat × Nat × Nat → Nat) : Bool :=
  reaches pick (thresholds 10 p.ih p.ah p.gh) (hours.map fun r => r - l.hours) ||
    reaches pick (thresholds 1000 p.il p.al p.gl) (some l.litres)

/-- The tests of R111 in their order, for a level in use that has a mark. -/
theorem levelState_marked (used : ¬(p.ih = 0 ∧ p.il = 0)) (mark : l.mark ≠ none) : levelState p l hours =
    if p.meets l hours (fun t => t.2.2) then some .overdue
    else if p.meets l hours (fun t => t.2.1) then some .due
    else if p.meets l hours (fun t => t.1) then some .approaching
    else some .current := by
  have inUse : ¬p.unused = true := by simpa [Plan.unused] using used
  exact (if_neg inUse).trans (if_neg mark)

theorem levelState_unmarked (used : ¬(p.ih = 0 ∧ p.il = 0)) (mark : l.mark = none) :
    levelState p l hours = some .unknown := by
  have inUse : ¬p.unused = true := by simpa [Plan.unused] using used
  exact (if_neg inUse).trans (if_pos mark)

theorem levelState_unused (unused : p.ih = 0 ∧ p.il = 0) : levelState p l hours = none :=
  if_pos (by simpa [Plan.unused] using unused)

theorem levelState_eq_none_iff : levelState p l hours = none ↔ p.ih = 0 ∧ p.il = 0 := by
  refine ⟨fun absent => ?_, levelState_unused⟩
  by_contra used
  by_cases mark : l.mark = none
  · simp [levelState_unmarked used mark] at absent
  · rw [levelState_marked used mark] at absent
    split_ifs at absent

/-- A measure reaches a threshold of a limit in use; an absent limit or measure is left out (R106, R111). -/
theorem reaches_thresholds_iff {pick : Nat × Nat × Nat → Nat} {unit i a g : Nat} {measure : Option Nat} :
    reaches pick (thresholds unit i a g) measure = true ↔
      i ≠ 0 ∧ ∃ m, measure = some m ∧ pick ((i - a) * unit, i * unit, (i + g) * unit) ≤ m := by
  by_cases unused : i = 0
  · simp [thresholds, reaches, unused]
  · cases measure <;> simp [thresholds, reaches, unused]

/-- The limits by the threshold written as a function of interval, margin and grace. -/
theorem meets_iff {pick : Nat × Nat × Nat → Nat} {f : Nat → Nat → Nat → Nat}
    (picks : ∀ unit i a g, pick ((i - a) * unit, i * unit, (i + g) * unit) = f i a g * unit) :
    p.meets l hours pick = true ↔
      (p.ih ≠ 0 ∧ ∃ r, hours = some r ∧ f p.ih p.ah p.gh * 10 ≤ r - l.hours) ∨
      (p.il ≠ 0 ∧ f p.il p.al p.gl * 1000 ≤ l.litres) := by
  simp [Plan.meets, reaches_thresholds_iff, picks]

end

/-! ### The worst of the levels (R112) -/

/-- What the worst of the states of the levels 1, 2, … is: none where none is in use; else a level whose state
no other exceeds in code and no later one has. -/
def WorstOf (xs : List (Option ServiceState)) : Option (ServiceState × Nat) → Prop
  | none => ∀ x ∈ xs, x = none
  | some (st, level) => ∃ j, level = j + 1 ∧ xs[j]? = some (some st) ∧
      (∀ (i : Nat) (other : ServiceState), xs[i]? = some (some other) → other.code ≤ st.code) ∧
      (∀ i, j < i → xs[i]? ≠ some (some st))

theorem getElem?_snoc_eq_some {α : Type} {xs : List α} {x y : α} {i : Nat} :
    (xs ++ [x])[i]? = some y ↔ xs[i]? = some y ∨ (i = xs.length ∧ x = y) := by
  grind

theorem getElem?_of_unused {xs : List (Option ServiceState)} (unused : ∀ x ∈ xs, x = none) {i : Nat}
    {st : ServiceState} : xs[i]? ≠ some (some st) := fun at_ =>
  nomatch unused _ (List.mem_of_getElem? at_)

/-- A further level at least as bad as all before it. -/
theorem WorstOf.last {xs : List (Option ServiceState)} {new : ServiceState}
    (least : ∀ (i : Nat) (other : ServiceState), xs[i]? = some (some other) → other.code ≤ new.code) :
    WorstOf (xs ++ [some new]) (some (new, xs.length + 1)) := by
  refine ⟨xs.length, rfl, getElem?_snoc_eq_some.2 (.inr ⟨rfl, rfl⟩), fun i other at_ => ?_, fun i beyond at_ => ?_⟩
  · obtain at_ | ⟨-, same⟩ := getElem?_snoc_eq_some.1 at_
    · exact least i other at_
    · cases same; exact le_rfl
  · obtain at_ | ⟨at_, -⟩ := getElem?_snoc_eq_some.1 at_
    · exact absurd (List.getElem?_eq_some_iff.1 at_).1 (by omega)
    · omega

/-- A further level not in use, or less bad than the worst before it. -/
theorem WorstOf.before {xs : List (Option ServiceState)} {st : ServiceState} {level : Nat} {x : Option ServiceState}
    (worst : WorstOf xs (some (st, level))) (less : ∀ new, x = some new → new.code < st.code) :
    WorstOf (xs ++ [x]) (some (st, level)) := by
  obtain ⟨j, rfl, held, least, highest⟩ := worst
  refine ⟨j, rfl, getElem?_snoc_eq_some.2 (.inl held), fun i other at_ => ?_, fun i beyond at_ => ?_⟩
  · obtain at_ | ⟨-, same⟩ := getElem?_snoc_eq_some.1 at_
    · exact least i other at_
    · exact (less other same).le
  · obtain at_ | ⟨-, same⟩ := getElem?_snoc_eq_some.1 at_
    · exact highest i beyond at_
    · exact (less st same).false

/-- One more level, above those taken so far. -/
theorem WorstOf.snoc {xs : List (Option ServiceState)} {w : Option (ServiceState × Nat)} (worst : WorstOf xs w)
    (x : Option ServiceState) : WorstOf (xs ++ [x]) (worse w (x, xs.length + 1)) := by
  match w, x with
  | none, none => exact List.forall_mem_append.2 ⟨worst, List.forall_mem_singleton.2 rfl⟩
  | none, some new => exact WorstOf.last fun _ _ at_ => absurd at_ (getElem?_of_unused worst)
  | some (st, level), none => exact worst.before nofun
  | some (st, level), some new =>
    by_cases reached : st.code ≤ new.code
    · obtain ⟨_, _, _, least, _⟩ := id worst
      rw [worse, if_pos reached]
      exact WorstOf.last fun i other at_ => (least i other at_).trans reached
    · rw [worse, if_neg reached]
      exact worst.before fun _ same => Option.some.inj same ▸ Nat.lt_of_not_le reached

/-- Taking the four levels from the lowest gives the worst of them. -/
theorem worstOf_levels (q : Four (Option ServiceState)) :
    WorstOf q.toList ([(q.l1, 1), (q.l2, 2), (q.l3, 3), (q.l4, 4)].foldl worse none) :=
  have empty : WorstOf [] none := nofun
  (((empty.snoc q.l1).snoc q.l2).snoc q.l3).snoc q.l4

/-! ### The evaluation of a carry (R109, R112) -/

section
variable {c : Carry} {k : ClassRecord} {f : HoursFlags}

/-- The states of the levels 1 to 4 at the effective hours (R110, R111). -/
def evaluatedStates (c : Carry) (k : ClassRecord) : Four (Option ServiceState) :=
  k.plans.zip (fun p l => levelState p.val l (effectiveHours c k.burn.val)) c.levels

/-- The result names the worst of the states; CURRENT stands where it names no level. -/
theorem evaluate_worst (c : Carry) (k : ClassRecord) (f : HoursFlags) :
    WorstOf (evaluatedStates c k).toList ((evaluate c k f).level.map fun n => ((evaluate c k f).state, n)) ∧
      ((evaluate c k f).level = none → (evaluate c k f).state = .current) := by
  have worst := worstOf_levels (evaluatedStates c k)
  simp only [evaluate, evaluatedStates] at worst ⊢
  generalize List.foldl worse none _ = w at worst ⊢
  cases w with
  | none => exact ⟨worst, fun _ => rfl⟩
  | some w => exact ⟨worst, nofun⟩

theorem evaluate_hours_absent (absent : c.reading = none) : (evaluate c k f).hours = none := by
  simp [evaluate, effectiveHours, absent]

theorem evaluate_hours_estimated {r : Reading} (held : c.reading = some r) (burns : k.burn.val ≠ 0) :
    (evaluate c k f).hours =
      some (min 9999999 (r.value + (c.sinceReading + k.burn.val * 100 - 1) / (k.burn.val * 100))) := by
  simp [evaluate, effectiveHours, held, burns, ceilDiv, Config.hoursMax]

theorem evaluate_unknown : (evaluate c k f).unknown.toList =
    (evaluatedStates c k).toList.map fun x => decide (x = some .unknown) := by
  simp [evaluate, evaluatedStates, Four.map, Four.toList, beq_eq_decide]

theorem evaluate_unused (unused : ∀ x ∈ (evaluatedStates c k).toList, x = none) :
    (evaluate c k f).state = .current ∧ (evaluate c k f).level = none := by
  obtain ⟨worst, current⟩ := evaluate_worst c k f
  cases level : (evaluate c k f).level with
  | none => exact ⟨current level, rfl⟩
  | some n =>
    rw [level] at worst
    obtain ⟨_, _, held, _⟩ := worst
    exact absurd held (getElem?_of_unused unused)

theorem evaluate_used (used : ∃ x ∈ (evaluatedStates c k).toList, x ≠ none) : ∃ n,
    (evaluate c k f).level = some n ∧ WorstOf (evaluatedStates c k).toList (some ((evaluate c k f).state, n)) := by
  have worst := (evaluate_worst c k f).1
  cases level : (evaluate c k f).level with
  | none =>
    rw [level] at worst
    obtain ⟨x, held, inUse⟩ := used
    exact absurd (worst x held) inUse
  | some n =>
    rw [level] at worst
    exact ⟨n, rfl, worst⟩

end

/-- Settles O38: the tests of R111 in their order, and R112 level by level from the lowest. -/
theorem evaluationTakesWorst : Obligations.EvaluationTakesWorst := by
  refine ⟨fun p l hours reached meaning => ⟨levelState_eq_none_iff, fun used => ⟨levelState_unmarked used,
    fun mark => ?_⟩⟩, ?_⟩
  · have meets {pick f} (picks : ∀ unit i a g, pick ((i - a) * unit, i * unit, (i + g) * unit) = f i a g * unit) :
        reached f ↔ p.meets l hours pick = true := (meaning f).trans (meets_iff picks).symm
    have overdue := meets (pick := fun t => t.2.2) (f := fun i _ g => i + g) fun _ _ _ _ => rfl
    have due := meets (pick := fun t => t.2.1) (f := fun i _ _ => i) fun _ _ _ _ => rfl
    have approach := meets (pick := fun t => t.1) (f := fun i a _ => i - a) fun _ _ _ _ => rfl
    rw [overdue, due, approach, levelState_marked used mark]
    exact ⟨fun late => if_pos late, fun notLate due => (if_neg notLate).trans (if_pos due),
      fun notLate notDue near => (if_neg notLate).trans ((if_neg notDue).trans (if_pos near)),
      fun notLate notDue far => (if_neg notLate).trans ((if_neg notDue).trans (if_neg far))⟩
  · rintro c k f states rfl
    refine ⟨evaluate_hours_absent, fun _ => evaluate_hours_estimated, evaluate_unknown, evaluate_unused, fun used => ?_⟩
    obtain ⟨n, level, j, rfl, worst⟩ := evaluate_used (f := f) used
    exact ⟨j, level, worst⟩

end Sys2Proof.Machine

namespace Sys2Proof.Machine

/-! ### The receive window (R134) -/

/-- `q` refuses every sequence that `p` refuses. -/
def Peer.RefusesAll (p q : Peer) : Prop := ∀ seq, p.window seq = none → q.window seq = none

section
variable {p q r : Peer} {seq : Nat}

/-- A sequence is refused where it is no newer than H and has left the window or is marked in it. -/
theorem window_eq_none_iff : p.window seq = none ↔
    ∃ high, p.high = some high ∧ seq ≤ high ∧ (high < seq + 32 → p.marks.getLsbD (high - seq) = true) := by
  unfold Peer.window
  cases p.high with
  | none => simp
  | some high =>
    dsimp only
    split
    · simp; omega
    · split
      · split <;> simp_all
      · simp; omega

/-- An accepted sequence becomes H where it is above it, and else is marked below it. -/
theorem window_accepts (accepted : p.window seq = some q) :
    (p.high = none ∧ q = { p with high := some seq, marks := 1 }) ∨
    ∃ high, p.high = some high ∧
      (high < seq ∧ q = { p with high := some seq, marks := (p.marks <<< (seq - high)) ||| 1 } ∨
        seq ≤ high ∧ high < seq + 32 ∧ q = { p with marks := p.marks ||| (1#32 <<< (high - seq)) }) := by
  unfold Peer.window at accepted
  cases held : p.high with
  | none =>
    rw [held] at accepted
    exact .inl ⟨rfl, (Option.some.inj accepted).symm⟩
  | some high =>
    rw [held] at accepted
    refine .inr ⟨high, rfl, ?_⟩
    dsimp only at accepted
    split at accepted
    next above => exact .inl ⟨above, (Option.some.inj accepted).symm⟩
    next below =>
      split at accepted
      next inside =>
        split at accepted
        · cases accepted
        · exact .inr ⟨Nat.not_lt.1 below, inside, (Option.some.inj accepted).symm⟩
      · cases accepted

theorem window_epoch (accepted : p.window seq = some q) : q.epoch = p.epoch := by
  obtain ⟨-, rfl⟩ | ⟨high, -, ⟨-, rfl⟩ | ⟨-, -, rfl⟩⟩ := window_accepts accepted <;> rfl

theorem window_station (accepted : p.window seq = some q) : q.station = p.station := by
  obtain ⟨-, rfl⟩ | ⟨high, -, ⟨-, rfl⟩ | ⟨-, -, rfl⟩⟩ := window_accepts accepted <;> rfl

/-- H after an acceptance is no lower than before it, nor than the sequence accepted. -/
theorem window_high (accepted : p.window seq = some q) :
    ∃ high, q.high = some high ∧ seq ≤ high ∧ ∀ old, p.high = some old → old ≤ high := by
  obtain ⟨new, rfl⟩ | ⟨high, held, ⟨above, rfl⟩ | ⟨below, -, rfl⟩⟩ := window_accepts accepted
  · exact ⟨seq, rfl, le_rfl, by simp [new]⟩
  · exact ⟨seq, rfl, le_rfl, by simp [held]; omega⟩
  · exact ⟨high, held, below, by simp [held]⟩

/-- A sequence just accepted is refused. -/
theorem window_refuses_accepted (accepted : p.window seq = some q) : q.window seq = none := by
  rw [window_eq_none_iff]
  obtain ⟨-, rfl⟩ | ⟨high, held, ⟨-, rfl⟩ | ⟨below, inside, rfl⟩⟩ := window_accepts accepted
  · exact ⟨seq, rfl, le_rfl, by simp⟩
  · exact ⟨seq, rfl, le_rfl, by simp⟩
  · exact ⟨high, held, below, fun _ => by simp; omega⟩

/-- An acceptance keeps every mark at the place of its sequence, or moves it out of the window. -/
theorem window_refusesAll {later : Nat} (accepted : p.window later = some q) : p.RefusesAll q := by
  intro seq refused
  obtain ⟨high, held, below, marked⟩ := window_eq_none_iff.1 refused
  rw [window_eq_none_iff]
  obtain ⟨new, rfl⟩ | ⟨high', held', moved⟩ := window_accepts accepted
  · exact nomatch new.symm.trans held
  · obtain rfl : high' = high := Option.some.inj (held'.symm.trans held)
    obtain ⟨above, rfl⟩ | ⟨-, -, rfl⟩ := moved
    · refine ⟨later, rfl, by omega, fun inside => ?_⟩
      have place : later - seq - (later - high') = high' - seq := by omega
      have mark := marked (by omega)
      have inWord : later - seq < 32 := by omega
      have shifted : ¬ later - seq < later - high' := by omega
      simp [place, mark, inWord, shifted]
    · exact ⟨high', held, below, fun inside => by simp [marked inside]⟩

theorem Peer.RefusesAll.refl (p : Peer) : p.RefusesAll p := fun _ => id

theorem Peer.RefusesAll.trans (a : p.RefusesAll q) (b : q.RefusesAll r) : p.RefusesAll r := fun n h => b n (a n h)

/-- The window reads H and the marks alone. -/
theorem Peer.RefusesAll.of_eq (high : q.high = p.high) (marks : q.marks = p.marks) : p.RefusesAll q := by
  intro seq
  rw [window_eq_none_iff, window_eq_none_iff, high, marks]
  exact id

/-- Any run of acceptances keeps what is refused. -/
theorem windows_refusesAll {later : List Nat} (accepted : later.foldlM (fun p n => p.window n) p = some q) :
    p.RefusesAll q := by
  induction later generalizing p with
  | nil =>
    obtain rfl : p = q := Option.some.inj accepted
    exact .refl p
  | cons n later ih =>
    rw [List.foldlM_cons] at accepted
    obtain ⟨next, first, rest⟩ := Option.bind_eq_some_iff.1 accepted
    exact (window_refusesAll first).trans (ih rest)

end

/-! ### An entry of the peer table (R132 to R134, R136) -/

/-- While the epoch is the same, `q` refuses what `p` refuses. -/
def Peer.KeepsRefusing (p q : Peer) : Prop := q.epoch = p.epoch → p.RefusesAll q

section
variable {l : SiteLine} {p q r : Peer} {station : Nat}

theorem Peer.KeepsRefusing.refl (p : Peer) : p.KeepsRefusing p := fun _ => .refl p

theorem Peer.RefusesAll.keeps (a : p.RefusesAll q) : p.KeepsRefusing q := fun _ => a

/-- A change that leaves the epoch alone follows one that may not. -/
theorem Peer.KeepsRefusing.next (a : p.KeepsRefusing q) (b : q.RefusesAll r) (epoch : r.epoch = q.epoch) :
    p.KeepsRefusing r := fun same => (a (epoch.symm.trans same)).trans b

/-- A frame clears the window of its origin only with another epoch. -/
theorem heard_keepsRefusing (p : Peer) (now epoch : Nat) : p.KeepsRefusing ((p.heard now).takeEpoch epoch) := by
  unfold Peer.takeEpoch
  split
  · exact Peer.RefusesAll.keeps (.of_eq rfl rfl)
  next other => exact fun same => absurd same.symm other

theorem heard_station (p : Peer) (now epoch : Nat) : ((p.heard now).takeEpoch epoch).station = p.station := by
  unfold Peer.takeEpoch
  split <;> rfl

theorem takeGap_eq (p : Peer) (next : Nat) : ∃ gap ref, p.takeGap next = { p with gap := gap, gapRef := ref } := by
  unfold Peer.takeGap
  dsimp only
  split
  · exact ⟨_, _, rfl⟩
  · exact ⟨p.gap, p.gapRef, rfl⟩

theorem stale_eq (p : Peer) (now : Nat) : p.stale now = { p with live := p.live && (match p.lastHeard with
    | none => true
    | some x => decide (now < x + 30000)) } := by
  obtain ⟨station, epoch, live, high, marks, gapRef, gap, lastHeard, unsent⟩ := p
  unfold Peer.stale
  cases lastHeard with
  | none => simp
  | some t =>
    by_cases old : t + 30000 ≤ now
    · simp [Config.peerLife, old]
    · simp [Config.peerLife, old, Nat.not_le.1 old]

/-- The entry found after a change of one station's entry. -/
theorem peer_changePeer {f : Peer → Peer} {k : Nat} (same : ∀ p, p.station = k → (f p).station = k) :
    (l.changePeer k f).peer station = (l.peer station).map fun p => if p.station == k then f p else p := by
  have found : (fun p : Peer => p.station == station) ∘ (fun p => if p.station == k then f p else p) =
      fun p => p.station == station := by
    funext p
    by_cases own : p.station = k
    · simp [own, same p own]
    · simp [own]
  simp only [SiteLine.peer, SiteLine.changePeer, List.find?_map, found]

theorem peer_station (found : l.peer station = some p) : p.station = station := by
  have := List.find?_some found
  simpa using this

theorem find_filter_station {ps : List Peer} {freed : Nat}
    (found : (ps.filter fun p => p.station != freed).find? (fun p => p.station == station) = some p) :
    ps.find? (fun p => p.station == station) = some p := by
  rw [List.find?_filter] at found
  have kept : p.station ≠ freed ∧ p.station = station := by
    have holds := List.find?_some found
    simpa using holds
  have same (x : Peer) : decide ((x.station != freed) = true ∧ (x.station == station) = true) =
      (x.station == station) := by
    by_cases here : x.station = station
    · simp [here, ← kept.2, kept.1]
    · simp [here]
  simpa only [same] using found

theorem find_peersWithRoom {ps : List Peer}
    (found : (peersWithRoom ps).find? (fun p => p.station == station) = some p) :
    ps.find? (fun p => p.station == station) = some p := by
  unfold peersWithRoom at found
  split at found
  · exact found
  · split at found
    · cases found
    · exact find_filter_station found

/-- An entry that stands before and after one is found or made for a station is the same. -/
theorem find_peersWith {ps : List Peer} {k epoch : Nat} (before : ps.find? (fun p => p.station == station) = some p)
    (after : (peersWith ps k epoch).find? (fun p => p.station == station) = some q) : q = p := by
  unfold peersWith at after
  split at after
  · exact Option.some.inj (after.symm.trans before)
  next absent =>
    have made : ([Peer.new k epoch].find? fun p => p.station == station) = none := by
      have other : k ≠ station := by
        rintro rfl
        exact absent (List.any_eq_true.2 ⟨p, List.mem_of_find?_eq_some before,
          List.find?_some (p := fun p : Peer => p.station == k) before⟩)
      simp [Peer.new, other]
    rw [List.find?_append, made, Option.or_none] at after
    exact Option.some.inj ((find_peersWithRoom after).symm.trans before)

/-! ### What a change of the site line keeps (R134, R137) -/

/-- Site time does not go back, and an entry that stands with its epoch refuses all that it refused. -/
structure SiteLine.Advances (l l' : SiteLine) : Prop where
  siteTime : l.siteTime ≤ l'.siteTime
  peers : ∀ station p q, l.peer station = some p → l'.peer station = some q → p.KeepsRefusing q

theorem SiteLine.Advances.of_eq {l l' : SiteLine} (peers : l'.peers = l.peers) (time : l.siteTime ≤ l'.siteTime) :
    l.Advances l' where
  siteTime := time
  peers station p q before after := by
    rw [SiteLine.peer, peers] at after
    obtain rfl : p = q := Option.some.inj (before.symm.trans after)
    exact .refl p

/-- Every entry changed by a function that keeps its station, its epoch, H and the marks. -/
theorem changePeer_advances (l : SiteLine) (k : Nat) {f : Peer → Peer} (station : ∀ p, (f p).station = p.station)
    (refuses : ∀ p : Peer, p.RefusesAll (f p)) : l.Advances (l.changePeer k f) where
  siteTime := le_rfl
  peers n p q before after := by
    rw [peer_changePeer (fun p own => (station p).trans own), before] at after
    obtain rfl := Option.some.inj after
    dsimp only
    split
    · exact (refuses p).keeps
    · exact .refl p

/-- The entry of a station after a frame has been heard, where it stood before. -/
theorem peer_hear {f : SiteFrame} {now : Nat} (before : l.peer station = some p)
    (after : (l.hear f now).peer station = some q) :
    q = if station = f.origin then (p.heard now).takeEpoch f.epoch else p := by
  rw [SiteLine.hear, peer_changePeer (fun p own => (heard_station p _ _).trans own)] at after
  obtain ⟨x, found, rfl⟩ := Option.map_eq_some_iff.1 after
  obtain rfl := find_peersWith before found
  simp [peer_station before]

theorem hear_advances (l : SiteLine) (f : SiteFrame) (now : Nat) : l.Advances (l.hear f now) where
  siteTime := le_rfl
  peers station p q before after := by
    rw [peer_hear before after]
    split
    · exact heard_keepsRefusing p now f.epoch
    · exact .refl p

/-- A frame heard, and then a change of its origin's entry that keeps the epoch and what is refused. -/
theorem hear_changePeer_advances {f : SiteFrame} {now : Nat} {g : Peer → Peer}
    (station : ∀ p, p.station = f.origin → (g p).station = f.origin)
    (refuses : ∀ p, (l.hear f now).peer f.origin = some p → p.RefusesAll (g p) ∧ (g p).epoch = p.epoch) :
    l.Advances ((l.hear f now).changePeer f.origin g) where
  siteTime := le_rfl
  peers k p q before after := by
    rw [peer_changePeer station] at after
    obtain ⟨x, found, rfl⟩ := Option.map_eq_some_iff.1 after
    have heard := (hear_advances l f now).peers k p x before found
    split
    next own =>
      have here : k = f.origin := (peer_station found).symm.trans (by simpa using own)
      obtain ⟨more, epoch⟩ := refuses x (here ▸ found)
      exact heard.next more epoch
    · exact heard

theorem accepted_advances {f : SiteFrame} {now : Nat}
    (accepted : ((l.hear f now).peer f.origin).bind (fun q => q.window f.seq) = some p) :
    l.Advances ((l.hear f now).changePeer f.origin fun _ => p) := by
  obtain ⟨x, found, window⟩ := Option.bind_eq_some_iff.1 accepted
  refine hear_changePeer_advances (fun _ _ => (window_station window).trans (peer_station found)) fun y found' => ?_
  obtain rfl : x = y := Option.some.inj (found.symm.trans found')
  exact ⟨window_refusesAll window, window_epoch window⟩

theorem hearBeacon_advances (l : SiteLine) (f : SiteFrame) (b : BeaconBody) (now : Nat) :
    l.Advances (l.hearBeacon f b now) := by
  refine hear_changePeer_advances (fun p own => ?_) fun p _ => ?_
  all_goals obtain ⟨gap, ref, gapped⟩ := takeGap_eq p b.nextSeq
  · rw [gapped]
    exact own
  · rw [gapped]
    exact ⟨.of_eq rfl rfl, rfl⟩

/-- The merge of a beacon's time moves site time forward or not at all (R137). -/
theorem mergeTime_eq (l : SiteLine) (b : BeaconBody) : ∃ time confirmed,
    l.mergeTime b = { l with siteTime := time, confirmed := confirmed } ∧ l.siteTime ≤ time := by
  unfold SiteLine.mergeTime
  split
  next ahead => exact ⟨_, _, rfl, by omega⟩
  · split
    · exact ⟨_, _, rfl, le_rfl⟩
    · exact ⟨_, _, rfl, le_rfl⟩

theorem SiteLine.Advances.mergeTime {l l' : SiteLine} (a : l.Advances l') (b : BeaconBody) :
    l.Advances (l'.mergeTime b) := by
  obtain ⟨time, confirmed, merged, forward⟩ := mergeTime_eq l' b
  rw [merged]
  exact ⟨a.siteTime.trans forward, a.peers⟩

end

/-! ### What an operation keeps of the site line (R134, R137) -/

/-- The peer table and site time are as they were. -/
structure SiteKept (s t : State) : Prop where
  peers : t.line.peers = s.line.peers
  siteTime : t.line.siteTime = s.line.siteTime

section
variable {s t u : State}

theorem SiteKept.refl (s : State) : SiteKept s s := ⟨rfl, rfl⟩

theorem SiteKept.trans (a : SiteKept s t) (b : SiteKept t u) : SiteKept s u :=
  ⟨b.peers.trans a.peers, b.siteTime.trans a.siteTime⟩

theorem Only.siteKept {bs : List Block} (e : Only bs s t) (m : Block.line ∉ bs := by decide) : SiteKept s t :=
  ⟨by rw [e.line_eq m], by rw [e.line_eq m]⟩

theorem SiteKept.of_eq (peers : t.line.peers = s.line.peers := by rfl)
    (time : t.line.siteTime = s.line.siteTime := by rfl) : SiteKept s t := ⟨peers, time⟩

theorem setLine_siteKept {l : SiteLine} (peers : l.peers = s.line.peers := by rfl)
    (time : l.siteTime = s.line.siteTime := by rfl) : SiteKept s (s.setLine l) := ⟨peers, time⟩

theorem SiteKept.advances (a : SiteKept s t) : s.line.Advances t.line := .of_eq a.peers a.siteTime.ge

theorem SiteKept.then_advances (a : SiteKept s t) (b : t.line.Advances u.line) : s.line.Advances u.line where
  siteTime := a.siteTime ▸ b.siteTime
  peers station p q before after :=
    b.peers station p q (by rw [SiteLine.peer, a.peers]; exact before) after

theorem SiteLine.Advances.then_kept (a : s.line.Advances t.line) (b : SiteKept t u) : s.line.Advances u.line where
  siteTime := b.siteTime ▸ a.siteTime
  peers station p q before after :=
    a.peers station p q before (by rw [SiteLine.peer, ← b.peers]; exact after)

/-- Fields of the sender alone may differ. -/
def SiteLine.SenderMoves (l l' : SiteLine) : Prop := ∃ sender current k window attempts sending, l' = { l with
    sender := sender, current := current, k := k, window := window, attempts := attempts, sending := sending }

theorem choose_senderMoves (l : SiteLine) : l.SenderMoves l.choose := by
  unfold SiteLine.choose SiteLine.chosen
  split
  · exact ⟨_, _, _, _, _, _, rfl⟩
  · split
    · exact ⟨_, _, _, _, _, _, rfl⟩
    · exact ⟨_, _, _, _, _, _, rfl⟩

theorem trySend_senderMoves (s : State) : s.line.SenderMoves s.trySend.line := by
  unfold State.trySend
  split
  · exact choose_senderMoves s.line
  · exact ⟨_, _, _, _, _, _, rfl⟩

theorem SiteLine.SenderMoves.siteKept (moved : s.line.SenderMoves t.line) : SiteKept s t := by
  obtain ⟨_, _, _, _, _, _, line⟩ := moved
  exact ⟨by rw [line], by rw [line]⟩

theorem chooseNext_siteKept (s : State) : SiteKept s s.chooseNext := (choose_senderMoves s.line).siteKept

theorem trySend_siteKept (s : State) : SiteKept s s.trySend := (trySend_senderMoves s).siteKept

theorem sendAtZero_siteKept (s : State) : SiteKept s s.sendAtZero := by
  unfold State.sendAtZero
  split
  · exact setLine_siteKept
  · exact .refl s

theorem guardPassed_siteKept (s : State) : SiteKept s s.guardPassed := by
  unfold State.guardPassed
  split
  · exact .trans setLine_siteKept (sendAtZero_siteKept _)
  · exact .trans .of_eq (sendAtZero_siteKept _)

theorem collide_siteKept (s : State) (now : Nat) : SiteKept s (s.setLine (s.line.collide now)) := by
  unfold SiteLine.collide
  dsimp only
  split <;> exact setLine_siteKept

theorem cleanEnd_siteKept (s : State) : SiteKept s s.cleanEnd := by
  unfold State.cleanEnd
  split
  · exact .trans setLine_siteKept ((recordSent_only _).siteKept.trans
      ((chooseNext_siteKept _).trans (requestSendRead_only _).siteKept))
  · exact .trans .of_eq (chooseNext_siteKept _)
  · exact .refl s

theorem sendReadDone_siteKept (s : State) (pos : Nat) (x : Option RingSlot) : SiteKept s (s.sendReadDone pos x) := by
  unfold State.sendReadDone
  dsimp only
  split
  · split
    · exact .trans setLine_siteKept (setJournal_only _ _).siteKept
    · exact ((setJournal_only _ _).next (bs := [.journal, .classes]) (passOver_only _)).siteKept
  · exact ((setJournal_only _ _).next (bs := [.journal, .classes]) (passOver_only _)).siteKept

theorem readEnded_siteKept (s : State) (pos : Nat) (x : Option RingSlot) :
    SiteKept s ((s.sendReadDone pos x).afterService).trySend :=
  (sendReadDone_siteKept s pos x).trans ((afterService_only _).siteKept.trans (trySend_siteKept _))

theorem operationFails_siteKept (s : State) : SiteKept s s.operationFails := by
  unfold State.operationFails
  split
  · split <;> exact ⟨rfl, rfl⟩
  · split
    · exact .refl s
    · exact readEnded_siteKept _ _ _
    · exact ⟨rfl, rfl⟩

theorem countBadFrame_siteKept (s : State) : SiteKept s s.countBadFrame := by
  unfold State.countBadFrame
  split
  · exact setLine_siteKept
  · exact .refl s

theorem setReceiver_siteKept (s : State) (bytes : List Byte) (skipping : Bool) :
    SiteKept s (s.setReceiver bytes skipping) := ⟨rfl, rfl⟩

theorem gapPassed_siteKept (s : State) : SiteKept s s.gapPassed := by
  unfold State.gapPassed
  split
  · exact setReceiver_siteKept _ _ _
  · exact (setReceiver_siteKept _ _ _).trans (countBadFrame_siteKept _)

theorem judgeConfig_siteKept (s : State) : SiteKept s s.judgeConfig := by
  unfold State.judgeConfig
  dsimp only
  split <;> exact ⟨rfl, rfl⟩

theorem enterRun_siteKept (s : State) : SiteKept s s.enterRun := by
  have released (u : State) (h : Side) : SiteKept u (u.releaseHose h) := (releaseHose_only u h).siteKept
  exact ((setStart_only _ _).siteKept.trans ((released _ _).trans (released _ _))).trans
    (.trans setLine_siteKept (trySend_siteKept _))

/-! ### Bytes that arrive on the site line (R123) -/

/-- The receiver moves, and then at most one frame is taken. -/
theorem hearBytes_cases (s : State) (x : LineBytes) (take : State → List Byte → Option State) :
    ∃ w, SiteKept s w ∧ (s.hearBytes x take = w ∨ ∃ frame, take w frame = some (s.hearBytes x take)) := by
  have run (s : State) : ∃ w, SiteKept s w ∧
      (s.hearRun x.bytes take = w ∨ ∃ frame, take w frame = some (s.hearRun x.bytes take)) := by
    have moved := setReceiver_siteKept s
    unfold State.hearRun
    split
    · exact ⟨s, .refl s, .inl rfl⟩
    · split
      · exact ⟨s, .refl s, .inl rfl⟩
      · exact ⟨_, moved _ _, .inl rfl⟩
      · exact ⟨_, moved _ _, .inl rfl⟩
      · exact ⟨_, (moved _ _).trans (countBadFrame_siteKept _), .inl rfl⟩
      next frame _ =>
        unfold State.frameEnded
        split
        next taken => exact ⟨_, moved _ _, .inr ⟨frame, taken⟩⟩
        · split
          · exact ⟨_, moved _ _, .inl rfl⟩
          · exact ⟨_, (moved _ _).trans (countBadFrame_siteKept _), .inl rfl⟩
  unfold State.hearBytes
  split
  · split
    · obtain ⟨w, kept, ended⟩ := run s.gapPassed
      exact ⟨w, (gapPassed_siteKept s).trans kept, ended⟩
    · exact run s
  · exact ⟨s, .refl s, .inl rfl⟩

theorem takeBeacon_advances (s : State) (f : SiteFrame) : s.line.Advances (s.takeBeacon f).line :=
  SiteLine.Advances.then_kept (t := s.setLine _) ((hearBeacon_advances s.line f _ s.elapsed).mergeTime _)
    ((beaconItem_only _ _).siteKept.trans (trySend_siteKept _))

theorem takeRecordFrame_advances (s : State) (f : SiteFrame) : s.line.Advances (s.takeRecordFrame f).line := by
  have dispatched (u : State) : SiteKept u (u.dispatch f) := ⟨by rw [dispatch_line], by rw [dispatch_line]⟩
  unfold State.takeRecordFrame
  dsimp only
  split
  · exact (hear_advances s.line f s.elapsed).then_kept (t := s.setLine _) (trySend_siteKept _)
  next accepted => exact (accepted_advances accepted).then_kept (t := s.setLine _) ((heardItem_only _ _).siteKept.trans
      ((dispatched _).trans (trySend_siteKept _)))

theorem takeFrame_advances (s : State) (f : SiteFrame) : s.line.Advances (s.takeFrame f).line := by
  unfold State.takeFrame
  split
  · unfold State.takeOwnNumber
    split
    · exact (SiteKept.refl s).advances
    · exact (setLine_siteKept (s := s)).advances
  · split
    · exact takeBeacon_advances s f
    · exact takeRecordFrame_advances s f

theorem handOver_advances (s : State) (k : Kind) (f : SiteFrame) : s.line.Advances (s.handOver k f).line := by
  unfold State.handOver
  split
  · exact takeFrame_advances s f
  · split
    · have heard := hearBeacon_advances s.line f (decodeBeacon f.body) s.elapsed
      unfold State.takeBeaconInFault
      dsimp only
      split
      · exact heard.mergeTime _
      · exact heard
    · exact (SiteKept.refl s).advances

theorem receive_advances (s : State) (k : Kind) (x : LineBytes) : s.line.Advances (s.receive k x).line := by
  obtain ⟨w, kept, ended | ⟨frame, taken⟩⟩ := hearBytes_cases s x fun s frame => (siteFrame k frame).map (s.handOver k)
  · rw [State.receive, ended]
    exact kept.advances
  · obtain ⟨f, -, handed⟩ := Option.map_eq_some_iff.1 taken
    rw [State.receive, ← handed]
    exact kept.then_advances (handOver_advances w k f)

/-! ### Site time placed, set and advanced (R137, R177, R178, R186) -/

theorem placeSiteTime_line (s : State) (n : Nat) : (s.placeSiteTime n).line =
    { s.line with siteTime := max n s.line.siteTime, confirmed := false, running := true } := rfl

theorem placeSiteTime_advances (s : State) (n : Nat) : s.line.Advances (s.placeSiteTime n).line :=
  .of_eq rfl (le_max_right n s.line.siteTime)

theorem placeScanEnd_advances (s : State) (e : ScanEnd) : s.line.Advances (s.placeScanEnd e).line :=
  .of_eq rfl (le_max_right e.time s.line.siteTime)

theorem endScan_advances (s : State) : s.line.Advances s.endScan.line := by
  unfold State.endScan
  split
  · exact (SiteKept.refl s).advances
  · split
    · exact (setStart_only _ _).siteKept.then_advances
        ((placeScanEnd_advances _ _).then_kept (enterListen_only _).siteKept)
    · exact (SiteKept.refl s).advances

theorem runScan_advances (s : State) (failed : ScanFailures) : s.line.Advances (s.runScan failed).line := by
  unfold State.runScan
  split
  · refine SiteKept.then_advances ?_ (endScan_advances _)
    split
    · exact (scanRing_only _ _ _).siteKept
    · exact (formatJournal_only _ _ _).siteKept
  · exact (formatJournal_only _ _ _).siteKept.then_advances (endScan_advances _)

theorem setSiteTime_advances (s : State) (n : Nat) : s.line.Advances (s.setSiteTime n).line := by
  unfold State.setSiteTime
  split
  · exact (reply_only _ _).siteKept.advances
  next later =>
    have set : s.line.Advances { s.line with siteTime := n, confirmed := true } := .of_eq rfl (Nat.not_lt.1 later)
    exact set.then_kept (t := s.setLine _) (reply_only _ _).siteKept

theorem tick_advances (s : State) : s.line.Advances s.tick.line := by
  unfold State.tick
  split
  · exact (SiteKept.refl s).advances
  · dsimp only
    split
    · exact .of_eq rfl (Nat.le_succ _)
    · exact (SiteKept.refl s).advances

theorem peerStale_advances (s : State) (n : Nat) :
    s.line.Advances (s.line.changePeer n fun p => p.stale s.elapsed) := by
  refine changePeer_advances s.line n (fun p => ?_) fun p => ?_
  · rw [stale_eq]
  · rw [stale_eq]
    exact .of_eq rfl rfl

/-! ### Site time and the windows through the commands (R134, R137) -/

/-- A start begins: the three commands that may set site time back (R137, R140). -/
def BeginsStart (c : Instr) : Prop := c = .powerStart ∨ c = .supplyDip ∨ c = .resetLine

theorem next_advances (e : (Host.Outcome.next u : Answer) = .next t) (a : s.line.Advances u.line) :
    s.line.Advances t.line := next_related (R := fun s t => s.line.Advances t.line) e a

/-- Every command but a start keeps site time from going back and the windows' refusals: those that touch the line
unit move the sender or the receiver, hear a frame, or place or set site time. -/
theorem exec_advances {c : Instr} (noStart : ¬ BeginsStart c) (e : exec c s = .next t) : s.line.Advances t.line := by
  have kept {u : State} (e : (Host.Outcome.next u : Answer) = .next t) (k : SiteKept s u) : s.line.Advances t.line :=
    next_advances e k.advances
  have unchanged (e : (Host.Outcome.next s : Answer) = .next t) : s.line.Advances t.line := kept e (.refl s)
  cases c with
  | powerStart => exact absurd (.inl rfl) noStart
  | supplyDip => exact absurd (.inr (.inl rfl)) noStart
  | resetLine => exact absurd (.inr (.inr rfl)) noStart
  | configAreaRead o f =>
    simp only [exec, execConfigAreaRead] at e
    split at e
    · split at e
      · exact kept e .of_eq
      · split at e
        · exact kept e ((setMem_only _ _).siteKept.trans (judgeConfig_siteKept _))
        · cases e
    · exact unchanged e
  | journalScan o f =>
    simp only [exec, execJournalScan] at e
    split at e
    · split at e
      · exact next_advances e ((setMem_only _ _).siteKept.then_advances (runScan_advances _ _))
      · cases e
    · exact unchanged e
  | listenEnd =>
    simp only [exec, execListenEnd] at e
    split at e
    · exact kept e (enterRun_siteKept s)
    · exact unchanged e
  | issueFrame x => exact next_advances e (receive_advances s _ x)
  | serviceFrame x => exact next_advances e (receive_advances s _ x)
  | vehicleNoticeFrame x => exact next_advances e (receive_advances s _ x)
  | classNoticeFrame x => exact next_advances e (receive_advances s _ x)
  | beaconFrame x => exact next_advances e (receive_advances s _ x)
  | badFrame x =>
    obtain ⟨w, moved, ended | ⟨_, taken⟩⟩ := hearBytes_cases s x fun _ _ => none
    · exact kept e (ended ▸ moved)
    · cases taken
  | receiveGap =>
    simp only [exec, execReceiveGap] at e
    split at e
    · exact kept e (gapPassed_siteKept s)
    · exact unchanged e
  | peerStale n => exact next_advances (u := s.setLine _) e (peerStale_advances s n)
  | carrier =>
    simp only [exec, execCarrier] at e
    split at e
    · exact kept e setLine_siteKept
    · exact unchanged e
  | guardTimePassed =>
    simp only [exec, execGuardTimePassed] at e
    split at e
    · exact kept e (guardPassed_siteKept s)
    · exact unchanged e
  | slotCounted =>
    simp only [exec, execSlotCounted] at e
    split at e
    · exact kept e (.trans setLine_siteKept (sendAtZero_siteKept _))
    · exact unchanged e
  | readBackCollision =>
    simp only [exec, execReadBackCollision] at e
    split at e
    · exact kept e (collide_siteKept s _)
    · exact unchanged e
  | cleanReadBack =>
    simp only [exec, execCleanReadBack] at e
    split at e
    · exact kept e (cleanEnd_siteKept s)
    · exact unchanged e
  | congestionExpiry =>
    simp only [exec, execCongestionExpiry] at e
    split at e
    · exact kept e (.trans setLine_siteKept (chooseNext_siteKept _))
    · exact unchanged e
  | beaconTimerExpiry =>
    simp only [exec, execBeaconTimerExpiry] at e
    split at e
    · exact kept e (.trans setLine_siteKept (trySend_siteKept _))
    · exact unchanged e
  | headerWriteComplete =>
    simp only [exec, execHeaderWriteComplete] at e
    split at e
    · exact next_advances e (((setMem_only _ _).siteKept.trans (afterService_only _).siteKept).then_advances
        (endScan_advances _))
    · exact unchanged e
  | sendReadComplete o =>
    simp only [exec, execSendReadComplete] at e
    split at e
    · split at e
      · exact kept e ((setMem_only _ _).siteKept.trans (readEnded_siteKept _ _ _))
      · cases e
    · exact unchanged e
  | memoryOpFailed => exact kept e (operationFails_siteKept s)
  | memoryOpTimeout => exact kept e (operationFails_siteKept s)
  | setTime x =>
    refine next_advances e ?_
    unfold State.hearSubmission
    split
    · split
      · exact (SiteKept.refl s).advances
      · split
        next taken =>
          obtain ⟨n, -, rfl⟩ := Option.map_eq_some_iff.1 taken
          exact (takeInHand_only _ _).siteKept.then_advances (setSiteTime_advances _ _)
        · split
          · exact (SiteKept.refl s).advances
          · exact ((takeInHand_only _ _).trans (reply_only _ _)).siteKept.advances
    · exact (SiteKept.refl s).advances
  | readOnlyPassEnd o f =>
    simp only [exec, execReadOnlyPassEnd] at e
    split at e
    · split at e
      · exact next_advances e ((setMem_only _ _).siteKept.then_advances (placeSiteTime_advances _ _))
      · cases e
    · exact unchanged e
  | _ => exact ((exec_only e).siteKept (by simp [touched])).advances

/-- A step takes the front command, or is a tick. -/
theorem step_cases (e : step s = .next t) :
    t = s.tick ∨ ∃ c rest, s.pending = c :: rest ∧ exec c { s with pending := rest } = .next t := by
  unfold step at e
  split at e
  · cases e
    exact .inl rfl
  next c rest front => exact .inr ⟨c, rest, front, e⟩

/-- A start forgets the peers, or keeps their windows (R140). -/
theorem startWith_keepsRefusing {c : Cause} {good active : Bool} {station : Nat} {p q : Peer}
    (before : s.line.peer station = some p) (after : (s.startWith c good active).line.peer station = some q) :
    p.KeepsRefusing q := by
  have line : (s.startWith c good active).line = s.line.atStart c :=
    congrArg (fun l : SiteLine => l.atStart c) (tearWrite_only s).line_eq
  rw [line] at after
  unfold SiteLine.atStart at after
  split at after
  · have found : (fun p : Peer => p.station == station) ∘
        (fun p : Peer => { p with live := false, lastHeard := none }) = fun p => p.station == station := rfl
    rw [SiteLine.peer, List.find?_map, found] at after
    obtain ⟨x, same, rfl⟩ := Option.map_eq_some_iff.1 after
    obtain rfl : p = x := Option.some.inj (before.symm.trans same)
    exact Peer.RefusesAll.keeps (.of_eq rfl rfl)
  · cases after

theorem exec_keepsRefusing {c : Instr} {station : Nat} {p q : Peer} (e : exec c s = .next t)
    (before : s.line.peer station = some p) (after : t.line.peer station = some q) : p.KeepsRefusing q := by
  by_cases start : BeginsStart c
  · obtain rfl | rfl | rfl := start
    all_goals
      cases e
      exact startWith_keepsRefusing before after
  · exact (exec_advances start e).peers station p q before after

end

/-- Settles O9: all that a command does to site time but a start is forward. -/
theorem siteTimeNeverSetBack : Obligations.SiteTimeNeverSetBack := by
  intro s t notPower notDip notReset e
  obtain rfl | ⟨c, rest, front, ran⟩ := step_cases e
  · exact (tick_advances s).siteTime
  · refine (exec_advances (s := { s with pending := rest }) ?_ ran).siteTime
    rintro (rfl | rfl | rfl)
    · exact notPower rest front
    · exact notDip rest front
    · exact notReset rest front

/-- Settles O46: H and the marks forget no sequence but one below the window, which H refuses, and a step changes
them only by an acceptance or with the epoch. -/
theorem windowAcceptsOnce : Obligations.WindowAcceptsOnce := by
  refine ⟨fun p q seq accepted => ⟨window_refuses_accepted accepted, window_high accepted⟩,
    fun p q seq later refused accepted => window_refusesAll accepted seq refused,
    fun p q r seq later accepted run => windows_refusesAll run seq (window_refuses_accepted accepted), ?_⟩
  intro s t station seq p q e before refused after epoch
  obtain rfl | ⟨c, rest, -, ran⟩ := step_cases e
  · exact (tick_advances s).peers station p q before after epoch seq refused
  · exact exec_keepsRefusing (s := { s with pending := rest }) ran before after epoch seq refused

theorem greatestTime_of_mem {s t : State} (mem : t.mem = s.mem) (failed : List Nat) (n : Nat) :
    t.greatestTime failed n = s.greatestTime failed n := by
  unfold State.greatestTime State.ringSlot
  rw [mem]

/-- Settles O18: the pass reads the slots of the memory as others left it. -/
theorem readOnlyPassPlacesSiteTime : Obligations.ReadOnlyPassPlacesSiteTime := by
  intro outside failed s stage waits inMemory
  have ran : exec (.readOnlyPassEnd outside failed) s = .next ((s.setMem (memSetCells s.mem outside)).placeSiteTime
      ((s.setMem (memSetCells s.mem outside)).greatestTime failed Config.ringMax)) :=
    (if_pos ⟨stage, waits⟩).trans (if_pos inMemory)
  refine ⟨_, ran, rfl, ?_, (setMem_only _ _).next (placeSiteTime_only _ _)⟩
  have found (n : Nat) := greatestTime_of_mem (s := s.setMem (memSetCells s.mem outside))
    (t := (s.setMem (memSetCells s.mem outside)).placeSiteTime n) rfl failed Config.ringMax
  rw [placeSiteTime_line, show (32768 : Nat) = Config.ringMax from rfl, found]
  rfl

end Sys2Proof.Machine

namespace Sys2Proof.Machine

/-! ### Bytes where a frame can begin (R123, R139) -/

section
variable {s : State} {k : Kind} {gap : Bool} {bytes frame : List Byte} {f : SiteFrame}

theorem receiving_of_hearing (h : s.hearing = true) : s.receiving = true := (Bool.and_eq_true_iff.1 h).1

/-- The count of bad frames once a receive gap has ended the frame begun, if one was. -/
def SiteLine.badAfterGap (l : SiteLine) : Nat :=
  if l.receiveBuffer = [] then l.badCrc else countUp l.badCrc

theorem gapPassed_eq (receiving : s.receiving = true) : s.gapPassed =
    s.setLine { s.line with receiveBuffer := [], skipping := false, badCrc := s.line.badAfterGap } := by
  unfold State.gapPassed SiteLine.badAfterGap
  split
  · rfl
  · rw [countBadFrame_eq (by exact receiving)]
    rfl

/-- The receiver once a whole frame has come where one can begin. -/
def State.frameHeard (s : State) : State :=
  s.setLine { s.line with receiveBuffer := [], skipping := true, badCrc := s.line.badAfterGap }

theorem frameHeard_only (s : State) : Only [.line] s s.frameHeard := setLine_only _ _

/-- A frame that passes its checks, where one can begin, is handed over by its own kind's command. -/
theorem receive_passing (receiving : s.receiving = true) (begins : s.frameCanBegin gap)
    (passes : siteFrame k frame = some f) : s.receive k ⟨gap, frame⟩ = s.frameHeard.handOver k f := by
  have hearing : s.hearing = true := by
    unfold State.hearing
    rw [receiving, bne_iff_ne.2 begins.1]
    rfl
  unfold State.receive State.hearBytes
  rw [if_pos hearing]
  dsimp only
  cases gap with
  | true =>
    have gapped := gapPassed_eq receiving
    rw [if_pos rfl, hearRun_passing passes (by rw [gapped]; rfl) (by rw [gapped]; rfl), gapped]
    rfl
  | false =>
    obtain ⟨skips, empty⟩ := begins.2.resolve_left nofun
    have heard : s.frameHeard = s.setReceiver [] true := by
      unfold State.frameHeard SiteLine.badAfterGap
      rw [if_pos empty]
      rfl
    rw [if_neg nofun, hearRun_passing passes skips empty, heard]

theorem receiving_of_listening (listening : s.listening = true) : s.receiving = true := by
  unfold State.receiving
  rw [listening]
  rfl

/-- In LISTEN and RUN the frame is taken, whatever its kind (R131). -/
theorem receive_taken (listening : s.listening = true) (begins : s.frameCanBegin gap)
    (passes : siteFrame k frame = some f) : s.receive k ⟨gap, frame⟩ = s.frameHeard.takeFrame f :=
  (receive_passing (receiving_of_listening listening) begins passes).trans (if_pos listening)

/-! ### A beacon (R136, R137) -/

theorem mergeTime_ahead {l : SiteLine} {b : BeaconBody} (ahead : l.siteTime + 2 ≤ b.time) :
    l.mergeTime b = { l with siteTime := b.time, confirmed := l.confirmed || b.confirmed } := if_pos ahead

theorem mergeTime_near {l : SiteLine} {b : BeaconBody} (notAhead : b.time < l.siteTime + 2)
    (notBehind : l.siteTime < b.time + 2) : l.mergeTime b = { l with confirmed := l.confirmed || b.confirmed } :=
  (if_neg (Nat.not_le.2 notAhead)).trans (if_pos notBehind)

theorem mergeTime_behind {l : SiteLine} {b : BeaconBody} (behind : b.time + 2 ≤ l.siteTime) : l.mergeTime b = l :=
  (if_neg (by omega)).trans (if_neg (by omega))

/-- An entry after a change of one station's entry, where it is that station's. -/
theorem mem_changePeer {l : SiteLine} {station : Nat} {g : Peer → Peer} {q : Peer}
    (mem : q ∈ (l.changePeer station g).peers) (own : q.station = station) :
    ∃ p ∈ l.peers, q = g p ∧ p.station = station := by
  obtain ⟨p, held, rfl⟩ := List.mem_map.1 mem
  by_cases here : p.station = station
  · exact ⟨p, held, by simp [here], here⟩
  · simp only [beq_iff_eq, here, if_false] at own

/-- What a beacon leaves in its origin's entry (R133, R136). -/
theorem hearBeacon_entry {l : SiteLine} {b : BeaconBody} {now : Nat} {q : Peer}
    (mem : q ∈ (l.hearBeacon f b now).peers) (own : q.station = f.origin) :
    q.live = true ∧ q.lastHeard = some now ∧ q.epoch = f.epoch ∧ q.unsent = some b.unsent := by
  obtain ⟨p, held, rfl, here⟩ := mem_changePeer mem own
  obtain ⟨p, -, rfl, -⟩ := mem_changePeer held here
  obtain ⟨gap, ref, gapped⟩ := takeGap_eq ((p.heard now).takeEpoch f.epoch) b.nextSeq
  rw [gapped]
  unfold Peer.takeEpoch
  split
  next same => exact ⟨rfl, rfl, same, rfl⟩
  · exact ⟨rfl, rfl, rfl, rfl⟩

/-- After a beacon the sender may choose; the rest of the line unit is as the beacon's merge left it. -/
theorem takeBeacon_senderMoves (s : State) (f : SiteFrame) :
    ((s.line.hearBeacon f (decodeBeacon f.body) s.elapsed).mergeTime (decodeBeacon f.body)).SenderMoves
      (s.takeBeacon f).line := by
  have moved := trySend_senderMoves ((s.setLine ((s.line.hearBeacon f (decodeBeacon f.body) s.elapsed).mergeTime
    (decodeBeacon f.body))).beaconItem f)
  rwa [(beaconItem_only _ _).line_eq, State.setLine_line] at moved

theorem takeBeacon_touches (s : State) (f : SiteFrame) : Only [.line, .notice] s (s.takeBeacon f) :=
  ((setLine_only _ _).next (bs := [.line, .notice]) (beaconItem_only _ _)).trans (trySend_only _).mono

theorem takeFrame_beacon (beacon : f.kind = .beacon) (foreign : f.origin ≠ s.cfg.station) :
    s.takeFrame f = s.takeBeacon f := (if_neg foreign).trans (if_pos beacon)

end

/-- Settles O44: the receiver counts a frame begun, and the merge of R137 has three cases. -/
theorem beaconMergesSiteTime : Obligations.BeaconMergesSiteTime := by
  rintro gap frame s f b listening begins passes foreign rfl
  have taken : exec (.beaconFrame ⟨gap, frame⟩) s = .next (s.frameHeard.takeBeacon f) :=
    congrArg Host.Outcome.next ((receive_taken listening begins passes).trans
      (takeFrame_beacon (siteFrame_kind passes) foreign))
  obtain ⟨_, _, _, _, _, _, line⟩ := takeBeacon_senderMoves s.frameHeard f
  obtain ⟨time, confirmed, merged, -⟩ :=
    mergeTime_eq (s.frameHeard.line.hearBeacon f (decodeBeacon f.body) s.frameHeard.elapsed) (decodeBeacon f.body)
  refine ⟨_, taken, fun ahead => ?_, fun notAhead notBehind => ?_, fun behind => ?_, fun q mem own => ?_, ?_, ?_, ?_,
    (frameHeard_only s).next (takeBeacon_touches _ _)⟩
  · rw [line, mergeTime_ahead (by exact ahead)]
    exact ⟨rfl, rfl⟩
  · rw [line, mergeTime_near (by exact notAhead) (by exact notBehind)]
    exact ⟨rfl, rfl⟩
  · rw [line, mergeTime_behind (by exact behind)]
    exact ⟨rfl, rfl⟩
  · rw [line, merged] at mem
    exact hearBeacon_entry (l := s.frameHeard.line) mem own
  all_goals
    rw [line, merged]
    rfl

end Sys2Proof.Machine

namespace Sys2Proof.Machine

/-! ### The delimiting of a frame (R123) -/

section
variable {len b : Byte} {bytes rest skipped : List Byte}

theorem delimit_skipped (mark : b ≠ 0x5A) : delimit (b :: rest) = .skipped := by
  cases rest with
  | nil => exact if_neg mark
  | cons len rest => exact if_pos mark

/-- After the start mark the length decides, and then how many bytes have come. -/
theorem delimit_marked : delimit (0x5A :: len :: rest) =
    if 128 < len.toNat then .malformed
    else if rest.length < len.toNat + 4 then .begun else .complete (0x5A :: len :: rest.take (len.toNat + 4)) := rfl

theorem delimit_malformed (long : 128 < len.toNat) : delimit (0x5A :: len :: rest) = .malformed :=
  delimit_marked.trans (if_pos long)

theorem delimit_begun (begun : bytes = [0x5A] ∨
    ∃ len rest, bytes = 0x5A :: len :: rest ∧ len.toNat ≤ 128 ∧ rest.length < len.toNat + 4) :
    delimit bytes = .begun := by
  obtain rfl | ⟨len, rest, rfl, short, truncated⟩ := begun
  · rfl
  · rw [delimit_marked, if_neg (Nat.not_lt.2 short), if_pos truncated]

theorem delimit_complete (short : len.toNat ≤ 128) (whole : rest.length = len.toNat + 4) :
    delimit (0x5A :: len :: (rest ++ skipped)) = .complete (0x5A :: len :: rest) := by
  have all : ¬ (rest ++ skipped).length < len.toNat + 4 := by
    rw [List.length_append]
    omega
  rw [delimit_marked, if_neg (Nat.not_lt.2 short), if_neg all, ← whole, List.take_left]

theorem passesChecks_eq_false {frame : List Byte} (fails : ∀ k, siteFrame k frame = none) :
    passesChecks frame = false := by
  unfold passesChecks
  simp [fails]

theorem passesChecks_of_siteFrame {k : Kind} {frame : List Byte} {f : SiteFrame} (passes : siteFrame k frame = some f) :
    passesChecks frame = true :=
  List.any_eq_true.2 ⟨k, by cases k <;> decide, by rw [passes]; rfl⟩

end

/-! ### Bytes that make no frame (R123, R139) -/

section
variable {s g : State} {c : Instr} {x : LineBytes} {bytes frame : List Byte} {take : State → List Byte → Option State}

/-- The six commands of reception bring their bytes to the receiver. -/
theorem exec_hears (mem : c ∈ [Instr.badFrame x, .issueFrame x, .serviceFrame x, .vehicleNoticeFrame x,
    .classNoticeFrame x, .beaconFrame x]) : ∃ take, ∀ s, exec c s = .next (s.hearBytes x take) := by
  simp only [List.mem_cons, List.not_mem_nil, or_false] at mem
  obtain rfl | rfl | rfl | rfl | rfl | rfl := mem <;> exact ⟨_, fun _ => rfl⟩

theorem hearBytes_run (hearing : s.hearing = true) : s.hearBytes ⟨false, bytes⟩ take = s.hearRun bytes take :=
  if_pos hearing

/-- Bytes go on with the frame begun as if all of it came at once. -/
theorem hearBytes_continues (hearing : s.hearing = true) (skips : s.line.skipping = false) :
    s.hearBytes ⟨false, bytes⟩ take =
      (s.setLine { s.line with receiveBuffer := [] }).hearBytes ⟨false, s.line.receiveBuffer ++ bytes⟩ take := by
  have same : s.setLine { s.line with receiveBuffer := [] } = s.setReceiver [] false := by
    unfold State.setReceiver
    rw [← skips]
  rw [hearBytes_run hearing, hearRun_begun skips, same, hearBytes_run (by exact hearing)]

theorem exec_receiveGap (hearing : s.hearing = true) : exec .receiveGap s = .next s.gapPassed := if_pos hearing

theorem exec_receiveGap_deaf (deaf : s.hearing = false) : exec .receiveGap s = .next s :=
  if_neg (by rw [deaf]; nofun)

/-- Bytes after a receive gap are the gap's command and then the bytes. -/
theorem hearBytes_gap_first (gap : exec .receiveGap s = .next g) :
    s.hearBytes ⟨true, bytes⟩ take = g.hearBytes ⟨false, bytes⟩ take := by
  cases hearing : s.hearing with
  | true =>
    rw [exec_receiveGap hearing] at gap
    cases gap
    exact hearBytes_after_gap hearing
  | false =>
    rw [exec_receiveGap_deaf hearing] at gap
    cases gap
    rw [hearBytes_not_hearing hearing, hearBytes_not_hearing hearing]

/-- The receiver skips up to the next receive gap. -/
def State.skipsToGap (s : State) : State := s.setLine { s.line with skipping := true }

/-- The same, with a bad frame counted. -/
def State.dropsFrame (s : State) : State :=
  s.setLine { s.line with skipping := true, badCrc := countUp s.line.badCrc }

section
variable (skips : s.line.skipping = false) (empty : s.line.receiveBuffer = [])
include empty

theorem setReceiver_skips : s.setReceiver [] true = s.skipsToGap := by
  unfold State.setReceiver State.skipsToGap
  rw [← empty]

include skips

theorem hearRun_skipped (d : delimit bytes = .skipped) : s.hearRun bytes take = s.skipsToGap := by
  unfold State.hearRun
  rw [skips, if_neg nofun, empty, List.nil_append, d]
  exact setReceiver_skips empty

theorem hearRun_truncated (d : delimit bytes = .begun) :
    s.hearRun bytes take = s.setLine { s.line with receiveBuffer := bytes } := by
  unfold State.hearRun
  rw [skips, if_neg nofun, empty, List.nil_append, d]
  unfold State.setReceiver
  rw [← skips]

theorem hearRun_malformed (receiving : s.receiving = true) (d : delimit bytes = .malformed) :
    s.hearRun bytes take = s.dropsFrame := by
  unfold State.hearRun
  rw [skips, if_neg nofun, empty, List.nil_append, d]
  exact (congrArg _ (setReceiver_skips empty)).trans (countBadFrame_eq (s := s.skipsToGap) receiving)

theorem hearRun_complete (d : delimit bytes = .complete frame) :
    s.hearRun bytes take = s.skipsToGap.frameEnded (take s.skipsToGap) frame := by
  unfold State.hearRun
  rw [skips, if_neg nofun, empty, List.nil_append, d, setReceiver_skips empty]

end

/-- A whole frame that no kind's checks pass is dropped and counted. -/
theorem frameEnded_fails (receiving : s.receiving = true) (fails : ∀ k, siteFrame k frame = none) :
    s.skipsToGap.frameEnded (fun _ => none) frame = s.dropsFrame := by
  unfold State.frameEnded
  rw [passesChecks_eq_false fails]
  exact countBadFrame_eq (s := s.skipsToGap) receiving

/-- A whole frame that passes the checks of its kind is not BAD_FRAME's. -/
theorem frameEnded_passes {k : Kind} {f : SiteFrame} (passes : siteFrame k frame = some f) :
    s.frameEnded (fun _ => none) frame = s := if_pos (passesChecks_of_siteFrame passes)

/-- A frame that bears this station's own number is dropped, and counted as a clash where its epoch is another
(R131). -/
theorem takeFrame_ownNumber {f : SiteFrame} (own : f.origin = s.cfg.station) : (s.takeFrame f) =
    s.setLine { s.line with clash :=
      if f.epoch = s.journal.header.epoch then s.line.clash else countUp s.line.clash } := by
  refine (if_pos own).trans ?_
  unfold State.takeOwnNumber
  split <;> rfl

end

/-- Bytes that begin where a frame can: skipped, malformed, begun, or whole (R123, R139). -/
theorem badFrame_begins {s : State} (hearing : s.hearing = true) (bytes : List Byte) (skips : s.line.skipping = false)
    (empty : s.line.receiveBuffer = []) :
    (∀ b rest, bytes = b :: rest → b ≠ 0x5A → ∃ t, exec (.badFrame ⟨false, bytes⟩) s = .next t ∧
      t.line = { s.line with skipping := true } ∧ Only [.line] s t) ∧
    (∀ len rest, bytes = 0x5A :: len :: rest → 128 < len.toNat → ∃ t, exec (.badFrame ⟨false, bytes⟩) s = .next t ∧
      t.line = { s.line with skipping := true, badCrc := countUp s.line.badCrc } ∧ Only [.line] s t) ∧
    (bytes = [0x5A] ∨ (∃ len rest, bytes = 0x5A :: len :: rest ∧ len.toNat ≤ 128 ∧ rest.length < len.toNat + 4) →
      ∃ t, exec (.badFrame ⟨false, bytes⟩) s = .next t ∧ t.line = { s.line with receiveBuffer := bytes } ∧
        Only [.line] s t) ∧
    (∀ len rest skipped, bytes = 0x5A :: len :: (rest ++ skipped) → len.toNat ≤ 128 → rest.length = len.toNat + 4 →
      ∃ t, exec (.badFrame ⟨false, bytes⟩) s = .next t ∧ Only [.line] s t ∧
        ((∀ k, siteFrame k (0x5A :: len :: rest) = none) →
          t.line = { s.line with skipping := true, badCrc := countUp s.line.badCrc }) ∧
        (∀ k f, siteFrame k (0x5A :: len :: rest) = some f → t.line = { s.line with skipping := true })) := by
  have receiving := receiving_of_hearing hearing
  have ran {t : State} (run : s.hearRun bytes (fun _ _ => none) = t) : exec (.badFrame ⟨false, bytes⟩) s = .next t :=
    congrArg Host.Outcome.next ((hearBytes_run hearing).trans run)
  have moved (l : SiteLine) : Only [.line] s (s.setLine l) := setLine_only s l
  refine ⟨?_, ?_, ?_, ?_⟩
  · rintro b rest rfl mark
    exact ⟨_, ran (hearRun_skipped skips empty (delimit_skipped mark)), rfl, moved _⟩
  · rintro len rest rfl long
    exact ⟨_, ran (hearRun_malformed skips empty receiving (delimit_malformed long)), rfl, moved _⟩
  · intro begun
    exact ⟨_, ran (hearRun_truncated skips empty (delimit_begun begun)), rfl, moved _⟩
  · rintro len rest skipped rfl short whole
    have run := hearRun_complete (take := fun _ _ => none) skips empty
      (delimit_complete (skipped := skipped) short whole)
    by_cases fails : ∀ k, siteFrame k (0x5A :: len :: rest) = none
    · exact ⟨_, ran (run.trans (frameEnded_fails receiving fails)), moved _, fun _ => rfl,
        fun k f passes => nomatch passes.symm.trans (fails k)⟩
    · obtain ⟨k, passes⟩ := not_forall.1 fails
      obtain ⟨f, passes⟩ := Option.ne_none_iff_exists'.1 passes
      exact ⟨_, ran (run.trans (frameEnded_passes passes)), moved _, fun all => absurd all fails, fun _ _ _ => rfl⟩

/-- Settles O45: the receiver's four cases, bytes that go on or are skipped, a gap, a deaf receiver, an entry's age,
and this station's own number. -/
theorem badFramesAreCounted : Obligations.BadFramesAreCounted := by
  intro s
  refine ⟨fun stage quiet => ⟨fun bytes => ⟨fun skips empty => ?_, ?_, ?_⟩, ?_⟩, ?_, ?_, ?_, ?_⟩
  · exact badFrame_begins (State.hearing_iff.2 ⟨stage, quiet⟩) bytes skips empty
  · rintro skips _ rfl
    have hearing := State.hearing_iff.2 ⟨stage, quiet⟩
    have goesOn (take : State → List Byte → Option State) := congrArg (Host.Outcome.next (φ := Fault) (ρ := Refusal))
      (hearBytes_continues (bytes := bytes) (take := take) hearing skips)
    exact ⟨goesOn _, goesOn _, goesOn _, goesOn _, goesOn _, goesOn _⟩
  · intro skips c mem
    obtain ⟨take, hears⟩ := exec_hears mem
    rw [hears, hearBytes_run (State.hearing_iff.2 ⟨stage, quiet⟩), hearRun_skipping skips]
  · have hearing := State.hearing_iff.2 ⟨stage, quiet⟩
    exact ⟨_, exec_receiveGap hearing, gapPassed_line (receiving_of_hearing hearing), gapPassed_only s⟩
  · intro bytes g gap
    have first (take : State → List Byte → Option State) := congrArg (Host.Outcome.next (φ := Fault) (ρ := Refusal))
      (hearBytes_gap_first (bytes := bytes) (take := take) gap)
    exact ⟨first _, first _, first _, first _, first _, first _⟩
  · intro notHeard gap bytes c mem
    have deaf : s.hearing = false := by
      rw [← Bool.not_eq_true, State.hearing_iff]
      tauto
    obtain frames | alone := List.mem_append.1 (show c ∈ [Instr.badFrame ⟨gap, bytes⟩, .issueFrame ⟨gap, bytes⟩,
      .serviceFrame ⟨gap, bytes⟩, .vehicleNoticeFrame ⟨gap, bytes⟩, .classNoticeFrame ⟨gap, bytes⟩,
      .beaconFrame ⟨gap, bytes⟩] ++ [.receiveGap] from mem)
    · obtain ⟨take, hears⟩ := exec_hears frames
      rw [hears, hearBytes_not_hearing deaf]
    · rw [List.mem_singleton.1 alone, exec_receiveGap_deaf deaf]
  · intro station
    refine ⟨_, rfl, ?_, setLine_only _ _⟩
    refine congrArg (fun peers => { s.line with peers := peers }) (List.map_congr_left fun p _ => ?_)
    by_cases own : p.station = station
    · rw [if_pos (beq_iff_eq.2 own), if_pos own]
      exact stale_eq p s.elapsed
    · rw [if_neg (mt beq_iff_eq.1 own), if_neg own]
  · intro k gap frame f c listening begins passes own command
    have ran : exec c s = .next (s.frameHeard.takeFrame f) := by
      rw [← receive_taken listening begins passes]
      obtain ⟨rfl, rfl⟩ | ⟨rfl, rfl⟩ | ⟨rfl, rfl⟩ | ⟨rfl, rfl⟩ | ⟨rfl, rfl⟩ := command <;> rfl
    rw [takeFrame_ownNumber (s := s.frameHeard) own] at ran
    exact ⟨_, ran, rfl, (frameHeard_only s).trans (setLine_only _ _)⟩

end Sys2Proof.Machine

namespace Sys2Proof.Machine

/-! ### Backoff and SEND (R126) -/

section
variable {s : State} {k : Nat}

/-- A drawn value lies below the bound of its rule. -/
theorem draw_lt {n : Nat} (positive : 0 < n) : (s.draw n).1 < n := Nat.mod_lt _ positive

theorem sendAtZero_waits (above : s.line.k ≠ some 0) : s.sendAtZero = s := if_neg above

theorem sendAtZero_sends (zero : s.line.k = some 0) : s.sendAtZero =
    s.setLine { s.line with sender := .send, sending := s.frameToSend, skipping := true } := if_pos zero

/-- A line in DEFER with k present takes BACKOFF, and SEND where k is 0. -/
theorem sendAtZero_line (backoff : s.line.sender = .backoff) (held : s.line.k = some k) :
    ∃ sending, s.sendAtZero.line = { s.line with
      sender := if k = 0 then .send else .backoff, sending := sending,
      skipping := s.line.skipping || decide (k = 0) } := by
  by_cases zero : k = 0
  · subst zero
    exact ⟨s.frameToSend, by rw [sendAtZero_sends held]; simp⟩
  · refine ⟨s.line.sending, ?_⟩
    rw [sendAtZero_waits (by rw [held]; simpa using zero)]
    simp [zero, ← backoff]

theorem exec_guardTimePassed (defer : s.line.sender = .defer) : exec .guardTimePassed s = .next s.guardPassed :=
  if_pos defer

theorem guardPassed_held (held : s.line.k = some k) :
    s.guardPassed = (s.setLine { s.line with sender := .backoff }).sendAtZero := by
  unfold State.guardPassed
  rw [held]

theorem guardPassed_draws (absent : s.line.k = none) : s.guardPassed =
    ((s.draw s.line.window).2.setLine { s.line with
      sender := .backoff, k := some (s.draw s.line.window).1 }).sendAtZero := by
  unfold State.guardPassed
  rw [absent]
  rfl

theorem frameToSend_beacon (current : s.line.current = some .beacon) :
    s.frameToSend = frameOf 5 s.cfg.station s.beaconBody := by
  unfold State.frameToSend
  rw [current]

theorem frameToSend_record {r : SendRecord} {rest : List SendRecord} (current : s.line.current = some .record)
    (queue : s.line.queue = r :: rest) : s.frameToSend = frameOf r.kind s.cfg.station r.body := by
  unfold State.frameToSend
  rw [current, queue]

theorem exec_slotCounted (backoff : s.line.sender = .backoff) (held : s.line.k = some k) :
    exec .slotCounted s = .next (s.setLine { s.line with k := some (k - 1) }).sendAtZero := by
  simp only [exec, execSlotCounted, backoff, held]

/-- A slot counted lowers k; at 0 the current frame is sent (R126, R130). -/
theorem slotCounted_effect (s : State) (backoff : s.line.sender = .backoff) (held : s.line.k = some k) :
    ∃ t, exec .slotCounted s = .next t ∧ t.line.k = some (k - 1) ∧
      (1 < k → t.line = { s.line with k := some (k - 1) }) ∧
      (k ≤ 1 → t.line = { s.line with
        k := some 0, sender := .send, sending := t.line.sending, skipping := true } ∧
        (s.line.current = some .beacon → t.line.sending = frameOf 5 s.cfg.station s.beaconBody) ∧
        (∀ r rest, s.line.current = some .record → s.line.queue = r :: rest →
          t.line.sending = frameOf r.kind s.cfg.station r.body)) ∧
      Only [.line] s t := by
  refine ⟨_, exec_slotCounted backoff held, ?_⟩
  have frame := (setLine_only s { s.line with k := some (k - 1) }).trans (sendAtZero_only _)
  by_cases last : k ≤ 1
  · have zero : k - 1 = 0 := by omega
    rw [sendAtZero_sends (congrArg some zero)] at frame ⊢
    rw [zero] at frame ⊢
    exact ⟨rfl, fun more => absurd last (by omega), fun _ => ⟨rfl, fun current => frameToSend_beacon current,
      fun r rest current queue => frameToSend_record current queue⟩, frame⟩
  · have above : some (k - 1) ≠ some 0 := by
      rw [Ne, Option.some.injEq]
      omega
    rw [sendAtZero_waits above] at frame ⊢
    exact ⟨rfl, fun _ => rfl, fun once => absurd once last, frame⟩

theorem collide_eq (l : SiteLine) (now : Nat) : l.collide now = { l with
    attempts := l.attempts + 1, window := min (2 * l.window) 512, sending := [],
    sender := if l.attempts + 1 = 8 then .congested else .defer,
    k := if l.attempts + 1 = 8 then l.k else none,
    congestion := if l.attempts + 1 = 8 then some (now + 10000) else l.congestion } := by
  unfold SiteLine.collide
  dsimp only
  split <;> rfl

theorem carrier_effect (s : State) : ∃ t, exec .carrier s = .next t ∧
    t.line = { s.line with sender := if s.line.sender = .backoff then .defer else s.line.sender } ∧
    Only [.line] s t := by
  by_cases backoff : s.line.sender = .backoff
  · refine ⟨_, if_pos backoff, ?_, setLine_only _ _⟩
    rw [if_pos backoff]
    rfl
  · refine ⟨s, if_neg backoff, ?_, .refl _ s⟩
    rw [if_neg backoff]

end

/-- Settles O47: each event of the sender in BACKOFF and SEND sets the fields that R126 to R128 name. -/
theorem backoffAndCollision : Obligations.BackoffAndCollision := by
  refine ⟨fun s => ⟨carrier_effect s, fun defer k held => ?_, fun defer absent positive => ?_⟩,
    fun s k backoff held => ?_, fun s send => ⟨_, if_pos send, collide_eq _ _, setLine_only _ _⟩⟩
  · obtain ⟨sending, line⟩ := sendAtZero_line (s := s.setLine { s.line with sender := .backoff }) rfl held
    refine ⟨_, exec_guardTimePassed defer, ?_⟩
    rw [guardPassed_held held, line]
    exact ⟨held, rfl, rfl, rfl, rfl, rfl, rfl, rfl, (setLine_only _ _).trans (sendAtZero_only _)⟩
  · obtain ⟨sending, line⟩ := sendAtZero_line (s := (s.draw s.line.window).2.setLine { s.line with
      sender := .backoff, k := some (s.draw s.line.window).1 }) rfl rfl
    refine ⟨_, (s.draw s.line.window).1, exec_guardTimePassed defer, draw_lt positive, ?_⟩
    have frame := guardPassed_only s
    rw [guardPassed_draws absent] at frame ⊢
    rw [line]
    exact ⟨rfl, rfl, rfl, rfl, rfl, rfl, rfl, rfl, ((sendAtZero_only _) .draws (by decide)).symm, frame⟩
  · exact slotCounted_effect s backoff held

/-! ### The choice of the next frame (R125) -/

section
variable {s t : State} {l : SiteLine}

theorem choose_beacon (due : l.beaconDue = true) : l.choose = l.chosen .beacon := if_pos due

theorem choose_record (notDue : l.beaconDue = false) (queue : l.queue ≠ []) (live : 1 ≤ l.liveCount) :
    l.choose = l.chosen .record := (if_neg (by rw [notDue]; nofun)).trans (if_pos ⟨queue, live⟩)

theorem choose_idle (notDue : l.beaconDue = false) (nothing : l.queue = [] ∨ l.liveCount = 0) :
    l.choose = { l with sender := .idle, current := none, k := none, sending := [] } := by
  refine (if_neg (by rw [notDue]; nofun)).trans (if_neg ?_)
  rintro ⟨queue, live⟩
  obtain empty | dead := nothing
  · exact queue empty
  · omega

/-- A frame that has been chosen waits in DEFER with the window of the live count. -/
theorem choose_chosen (l : SiteLine) (chosen : l.choose.current ≠ none) : ∃ f, l.choose = l.chosen f := by
  cases due : l.beaconDue with
  | true => exact ⟨_, choose_beacon due⟩
  | false =>
    by_cases record : l.queue ≠ [] ∧ 1 ≤ l.liveCount
    · exact ⟨_, choose_record due record.1 record.2⟩
    · have nothing : l.queue = [] ∨ l.liveCount = 0 := by
        by_cases empty : l.queue = []
        · exact .inl empty
        · exact .inr (Nat.lt_one_iff.1 (Nat.not_le.1 fun live => record ⟨empty, live⟩))
      rw [choose_idle due nothing] at chosen
      exact absurd rfl chosen

/-- What the sender chooses from the line `l` that it has come to, where the peers are those of `s`. -/
theorem chosen_effect (line : t.line = l.choose) (peers : l.peers = s.line.peers)
    (time : l.siteTime = s.line.siteTime) :
    t.line.beaconDue = l.beaconDue ∧ t.line.queue = l.queue ∧
    (l.beaconDue = true → t.line.current = some .beacon) ∧
    (l.beaconDue = false → l.queue ≠ [] → 1 ≤ s.line.liveCount → t.line.current = some .record) ∧
    (l.beaconDue = false → (l.queue = [] ∨ s.line.liveCount = 0) →
      t.line.current = none ∧ t.line.sender = .idle) ∧
    (t.line.current ≠ none → t.line.sender = .defer ∧ t.line.attempts = 0 ∧ t.line.k = none ∧
      t.line.window = max 4 (min 128 (4 * (s.line.liveCount + 1)))) ∧
    t.line.peers = s.line.peers ∧ t.line.siteTime = s.line.siteTime := by
  have live : s.line.liveCount = l.liveCount := by
    unfold SiteLine.liveCount
    rw [peers]
  rw [line, live, ← peers, ← time]
  obtain ⟨_, _, _, _, _, _, moved⟩ := choose_senderMoves l
  refine ⟨by rw [moved], by rw [moved], fun due => ?_, fun due queue live => ?_, fun due nothing => ?_,
    fun chosen => ?_, by rw [moved], by rw [moved]⟩
  · rw [choose_beacon due]
    rfl
  · rw [choose_record due queue live]
    rfl
  · rw [choose_idle due nothing]
    exact ⟨rfl, rfl⟩
  · obtain ⟨f, chose⟩ := choose_chosen l chosen
    rw [chose]
    exact ⟨rfl, rfl, rfl, rfl⟩

theorem exec_cleanReadBack (send : s.line.sender = .send) : exec .cleanReadBack s = .next s.cleanEnd := if_pos send

theorem cleanEnd_record (current : s.line.current = some .record) : s.cleanEnd =
    ((s.setLine { s.line with queue := s.line.queue.drop 1 }).recordSent).chooseNext.requestSendRead := by
  unfold State.cleanEnd
  rw [current]

theorem cleanEnd_beacon (current : s.line.current = some .beacon) : s.cleanEnd = s.beaconSent.chooseNext := by
  unfold State.cleanEnd
  rw [current]

theorem cleanEnd_record_line (current : s.line.current = some .record) :
    s.cleanEnd.line = ({ s.line with queue := s.line.queue.drop 1 } : SiteLine).choose := by
  rw [cleanEnd_record current, (requestSendRead_only _).line_eq]
  exact congrArg SiteLine.choose (recordSent_only _).line_eq

theorem trySend_chooses (idle : s.line.sender = .idle) (free : s.line.held = false) : s.trySend.line = s.line.choose :=
  congrArg State.line (if_pos ⟨idle, free⟩)

end

/-- Settles O48: each of the four events comes to a line unit from which the sender chooses. -/
theorem senderChooses : Obligations.SenderChooses := by
  intro s c due queue event
  have comes : ∃ (t : State) (l : SiteLine), exec c s = .next t ∧ t.line = l.choose ∧ l.beaconDue = due ∧
      l.queue = queue ∧ l.peers = s.line.peers ∧ l.siteTime = s.line.siteTime := by
    obtain ⟨rfl, congested, rfl, rfl⟩ | ⟨rfl, idle, free, timer, rfl, rfl⟩ | ⟨rfl, send, current, rfl, rfl⟩ |
      ⟨rfl, send, current, rfl, rfl⟩ := event
    · exact ⟨_, { s.line with congestion := none, current := none }, if_pos congested, rfl, rfl, rfl, rfl, rfl⟩
    · exact ⟨_, { s.line with beaconDue := true, beaconTimer := none }, if_pos timer,
        trySend_chooses (by exact idle) (by exact free), rfl, rfl, rfl, rfl⟩
    · exact ⟨_, s.beaconSent.line, exec_cleanReadBack send, by rw [cleanEnd_beacon current]; rfl, rfl, rfl, rfl, rfl⟩
    · exact ⟨_, { s.line with queue := s.line.queue.drop 1 }, exec_cleanReadBack send, cleanEnd_record_line current,
        rfl, rfl, rfl, rfl⟩
  obtain ⟨t, l, ran, line, rfl, rfl, peers, time⟩ := comes
  obtain ⟨due, queue, beacon, record, idle, chosen, peers, time⟩ := chosen_effect line peers time
  exact ⟨t, ran, due, queue, beacon, record, idle, chosen, peers, time, exec_only ran⟩

/-! ### A record sent (R129, R152, R153) -/

section
variable {s : State}

/-- The send mark advanced by one, and on every sixteenth record saved in the header (R153). -/
def Journal.markAdvanced (j : Journal) : Journal :=
  { j with
    sent := j.sent + 1, unsent := j.unsent - 1
    sentSinceSave := if j.sentSinceSave + 1 = 16 then 0 else j.sentSinceSave + 1
    header := if j.sentSinceSave + 1 = 16 then { j.header with savedMark := j.nextSerial - (j.unsent - 1) }
      else j.header }

theorem giveRecovery_of_none (none : s.journal.pendingRecoveries = []) : s.giveRecovery = s := by
  unfold State.giveRecovery
  rw [none]

theorem passOver_of_none (none : s.journal.loadHold = none) : s.passOver = s :=
  if_neg (by rw [none]; nofun)

/-- A header write requested of a unit at work waits, or joins one that waits. -/
theorem requestHeader_waits (busy : s.journal.inService.isSome = true) : ∃ queue,
    s.requestHeader = s.setJournal { s.journal with queue := queue } ∧ queue.any MemOp.isHeader = true ∧
      ∀ op ∈ s.journal.queue, op ∈ queue := by
  cases waits : s.journal.queue.any MemOp.isHeader with
  | true => exact ⟨s.journal.queue, if_pos waits, waits, fun _ => id⟩
  | false =>
    exact ⟨_, requestHeader_of_busy busy waits, by simp [MemOp.isHeader], fun op mem => List.mem_append_left _ mem⟩

/-- The mark advances at a unit at work: every sixteenth record a header write waits. -/
theorem advanceMark_of_busy (unsent : 0 < s.journal.unsent) (busy : s.journal.inService.isSome = true)
    (none : s.journal.pendingRecoveries = []) : ∃ queue,
    s.advanceMark = s.setJournal { s.journal.markAdvanced with queue := queue } ∧
      (∀ op ∈ s.journal.queue, op ∈ queue) ∧
      (s.journal.sentSinceSave + 1 ≠ 16 → queue = s.journal.queue) ∧
      (s.journal.sentSinceSave + 1 = 16 → queue.any MemOp.isHeader = true) := by
  have advances : s.journal.unsent ≠ 0 := by omega
  unfold State.advanceMark Journal.markAdvanced
  dsimp only
  rw [if_neg advances]
  split
  next saved =>
    obtain ⟨queue, requested, header, kept⟩ := requestHeader_waits (s := s.setJournal { s.journal with
      sent := s.journal.sent + 1, unsent := s.journal.unsent - 1, sentSinceSave := 0,
      header := { s.journal.header with savedMark := s.journal.nextSerial - (s.journal.unsent - 1) } }) busy
    refine ⟨queue, ?_, kept, fun other => absurd saved other, fun _ => header⟩
    refine (congrArg State.giveRecovery requested).trans ?_
    exact giveRecovery_of_none none
  next other =>
    exact ⟨s.journal.queue, giveRecovery_of_none none, fun _ => id, fun _ => rfl, fun saved => absurd saved other⟩

theorem requestSendRead_of_waiting (waits : s.journal.operations.any MemOp.isSendRead = true) :
    s.requestSendRead = s := by
  unfold State.requestSendRead
  dsimp only
  rw [waits]
  exact if_neg fun ⟨_, absent, _⟩ => nomatch absent

end

/-- Settles O49: the mark advances, and what then waits at the unit still holds a send read. -/
theorem sentRecordAdvancesMark : Obligations.SentRecordAdvancesMark := by
  intro s send current unsent noHold none busy reading
  obtain ⟨queue, advanced, kept, same, header⟩ := advanceMark_of_busy
    (s := s.setLine { s.line with queue := s.line.queue.drop 1 }) unsent busy none
  have ended : s.cleanEnd = ((s.setLine { s.line with queue := s.line.queue.drop 1 }).setJournal
      { s.journal.markAdvanced with queue := queue }).chooseNext := by
    rw [cleanEnd_record current]
    unfold State.recordSent
    rw [advanced, passOver_of_none (by exact noHold)]
    refine requestSendRead_of_waiting ?_
    obtain ⟨op, mem, read⟩ := List.any_eq_true.1 reading
    refine List.any_eq_true.2 ⟨op, ?_, read⟩
    obtain serving | waiting := List.mem_append.1 mem
    · exact List.mem_append_left _ serving
    · exact List.mem_append_right _ (kept op waiting)
  refine ⟨_, exec_cleanReadBack send, ?_, ?_⟩
  · rw [cleanEnd_record_line current]
    obtain ⟨_, _, _, _, _, _, moved⟩ := choose_senderMoves { s.line with queue := s.line.queue.drop 1 }
    rw [moved]
  · rw [ended]
    refine ⟨rfl, rfl, rfl, rfl, fun other => ⟨if_neg other, if_neg other, same other⟩,
      fun saved => ⟨if_pos saved, if_pos saved, header saved⟩, ?_⟩
    exact ((setLine_only _ _).next (setJournal_only _ _)).trans (chooseNext_only _).mono

end Sys2Proof.Machine

namespace Sys2Proof.Machine

/-! ### A frame at the notice port (R123, R184) -/

section
variable {s t : State} {k : SubmissionKind} {bytes frame body : List Byte} {c : Instr}
  {take : State → List Byte → Option State}

theorem submissionBody_parses (whole : submissionBody k frame = some body) :
    ∃ f, parseFrame frame = some f ∧ f.kind = k.code := by
  unfold submissionBody at whole
  split at whole
  · cases whole
  next f parsed =>
    obtain ⟨⟨code, -⟩, -⟩ := Option.ite_none_right_eq_some.1 whole
    exact ⟨f, parsed, code⟩

theorem submissionKind_code_injective : Function.Injective SubmissionKind.code := by
  intro a b
  cases a <;> cases b <;> simp [SubmissionKind.code]

/-- A frame passes test 1 as a submission of one kind only. -/
theorem submissionBody_of_other {k' : SubmissionKind} (whole : submissionBody k frame = some body) (other : k ≠ k') :
    submissionBody k' frame = none := by
  by_contra passes
  obtain ⟨body', whole'⟩ := Option.ne_none_iff_exists'.1 passes
  obtain ⟨f, parsed, code⟩ := submissionBody_parses whole
  obtain ⟨f', parsed', code'⟩ := submissionBody_parses whole'
  obtain rfl : f = f' := Option.some.inj (parsed.symm.trans parsed')
  exact other (submissionKind_code_injective (code.symm.trans code'))

/-- A frame that parses has as many bytes as its length byte says. -/
theorem parseFrame_length {f : Frame} (parsed : parseFrame frame = some f) :
    frame.length = 6 + (frame.getD 1 0).toNat := by
  unfold parseFrame at parsed
  split at parsed
  · obtain ⟨⟨-, -, length, -⟩, -⟩ := Option.ite_none_right_eq_some.1 parsed
    simp [length]
    omega
  · cases parsed

theorem submissionBody_truncated (short : frame.length < 6 + (frame.getD 1 0).toNat) (k : SubmissionKind) :
    submissionBody k frame = none := by
  by_contra passes
  obtain ⟨body, whole⟩ := Option.ne_none_iff_exists'.1 passes
  obtain ⟨f, parsed, -⟩ := submissionBody_parses whole
  have length := parseFrame_length parsed
  omega

theorem submissionWhole_of_body (whole : submissionBody k frame = some body) : submissionWhole frame = true :=
  List.any_eq_true.2 ⟨k, by cases k <;> decide, by rw [whole]; rfl⟩

theorem submissionWhole_eq_false (fails : ∀ k, submissionBody k frame = none) : submissionWhole frame = false := by
  unfold submissionWhole
  simp [fails]

/-- How the bytes between two gaps make a frame. -/
theorem frameTaken_cases (bytes : List Byte) :
    (bytes.head? ≠ some 0x5A → frameTaken bytes = none) ∧
    (∀ len rest, bytes = 0x5A :: len :: rest → 128 < len.toNat → frameTaken bytes = some [0x5A, len]) ∧
    (∀ len rest, bytes = 0x5A :: len :: rest → len.toNat ≤ 128 → rest.length < len.toNat + 4 →
      frameTaken bytes = some bytes) ∧
    (bytes = [0x5A] → frameTaken bytes = some bytes) ∧
    (∀ len rest skipped, bytes = 0x5A :: len :: (rest ++ skipped) → len.toNat ≤ 128 →
      rest.length = len.toNat + 4 → frameTaken bytes = some (0x5A :: len :: rest)) := by
  refine ⟨fun mark => ?_, ?_, ?_, ?_, ?_⟩
  · cases bytes with
    | nil => rfl
    | cons b rest =>
      unfold frameTaken
      rw [delimit_skipped (fun start => mark (congrArg some start))]
  · rintro len rest rfl long
    unfold frameTaken
    rw [delimit_malformed long]
    rfl
  · intro len rest begun short truncated
    unfold frameTaken
    rw [delimit_begun (.inr ⟨len, rest, begun, short, truncated⟩)]
  · intro begun
    unfold frameTaken
    rw [delimit_begun (.inl begun)]
  · rintro len rest skipped rfl short whole
    unfold frameTaken
    rw [delimit_complete short whole]

/-! ### What the port does with a frame (R184) -/

theorem hearSubmission_closed (closed : s.takesSubmission = false) : s.hearSubmission bytes take = s :=
  if_neg (by rw [closed]; nofun)

theorem hearSubmission_skipped (skipped : frameTaken bytes = none) : s.hearSubmission bytes take = s := by
  unfold State.hearSubmission
  rw [skipped, ite_self]

section
variable (taken : frameTaken bytes = some frame)
include taken

/-- A frame that is another kind's submission is left alone. -/
theorem hearSubmission_other (none : take (s.takeInHand frame) frame = none) (whole : submissionWhole frame = true) :
    s.hearSubmission bytes take = s := by
  unfold State.hearSubmission
  rw [taken]
  dsimp only
  rw [none]
  dsimp only
  rw [if_pos whole, ite_self]

variable (takes : s.takesSubmission = true)
include takes

theorem hearSubmission_takes (judged : take (s.takeInHand frame) frame = some t) :
    s.hearSubmission bytes take = t := by
  unfold State.hearSubmission
  rw [if_pos takes, taken]
  dsimp only
  rw [judged]

theorem hearSubmission_malformed (none : take (s.takeInHand frame) frame = none)
    (bad : submissionWhole frame = false) :
    s.hearSubmission bytes take = (s.takeInHand frame).reply (some .malformed) := by
  unfold State.hearSubmission
  rw [if_pos takes, taken]
  dsimp only
  rw [none]
  dsimp only
  rw [if_neg (by rw [bad]; nofun)]

end

/-- The five commands of the port bring their bytes to it, and judge no frame that fails test 1 as every kind. -/
theorem exec_submits (mem : c ∈ [Instr.submitService bytes, .submitVehicleNotice bytes, .submitClassNotice bytes,
    .setTime bytes, .malformedSubmission bytes]) : ∃ take, (∀ s, exec c s = .next (s.hearSubmission bytes take)) ∧
      ∀ u frame, (∀ k, submissionBody k frame = none) → take u frame = none := by
  simp only [List.mem_cons, List.not_mem_nil, or_false] at mem
  obtain rfl | rfl | rfl | rfl | rfl := mem
  case inr.inr.inr.inr => exact ⟨_, fun _ => rfl, fun _ _ _ => rfl⟩
  all_goals exact ⟨_, fun _ => rfl, fun _ _ fails => Option.map_eq_none_iff.2 (fails _)⟩

/-! ### A reply (R184, R187) -/

/-- The port has the frame in hand, and its refusal is on the output line or waits for it. -/
structure Refused (s t : State) (frame : List Byte) (r : SubmissionRefusal) : Prop where
  inHand : t.notice.inHand = true
  buffer : t.notice.inputBuffer = frame
  reply : ReplyGiven s t (replyFrame (some r))
  monitor : t.notice.monitor = s.notice.monitor
  only : Only [.notice] s t

theorem feed_reply (n : NoticePort) (f : List Byte) : ({ n with reply := some f } : NoticePort).feed =
    if n.output = none then { n with output := some (.reply f), reply := none } else { n with reply := some f } := by
  unfold NoticePort.feed
  cases n.output <;> simp

theorem takeInHand_reply_refused (s : State) (frame : List Byte) (r : SubmissionRefusal) :
    Refused s ((s.takeInHand frame).reply (some r)) frame r := by
  have notice : ((s.takeInHand frame).reply (some r)).notice =
      if s.notice.output = none then { (s.takeInHand frame).notice with
        output := some (.reply (replyFrame (some r))), reply := none }
      else { (s.takeInHand frame).notice with reply := some (replyFrame (some r)) } := feed_reply _ _
  have frames := (takeInHand_only s frame).trans (reply_only _ (some r))
  by_cases free : s.notice.output = none
  · rw [if_pos free] at notice
    exact ⟨by rw [notice]; rfl, by rw [notice]; rfl, ⟨fun _ => by rw [notice], fun waits => absurd free waits⟩,
      by rw [notice]; rfl, frames⟩
  · rw [if_neg free] at notice
    exact ⟨by rw [notice]; rfl, by rw [notice]; rfl, ⟨fun none => absurd none free,
      fun _ => by rw [notice]; exact ⟨rfl, rfl⟩⟩,
      by rw [notice]; rfl, frames⟩

/-! ### Tests 2 to 4 (R184) -/

variable {x : Submission}

theorem judgeSubmission_notAuthorised (off : s.cfg.authority.contains s.cfg.station = false) :
    s.judgeSubmission x = some .notAuthorised :=
  if_pos (by rw [State.authorised, off]; rfl)

theorem judgeSubmission_outOfRange (on : s.cfg.authority.contains s.cfg.station = true)
    (outside : x.inRange s.line.siteTime = false) : s.judgeSubmission x = some .outOfRange :=
  (if_neg (by rw [State.authorised, on]; nofun)).trans (if_pos (by rw [outside]; rfl))

theorem judgeSubmission_journalFull (on : s.cfg.authority.contains s.cfg.station = true)
    (inside : x.inRange s.line.siteTime = true) (full : s.journal.claimAvailable s.cfg.nj = false) :
    s.judgeSubmission x = some .journalFull :=
  (if_neg (by rw [State.authorised, on]; nofun)).trans
    ((if_neg (by rw [inside]; nofun)).trans (if_pos (by rw [full]; rfl)))

theorem judgeSubmission_passes (on : s.cfg.authority.contains s.cfg.station = true)
    (inside : x.inRange s.line.siteTime = true) (claim : s.journal.claimAvailable s.cfg.nj = true) :
    s.judgeSubmission x = none :=
  (if_neg (by rw [State.authorised, on]; nofun)).trans
    ((if_neg (by rw [inside]; nofun)).trans (if_neg (by rw [claim]; nofun)))

/-- A record's submission that passes test 1 is judged by the tests of its kind's command. -/
theorem exec_submission (takes : s.takesSubmission = true) (taken : frameTaken bytes = some frame)
    (command : (c = .submitVehicleNotice bytes ∧ submissionBody .vehicleNotice frame = some body ∧
        x = vehicleSubmission s.line.siteTime body) ∨
      (c = .submitClassNotice bytes ∧ submissionBody .classNotice frame = some body ∧
        x = classSubmission s.line.siteTime body) ∨
      (c = .submitService bytes ∧ submissionBody .service frame = some body ∧
        x = serviceSubmission s.line.siteTime body)) :
    exec c s = .next ((s.takeInHand frame).submit x) := by
  have judged (k : SubmissionKind) (read : Nat → List Byte → Submission) (whole : submissionBody k frame = some body) :
      s.submitFrame k bytes read = (s.takeInHand frame).submit (read s.line.siteTime body) :=
    hearSubmission_takes taken takes (by rw [whole]; rfl)
  obtain ⟨rfl, whole, rfl⟩ | ⟨rfl, whole, rfl⟩ | ⟨rfl, whole, rfl⟩ := command
  all_goals exact congrArg Host.Outcome.next (judged _ _ whole)

theorem submit_refused {r : SubmissionRefusal} (refused : s.judgeSubmission x = some r) :
    s.submit x = s.reply (some r) := by
  unfold State.submit
  rw [refused]

theorem submit_accepted (passes : s.judgeSubmission x = none) : s.submit x = s.accept x := by
  unfold State.submit
  rw [passes]

end

/-- Settles O57: the frame is taken as it is delimited, and the first test that fails answers. -/
theorem submissionIsRefused : Obligations.SubmissionIsRefused := by
  refine ⟨fun bytes => ?_, fun s bytes => ⟨?_, ?_, ?_, ?_, ?_, ?_⟩⟩
  · obtain ⟨unmarked, malformed, truncated, alone, whole⟩ := frameTaken_cases bytes
    exact ⟨unmarked, malformed, truncated, alone, whole, fun frame k short => submissionBody_truncated short k⟩
  · intro skipped c mem
    obtain ⟨take, ran, -⟩ := exec_submits mem
    rw [ran, hearSubmission_skipped skipped]
  · intro frame takes taken fails c mem
    obtain ⟨take, ran, none⟩ := exec_submits mem
    rw [ran, hearSubmission_malformed taken takes (none _ _ fails) (submissionWhole_eq_false fails)]
    obtain ⟨inHand, buffer, reply, monitor, only⟩ := takeInHand_reply_refused s frame .malformed
    exact ⟨_, rfl, inHand, buffer, reply, monitor, only⟩
  · intro frame k body taken whole
    have leaves (take : State → List Byte → Option State) (none : take (s.takeInHand frame) frame = none) :
        (Host.Outcome.next (s.hearSubmission bytes take) : Answer) = .next s :=
      congrArg _ (hearSubmission_other taken none (submissionWhole_of_body whole))
    have other {k' : SubmissionKind} {g : List Byte → State} (differs : k ≠ k') :
        (submissionBody k' frame).map g = none := Option.map_eq_none_iff.2 (submissionBody_of_other whole differs)
    exact ⟨leaves _ rfl, fun differs => leaves _ (other differs), fun differs => leaves _ (other differs),
      fun differs => leaves _ (other differs), fun differs => leaves _ (other differs)⟩
  · intro frame body c x takes taken command
    have ran := exec_submission takes taken command
    have refuses {r : SubmissionRefusal} (judged : (s.takeInHand frame).judgeSubmission x = some r) :
        ∃ t, exec c s = .next t ∧ t.notice.inHand = true ∧ ReplyGiven s t (replyFrame (some r)) ∧
          Only [.notice] s t := by
      rw [submit_refused judged] at ran
      obtain ⟨inHand, -, reply, -, only⟩ := takeInHand_reply_refused s frame r
      exact ⟨_, ran, inHand, reply, only⟩
    exact ⟨fun off => refuses (judgeSubmission_notAuthorised off),
      fun on outside => refuses (judgeSubmission_outOfRange on outside),
      fun on inside full => refuses (judgeSubmission_journalFull on inside full)⟩
  · intro frame body takes taken whole earlier
    obtain ⟨inHand, -, reply, -, only⟩ := takeInHand_reply_refused s frame .outOfRange
    refine ⟨_, congrArg Host.Outcome.next (hearSubmission_takes taken takes ?_), inHand, reply, only⟩
    rw [whole]
    exact congrArg some (if_pos earlier)
  · intro closed c mem
    obtain ⟨take, ran, -⟩ := exec_submits mem
    rw [ran, hearSubmission_closed closed]

/-! ### A submission accepted (R144, R148, R185) -/

section
variable {s : State} {r : Record}

theorem advanceSeq_eq (j : Journal) : j.advanceSeq = { j with
    nextSeq := if j.nextSeq = 16777215 then 1 else j.nextSeq + 1
    header := if j.nextSeq = 16777215 then
        { j.header with epoch := if j.header.epoch = 65535 then 1 else j.header.epoch + 1 }
      else j.header } := by
  unfold Journal.advanceSeq
  by_cases last : j.nextSeq = 16777215
  · rw [if_pos (show j.nextSeq = Config.sequenceMax from last), if_pos last, if_pos last]
    rfl
  · rw [if_neg (show ¬j.nextSeq = Config.sequenceMax from last), if_neg last, if_neg last]

theorem assign_eq (j : Journal) (nj : Nat) : j.assign nj = { j with
    tail := if 0 < j.free nj then j.tail else (j.tail + 1) % nj
    sent := if 0 < j.free nj then j.sent else j.sent - 1
    unsent := j.unsent + 1, nextSerial := j.nextSerial + 1 } := by
  unfold Journal.assign
  split <;> rfl

theorem canAssign_of_claim (claim : s.journal.claimAvailable s.cfg.nj = true) :
    s.journal.canAssign s.cfg.nj = true := by
  obtain ⟨slot, serial⟩ := Bool.and_eq_true_iff.1 claim
  have slot := of_decide_eq_true slot
  have serial : s.journal.claims < Config.serialMax + 1 - s.journal.nextSerial := of_decide_eq_true serial
  exact Bool.and_eq_true_iff.2 ⟨decide_eq_true (by omega), decide_eq_true (by omega)⟩

/-- A notice port's append is given its slot and its serial, and is passed to the unit. -/
theorem passAppend_notice (assigns : s.journal.canAssign s.cfg.nj = true) : s.passAppend .notice r =
    (s.setJournal (s.journal.assign s.cfg.nj)).pushOp
      (.append .notice (s.journal.head s.cfg.nj) s.journal.nextSerial r) := by
  have queue : { s.journal.assign s.cfg.nj with queue := s.journal.queue } = s.journal.assign s.cfg.nj := by
    rw [assign_eq]
  unfold State.passAppend
  dsimp only
  rw [if_pos assigns]
  exact congrArg (fun j => (s.setJournal j).pushOp _) queue

/-- At a unit at work it waits. -/
theorem passAppend_notice_of_busy (assigns : s.journal.canAssign s.cfg.nj = true)
    (busy : s.journal.inService.isSome = true) : s.passAppend .notice r = s.setJournal { s.journal.assign s.cfg.nj with
      queue := s.journal.queue ++ [.append .notice (s.journal.head s.cfg.nj) s.journal.nextSerial r] } := by
  rw [passAppend_notice assigns, assign_eq, pushOp_of_busy (by exact busy)]
  rfl

/-- At a unit that stands idle it is served at once. -/
theorem passAppend_notice_of_idle (assigns : s.journal.canAssign s.cfg.nj = true) (free : s.journal.inService = none)
    (queue : s.journal.queue = []) : s.passAppend .notice r = s.setJournal { s.journal.assign s.cfg.nj with
      inService := some (.append .notice (s.journal.head s.cfg.nj) s.journal.nextSerial r),
      queue := [], ringWritten := false, opTimer := some (s.elapsed + 100) } := by
  rw [passAppend_notice assigns, assign_eq, pushOp_of_idle (by exact free) (by exact queue) (by exact nofun)]
  rfl

/-- The header write that a sequence taken requests ahead of its append, at a unit at work (R144, R150). -/
def Journal.headerAhead (j : Journal) : List MemOp :=
  if j.nextSeq = 16777215 ∧ j.queue.any MemOp.isHeader = false then [.header none] else []

theorem takeSequence_more (more : s.journal.nextSeq ≠ 16777215) :
    s.takeSequence = s.setJournal s.journal.advanceSeq := if_neg more

theorem takeSequence_last (last : s.journal.nextSeq = 16777215) :
    s.takeSequence = (s.setJournal s.journal.advanceSeq).requestHeader := if_pos last

theorem takeSequence_of_busy (busy : s.journal.inService.isSome = true) : s.takeSequence =
    s.setJournal { s.journal.advanceSeq with queue := s.journal.queue ++ s.journal.headerAhead } := by
  by_cases last : s.journal.nextSeq = 16777215
  · rw [takeSequence_last last, advanceSeq_eq]
    cases waits : s.journal.queue.any MemOp.isHeader with
    | true =>
      have ahead : s.journal.headerAhead = [] := if_neg (by rw [waits]; simp)
      rw [ahead, List.append_nil]
      exact if_pos waits
    | false =>
      have ahead : s.journal.headerAhead = [.header none] := if_pos ⟨last, waits⟩
      rw [ahead, requestHeader_of_busy (by exact busy) (by exact waits)]
      rfl
  · have ahead : s.journal.headerAhead = [] := if_neg fun both => last both.1
    rw [takeSequence_more last, ahead, List.append_nil, advanceSeq_eq]

theorem takeSequence_of_idle (last : s.journal.nextSeq = 16777215) (free : s.journal.inService = none)
    (queue : s.journal.queue = []) :
    s.takeSequence = s.setJournal (s.journal.advanceSeq.served (.header none) [] s.elapsed) := by
  rw [takeSequence_last last, advanceSeq_eq]
  unfold State.requestHeader
  rw [if_neg (by simp [queue])]
  exact pushOp_of_idle (by exact free) (by exact queue) nofun

/-- The append that an accepted submission becomes. -/
def State.noticeAppend (s : State) (x : Submission) : MemOp :=
  .append .notice (s.journal.head s.cfg.nj) s.journal.nextSerial (x.record s.journal.header.epoch s.journal.nextSeq)

/-- The journal with the sequence, the slot and the serial of an accepted submission taken. -/
def State.journalGiven (s : State) : Journal := s.journal.advanceSeq.assign s.cfg.nj

theorem journalGiven_eq (s : State) : s.journalGiven = { s.journal with
    tail := if 0 < s.journal.free s.cfg.nj then s.journal.tail else (s.journal.tail + 1) % s.cfg.nj,
    sent := if 0 < s.journal.free s.cfg.nj then s.journal.sent else s.journal.sent - 1,
    unsent := s.journal.unsent + 1, nextSerial := s.journal.nextSerial + 1,
    nextSeq := if s.journal.nextSeq = 16777215 then 1 else s.journal.nextSeq + 1,
    header := if s.journal.nextSeq = 16777215 then
        { s.journal.header with epoch := if s.journal.header.epoch = 65535 then 1 else s.journal.header.epoch + 1 }
      else s.journal.header } := by
  rw [State.journalGiven, assign_eq, advanceSeq_eq]
  rfl

variable {x : Submission} (claim : s.journal.claimAvailable s.cfg.nj = true)
include claim

/-- At a unit at work the append waits, behind the header write where the epoch advances. -/
theorem accept_of_busy (busy : s.journal.inService.isSome = true) : s.accept x = s.setJournal { s.journalGiven with
    queue := s.journal.queue ++ s.journal.headerAhead ++ [s.noticeAppend x] } := by
  have assigns := canAssign_of_claim claim
  unfold State.accept
  dsimp only
  rw [takeSequence_of_busy busy, advanceSeq_eq, passAppend_notice_of_busy (by exact assigns) (by exact busy),
    journalGiven_eq, assign_eq]
  rfl

/-- At a unit that stands idle the append is served, or follows the header write that the epoch's advance makes. -/
theorem accept_of_idle (free : s.journal.inService = none) (queue : s.journal.queue = []) : s.accept x =
    s.setJournal { s.journalGiven with
      inService := some (if s.journal.nextSeq = 16777215 then .header (some s.journalGiven.header)
        else s.noticeAppend x),
      queue := if s.journal.nextSeq = 16777215 then [s.noticeAppend x] else [], ringWritten := false,
      opTimer := some (s.elapsed + 100) } := by
  have assigns := canAssign_of_claim claim
  unfold State.accept
  dsimp only
  by_cases last : s.journal.nextSeq = 16777215
  · rw [takeSequence_of_idle last free queue, advanceSeq_eq, passAppend_notice_of_busy (by exact assigns) rfl,
      journalGiven_eq, assign_eq]
    simp only [if_pos last]
    rfl
  · rw [takeSequence_more last, advanceSeq_eq,
      passAppend_notice_of_idle (by exact assigns) (by exact free) (by exact queue), journalGiven_eq, assign_eq]
    simp only [if_neg last]
    rfl

end

/-- Settles O56: a submission that passes the tests takes its sequence, its slot and its serial. -/
theorem submissionIsAccepted : Obligations.SubmissionIsAccepted := by
  rintro s bytes frame body c x _ j _ takes taken command on inside claim _ rfl given rfl
  have ran := exec_submission takes taken command
  rw [submit_accepted (judgeSubmission_passes (s := s.takeInHand frame) on inside claim)] at ran
  have given : j = (s.takeInHand frame).journalGiven := given.trans (journalGiven_eq (s.takeInHand frame)).symm
  have frames {j : Journal} : Only [.notice, .journal] s ((s.takeInHand frame).setJournal j) :=
    (takeInHand_only s frame).next (setJournal_only _ _)
  subst given
  refine ⟨fun busy => ?_, fun free queue => ?_⟩
  · rw [accept_of_busy (s := s.takeInHand frame) claim busy] at ran
    exact ⟨_, ran, rfl, rfl, frames⟩
  · rw [accept_of_idle (s := s.takeInHand frame) claim free queue] at ran
    exact ⟨_, ran, rfl, rfl, frames⟩

end Sys2Proof.Machine

namespace Sys2Proof.Machine

/-! ### The canonical form of the journal memory (R145, R149) -/

/-- The canonical form of the journal memory, if it stands before, stands after. -/
def MemoryKept (s t : State) : Prop := s.memoryOk → t.memoryOk

section
variable {s t : State}

theorem Only.memoryKept {bs : List Block} (e : Only bs s t) (m : Block.mem ∉ bs := by decide) : MemoryKept s t :=
  fun ok => by
    unfold State.memoryOk
    rw [e.mem_eq m]
    exact ok

theorem MemoryKept.refl (s : State) : MemoryKept s s := id

/-- An operation that leaves the memory alone after one that keeps its form. -/
theorem MemoryKept.next {u : State} {bs : List Block} (a : MemoryKept s t) (e : Only bs t u)
    (m : Block.mem ∉ bs := by decide) : MemoryKept s u := (e.memoryKept m) ∘ a

theorem setMem_bytes_memoryKept (s : State) (a : Nat) (bs : List Byte) :
    MemoryKept s (s.setMem (memWriteBytes s.mem a bs)) := fun ok => memWriteBytes_wf ok a bs

theorem setMem_cells_memoryKept (s : State) (cells : List Host.Cell) :
    MemoryKept s (s.setMem (memSetCells s.mem cells)) := fun ok => memSetCells_wf ok cells

theorem writeOpen_memoryKept (s : State) (h : Side) (i : OpenImage) : MemoryKept s (s.writeOpen h i) :=
  (setMem_bytes_memoryKept _ _ _).next (setOpenImage_only _ _ _)

theorem tearWrite_memoryKept (s : State) : MemoryKept s s.tearWrite := fun ok => by
  unfold State.tearWrite
  split
  · exact ok
  · exact memWriteBytes_wf (m := s.mem) ok _ _

theorem startWith_memoryKept (s : State) (c : Cause) (good active : Bool) : MemoryKept s (s.startWith c good active) :=
  tearWrite_memoryKept s

theorem judgeConfig_memoryKept (s : State) : MemoryKept s s.judgeConfig := by
  unfold State.judgeConfig
  dsimp only
  split
  · exact (enterConfigFault_only _ _ _).memoryKept
  · exact MemoryKept.refl s

/-- Every command keeps the canonical form of the journal memory: it writes bytes, or cells that others set. -/
theorem exec_memoryKept {c : Instr} (e : exec c s = .next t) : MemoryKept s t := by
  cases c with
  | powerStart => exact next_related e (startWith_memoryKept _ _ _ _)
  | supplyDip => exact next_related e (startWith_memoryKept _ _ _ _)
  | resetLine => exact next_related e (startWith_memoryKept _ _ _ _)
  | configAreaRead outside failed =>
    simp only [exec, execConfigAreaRead] at e
    split at e
    · split at e
      · exact next_related e (enterConfigFault_only _ _ _).memoryKept
      · split at e
        · exact next_related e (judgeConfig_memoryKept _ ∘ setMem_cells_memoryKept _ _)
        · cases e
    · exact next_related e (.refl _)
  | planAreaLoad outside failed =>
    simp only [exec, execPlanAreaLoad] at e
    have loaded : MemoryKept s ((s.setMem (memSetCells s.mem outside)).loadPlans failed) :=
      (setMem_cells_memoryKept _ _).next (loadPlans_only _ _)
    split at e
    · split at e
      · split at e
        · exact next_related e ((loaded.next (setStart_only _ _)).next (startScan_only _))
        · exact next_related e loaded
      · cases e
    · exact next_related e (.refl _)
  | journalScan outside failed =>
    simp only [exec, execJournalScan] at e
    split at e
    · split at e
      · exact next_related e ((setMem_cells_memoryKept _ _).next (runScan_only _ _))
      · cases e
    · exact next_related e (.refl _)
  | appendComplete =>
    simp only [exec, execAppendComplete] at e
    split at e
    · split at e
      · split at e
        · exact next_related e (((writeOpen_memoryKept _ _ _).next (setJournal_only _ _)).next (appendDone_only _ _ _))
        · exact next_related e (.refl _)
      · split at e
        · exact next_related e (appendDone_only _ _ _).memoryKept
        · exact next_related e ((setMem_bytes_memoryKept _ _ _).next (appendDone_only _ _ _))
    · exact next_related e (.refl _)
  | openSlotWriteComplete =>
    simp only [exec, execOpenSlotWriteComplete] at e
    split at e
    case h_4 => exact next_related e (.refl _)
    all_goals exact next_related e ((writeOpen_memoryKept _ _ _).next (afterService_only _))
  | planWriteComplete =>
    simp only [exec, execPlanWriteComplete] at e
    split at e
    · exact next_related e ((setMem_bytes_memoryKept _ _ _).next (afterService_only _))
    · exact next_related e (.refl _)
  | headerWriteComplete =>
    simp only [exec, execHeaderWriteComplete] at e
    split at e
    · exact next_related e (((setMem_bytes_memoryKept _ _ _).next (afterService_only _)).next (endScan_only _))
    · exact next_related e (.refl _)
  | sendReadComplete outside =>
    simp only [exec, execSendReadComplete] at e
    split at e
    · split at e
      · exact next_related e ((setMem_cells_memoryKept _ _).next (readEnded_only _ _ _))
      · cases e
    · exact next_related e (.refl _)
  | ringSlotWritten =>
    simp only [exec, execRingSlotWritten] at e
    split at e
    · split at e
      · exact next_related e (.refl _)
      · exact next_related e ((setMem_bytes_memoryKept _ _ _).next (setJournal_only _ _))
    · exact next_related e (.refl _)
  | readOnlyPassEnd outside failed =>
    simp only [exec, execReadOnlyPassEnd] at e
    split at e
    · split at e
      · exact next_related e ((setMem_cells_memoryKept _ _).next (placeSiteTime_only _ _))
      · cases e
    · exact next_related e (.refl _)
  | _ => exact (exec_only e).memoryKept (by simp [touched])

end

/-- Settles O4: every write goes through bytes or cells written one by one, and each keeps the form. -/
theorem memoryFormKept : Obligations.MemoryFormKept := by
  intro s t ok e
  obtain rfl | ⟨c, rest, -, ran⟩ := step_cases e
  · unfold State.tick
    split <;> exact ok
  · exact exec_memoryKept ran ok

/-! ### A write cut short (R149, R159) -/

/-- The check value of a torn structure is wrong for its bytes. -/
theorem checkOk_tornBytes (draws n : Nat) : checkOk (tornBytes draws n) = false := by
  unfold tornBytes
  generalize (List.range (n - 2)).map (fun i => BitVec.ofNat 8 (Config.tornByte (draws + i))) = data
  dsimp only
  have differs : natToBytes 2 (~~~ crc16 data).toNat ≠ checkBytes data := fun same => by
    have equal := congrArg bytesToNat same
    rw [checkBytes, bytesToNat_natToBytes_of_lt (~~~ crc16 data).isLt, bytesToNat_natToBytes_of_lt (crc16 data).isLt]
      at equal
    bv_omega
  simp [checkOk, natToBytes_length, differs, -BitVec.toNat_not]

theorem tornBytes_length (draws : Nat) : (tornBytes draws 128).length = 128 := by
  simp [tornBytes, natToBytes_length]

/-- Settles O11: the torn slot holds bytes with a wrong check value, and the write reaches no byte outside it. -/
theorem cutShortWriteFailsItsCheck : Obligations.CutShortWriteFailsItsCheck := by
  intro s h img c ok start write
  have torn : s.journal.inService.bind (MemOp.torn s.journal.ringWritten) = some (openAddress h, 128) := by
    obtain e | e := write <;> rw [e] <;> rfl
  have mem (cause : Cause) (good active : Bool) : (s.startWith cause good active).mem =
      memWriteBytes s.mem (openAddress h) (tornBytes s.draws 128) := by
    unfold State.startWith State.tearWrite
    rw [torn]
  have stored := memWriteBytes_stores ok (openAddress h) (tornBytes_length s.draws)
  have result (cause : Cause) (good active : Bool) : (s.startWith cause good active).journal.inService = none ∧
      SameOutside (openAddress h) 128 s.mem (s.startWith cause good active).mem ∧
      checkOk (memReadBytes (s.startWith cause good active).mem (openAddress h) 128) = false := by
    rw [mem, stored.1, checkOk_tornBytes]
    exact ⟨rfl, stored.2, rfl⟩
  obtain rfl | rfl | rfl := start <;> exact ⟨_, rfl, result _ _ _⟩

end Sys2Proof.Machine

namespace Sys2Proof.Machine

/-! ### A send read ends (R151 to R153) -/

section
variable {s : State}

theorem trySend_waits (busy : s.line.sender ≠ .idle) : s.trySend = s := if_neg fun ready => busy ready.1

/-- At a unit with nothing to do a send read that is due enters service at once. -/
theorem requestSendRead_of_idle (free : s.journal.inService = none) (queue : s.journal.queue = [])
    (room : s.line.queue.length < 4) (noHold : s.journal.loadHold = none)
    (unsent : s.journal.unsentAt s.cfg.nj s.journal.nextToLoad = true) :
    s.requestSendRead = s.setJournal (s.journal.served (.sendRead s.journal.nextToLoad) [] s.elapsed) := by
  have idle : s.journal.operations = [] := by rw [Journal.operations, free, queue]; rfl
  have due : s.line.queue.length < Config.sendQueueSize ∧ s.journal.operations.any MemOp.isSendRead = false ∧
      s.journal.loadHold = none ∧ s.journal.unsentAt s.cfg.nj s.journal.nextToLoad = true ∧
      s.journal.operations.any (MemOp.isAppendAt s.journal.nextToLoad) = false := by
    rw [idle]
    exact ⟨room, rfl, noHold, unsent, rfl⟩
  unfold State.requestSendRead
  dsimp only
  rw [if_pos due]
  exact pushOp_of_idle free queue fun _ _ => nofun

theorem requestSendRead_of_hold (hold : s.journal.loadHold ≠ none) : s.requestSendRead = s :=
  if_neg fun ⟨_, _, noHold, _⟩ => hold noHold

/-- A service ends with nothing waiting, at a sender that has a frame in hand: at most a send read follows. -/
theorem readEnded_of_empty (queue : s.journal.queue = []) (busy : s.line.sender ≠ .idle) :
    s.afterService.trySend = s.endService.requestSendRead := by
  unfold State.afterService
  rw [serveNext_of_empty (s := s.endService) queue]
  refine trySend_waits ?_
  rw [(requestSendRead_only s.endService).line_eq]
  exact busy

theorem sendReadDone_found {pos : Nat} {x : RingSlot} (serial : x.serial = s.journal.expectedSerial s.cfg.nj pos) :
    s.sendReadDone pos (some x) =
      (s.setLine { s.line with queue := s.line.queue ++ [⟨pos, x.kind, x.body⟩] }).setJournal
        { s.journal with nextToLoad := (pos + 1) % s.cfg.nj } := if_pos serial

/-- A slot that does not read as the record of the expected serial. -/
def State.unreadableAt (s : State) (pos : Nat) (slot : Option RingSlot) : Prop :=
  ∀ x, slot = some x → x.serial ≠ s.journal.expectedSerial s.cfg.nj pos

theorem sendReadDone_unreadable {pos : Nat} {slot : Option RingSlot} (unreadable : s.unreadableAt pos slot) :
    s.sendReadDone pos slot = (s.setJournal { s.journal with loadHold := some pos }).passOver := by
  cases slot with
  | none => rfl
  | some x => exact if_neg (unreadable x rfl)

theorem passOver_elsewhere (elsewhere : s.journal.loadHold ≠ some (s.journal.sendMark s.cfg.nj)) : s.passOver = s :=
  if_neg elsewhere

theorem passOver_here (here : s.journal.loadHold = some (s.journal.sendMark s.cfg.nj)) : s.passOver =
    s.advanceMark.setJournal { s.advanceMark.journal with
      loadHold := none, nextToLoad := s.advanceMark.journal.sendMark s.cfg.nj } := if_pos here

/-- The mark advances where neither its save nor a recovery is due. -/
theorem advanceMark_alone (unsent : 0 < s.journal.unsent) (unsaved : s.journal.sentSinceSave + 1 ≠ 16)
    (none : s.journal.pendingRecoveries = []) : s.advanceMark = s.setJournal { s.journal with
      sent := s.journal.sent + 1, unsent := s.journal.unsent - 1, sentSinceSave := s.journal.sentSinceSave + 1 } := by
  have some : s.journal.unsent ≠ 0 := by omega
  unfold State.advanceMark
  dsimp only
  rw [if_neg some, if_neg unsaved, giveRecovery_of_none (by exact none)]

/-- An unreadable slot away from the send mark: load hold stands on it, and no send read follows. -/
theorem unreadable_holds {pos : Nat} {slot : Option RingSlot} (unreadable : s.unreadableAt pos slot)
    (queue : s.journal.queue = []) (busy : s.line.sender ≠ .idle) (away : s.journal.sendMark s.cfg.nj ≠ pos) :
    (s.sendReadDone pos slot).afterService.trySend = s.setJournal { s.journal with
      loadHold := some pos, inService := none, ringWritten := false, opTimer := none } := by
  have held : s.sendReadDone pos slot = s.setJournal { s.journal with loadHold := some pos } := by
    rw [sendReadDone_unreadable unreadable]
    exact passOver_elsewhere fun same => away (Option.some.inj same).symm
  rw [held, readEnded_of_empty (by exact queue) (by exact busy)]
  exact requestSendRead_of_hold nofun

/-- An unreadable slot at the send mark is passed over where neither the saved mark nor a recovery is due. -/
theorem unreadable_passedOver {pos : Nat} {slot : Option RingSlot} (unreadable : s.unreadableAt pos slot)
    (here : s.journal.sendMark s.cfg.nj = pos) (unsent : 0 < s.journal.unsent)
    (unsaved : s.journal.sentSinceSave + 1 ≠ 16) (none : s.journal.pendingRecoveries = []) :
    s.sendReadDone pos slot = s.setJournal { s.journal with
      sent := s.journal.sent + 1, unsent := s.journal.unsent - 1, sentSinceSave := s.journal.sentSinceSave + 1,
      loadHold := .none, nextToLoad := (s.journal.tail + (s.journal.sent + 1)) % s.cfg.nj } := by
  have advanced := advanceMark_alone (s := s.setJournal { s.journal with loadHold := some pos }) unsent unsaved none
  rw [sendReadDone_unreadable unreadable, passOver_here (by exact congrArg some here.symm), advanced]
  rfl

/-- The send mark is UNSENT where anything is. -/
theorem unsentAt_sendMark (j : Journal) {nj : Nat} (ring : 0 < nj) :
    j.unsentAt nj (j.sendMark nj) = decide (0 < j.unsent) := by
  have inside : j.sendMark nj < nj := Nat.mod_lt _ ring
  unfold Journal.unsentAt ringDistance
  rw [Nat.mod_eq_of_lt inside, Nat.add_sub_cancel_left, Nat.mod_self]

/-! ### The commands that end a send read -/

theorem exec_sendReadComplete {pos : Nat} {outside : List Host.Cell}
    (service : s.journal.inService = some (.sendRead pos)) (inside : cellsInMemory outside = true) :
    exec (.sendReadComplete outside) s = .next ((s.setMem (memSetCells s.mem outside)).sendReadDone pos
      ((s.setMem (memSetCells s.mem outside)).ringSlot pos)).afterService.trySend := by
  simp only [exec, execSendReadComplete, service]
  exact if_pos inside

theorem exec_fails {c : Instr} (fails : c = .memoryOpFailed ∨ c = .memoryOpTimeout) :
    exec c s = .next s.operationFails := by
  obtain rfl | rfl := fails <;> rfl

theorem readingConfig_of_stage (stage : s.start.stage ≠ .config) : s.readingConfig = false := by
  simp [State.readingConfig, stage]

theorem operationFails_sendRead {pos : Nat} (stage : s.start.stage ≠ .config)
    (service : s.journal.inService = some (.sendRead pos)) :
    s.operationFails = (s.sendReadDone pos none).afterService.trySend := by
  simp only [State.operationFails, readingConfig_of_stage stage, service]
  rfl

theorem operationFails_write {op : MemOp} (stage : s.start.stage ≠ .config) (service : s.journal.inService = some op)
    (write : op.isSendRead = false) :
    s.operationFails = s.setJournal { s.journal with opTimer := some (s.elapsed + 100) } := by
  simp only [State.operationFails, readingConfig_of_stage stage, service]
  cases op with
  | sendRead pos => cases write
  | _ => rfl

/-- A failed read of the configuration area is counted; the third ends CONFIG (R175). -/
theorem operationFails_configRead (stage : s.start.stage = .config) (unread : s.start.recordGood = false) :
    s.operationFails = if 3 ≤ s.start.failedReads + 1
      then (s.setStart { s.start with failedReads := s.start.failedReads + 1 }).enterConfigFault .readFailed 9600
      else s.setStart { s.start with failedReads := s.start.failedReads + 1 } := by
  have reading : s.readingConfig = true := by simp [State.readingConfig, stage, unread]
  unfold State.operationFails
  rw [if_pos reading]

end

/-- The state once a send read has loaded its record and its service has ended (R152). -/
def State.recordLoaded (s : State) (outside : List Host.Cell) (pos : Nat) (x : RingSlot) : State :=
  ((s.setMem (memSetCells s.mem outside)).setLine
    { s.line with queue := s.line.queue ++ [⟨pos, x.kind, x.body⟩] }).setJournal
      { s.journal with
        nextToLoad := (pos + 1) % s.cfg.nj, inService := none, ringWritten := false, opTimer := none }

theorem recordLoaded_only (s : State) (outside : List Host.Cell) (pos : Nat) (x : RingSlot) :
    Only [.mem, .line, .journal] s (s.recordLoaded outside pos x) :=
  ((setMem_only s _).next (bs := [.mem, .line]) (setLine_only _ _)).next (setJournal_only _ _)

theorem recordLoaded_room {s : State} {outside : List Host.Cell} {pos : Nat} {x : RingSlot} :
    (s.recordLoaded outside pos x).line.queue.length < 4 ↔ s.line.queue.length < 3 := by
  have queue : (s.recordLoaded outside pos x).line.queue.length = s.line.queue.length + 1 := List.length_append
  omega

/-- R152: a send read that finds its record. -/
theorem sendRead_loads {s : State} {pos next : Nat} {outside : List Host.Cell} {x : RingSlot}
    (service : s.journal.inService = some (.sendRead pos)) (queue : s.journal.queue = [])
    (busy : s.line.sender ≠ .idle) (inside : cellsInMemory outside = true)
    (read : decodeSlot (memReadBytes (memSetCells s.mem outside) (1280 + 128 * pos) 128) = some x)
    (serial : x.serial = s.journal.expectedSerial s.cfg.nj pos) (after : next = (pos + 1) % s.cfg.nj) :
    ∃ t, exec (.sendReadComplete outside) s = .next t ∧ t.mem = memSetCells s.mem outside ∧
      t.line = { s.line with queue := s.line.queue ++ [⟨pos, x.kind, x.body⟩] } ∧
      (3 ≤ s.line.queue.length ∨ s.journal.loadHold ≠ none ∨ s.journal.unsentAt s.cfg.nj next = false →
        t.journal = { s.journal with
          nextToLoad := next, inService := none, ringWritten := false, opTimer := none }) ∧
      (s.line.queue.length < 3 → s.journal.loadHold = none → s.journal.unsentAt s.cfg.nj next = true →
        t.journal = { s.journal with
          nextToLoad := next, inService := some (.sendRead next), ringWritten := false,
          opTimer := some (s.elapsed + 100) }) ∧
      Only [.mem, .line, .journal] s t := by
  subst after
  have frames := recordLoaded_only s outside pos x
  have ran : exec (.sendReadComplete outside) s = .next (s.recordLoaded outside pos x).requestSendRead := by
    have slot : (s.setMem (memSetCells s.mem outside)).ringSlot pos = some x := read
    rw [exec_sendReadComplete service inside, slot, sendReadDone_found (by exact serial),
      readEnded_of_empty (by exact queue) (by exact busy)]
    rfl
  by_cases due : s.line.queue.length < 3 ∧ s.journal.loadHold = none ∧
      s.journal.unsentAt s.cfg.nj ((pos + 1) % s.cfg.nj) = true
  · obtain ⟨room, noHold, unsent⟩ := due
    rw [requestSendRead_of_idle rfl (by exact queue) (recordLoaded_room.2 room) (by exact noHold) (by exact unsent)]
      at ran
    refine ⟨_, ran, rfl, rfl, fun none => ?_, fun _ _ _ => ?_, frames.trans (setJournal_only _ _).mono⟩
    · obtain full | hold | sent := none
      · omega
      · exact absurd noHold hold
      · exact nomatch sent.symm.trans unsent
    · rw [← queue]
      rfl
  · have none : (s.recordLoaded outside pos x).requestSendRead = s.recordLoaded outside pos x :=
      if_neg fun ⟨room, _, noHold, unsent, _⟩ => due ⟨recordLoaded_room.1 room, noHold, unsent⟩
    rw [none] at ran
    exact ⟨_, ran, rfl, rfl, fun _ => rfl, fun room noHold unsent => absurd ⟨room, noHold, unsent⟩ due, frames⟩

/-- The state once an unreadable slot at the send mark has been passed over and its service has ended (R152). -/
def State.slotPassed (s : State) (m : List Host.Cell) : State :=
  (s.setMem m).setJournal { s.journal with
    sent := s.journal.sent + 1, unsent := s.journal.unsent - 1, sentSinceSave := s.journal.sentSinceSave + 1,
    loadHold := none, nextToLoad := (s.journal.tail + (s.journal.sent + 1)) % s.cfg.nj,
    inService := none, ringWritten := false, opTimer := none }

/-- R152, R153: a send read that finds no record, or fails. -/
theorem sendRead_unreadable {s : State} {pos : Nat} {m : List Host.Cell} {c : Instr} {slot : Option RingSlot}
    (queue : s.journal.queue = []) (busy : s.line.sender ≠ .idle) (inside : pos < s.cfg.nj)
    (ran : exec c s = .next ((s.setMem m).sendReadDone pos slot).afterService.trySend)
    (unreadable : s.unreadableAt pos slot) :
    (s.journal.sendMark s.cfg.nj ≠ pos → ∃ t, exec c s = .next t ∧ t.mem = m ∧
      t.journal = { s.journal with
        loadHold := some pos, inService := none, ringWritten := false, opTimer := none } ∧
      Only [.mem, .journal] s t) ∧
    (s.journal.sendMark s.cfg.nj = pos → 0 < s.journal.unsent → s.journal.sentSinceSave + 1 ≠ 16 →
      s.journal.pendingRecoveries = [] →
      ∃ t, exec c s = .next t ∧ t.mem = m ∧
        t.journal.sent = s.journal.sent + 1 ∧ t.journal.unsent = s.journal.unsent - 1 ∧
        t.journal.sentSinceSave = s.journal.sentSinceSave + 1 ∧ t.journal.loadHold = none ∧
        t.journal.nextToLoad = (pos + 1) % s.cfg.nj ∧ t.journal.tail = s.journal.tail ∧
        t.journal.header = s.journal.header ∧ t.journal.claims = s.journal.claims ∧
        t.journal.inService = (if 1 < s.journal.unsent ∧ s.line.queue.length < 4 then
          some (.sendRead ((pos + 1) % s.cfg.nj)) else none) ∧
        Only [.mem, .journal] s t) := by
  have unreadable' : (s.setMem m).unreadableAt pos slot := unreadable
  have frames (j : Journal) : Only [.mem, .journal] s ((s.setMem m).setJournal j) :=
    (setMem_only s m).next (setJournal_only _ _)
  refine ⟨fun away => ?_, fun here unsent unsaved none => ?_⟩
  · rw [unreadable_holds unreadable' queue busy away] at ran
    exact ⟨_, ran, rfl, rfl, frames _⟩
  · have ring : 0 < s.cfg.nj := by omega
    have mark : (s.journal.tail + (s.journal.sent + 1)) % s.cfg.nj = (pos + 1) % s.cfg.nj := by
      rw [← here, Journal.sendMark, Nat.mod_add_mod, Nat.add_assoc]
    have due : (s.slotPassed m).journal.unsentAt s.cfg.nj (s.slotPassed m).journal.nextToLoad =
        decide (0 < s.journal.unsent - 1) := unsentAt_sendMark (s.slotPassed m).journal ring
    rw [unreadable_passedOver unreadable' here unsent unsaved none,
      readEnded_of_empty (by exact queue) (by exact busy)] at ran
    change exec c s = .next (s.slotPassed m).requestSendRead at ran
    by_cases reads : 1 < s.journal.unsent ∧ s.line.queue.length < 4
    · obtain ⟨more, room⟩ := reads
      have requested : (s.slotPassed m).requestSendRead = _ :=
        requestSendRead_of_idle rfl queue room rfl (due.trans (decide_eq_true (by omega)))
      rw [requested] at ran
      refine ⟨_, ran, rfl, rfl, rfl, rfl, rfl, mark, rfl, rfl, rfl, ?_, frames _⟩
      rw [if_pos ⟨more, room⟩, ← mark]
      rfl
    · have idle : (s.slotPassed m).requestSendRead = s.slotPassed m := by
        refine requestSendRead_of_none fun room => due.trans (decide_eq_false fun more => reads ⟨by omega, room⟩)
      rw [idle] at ran
      exact ⟨_, ran, rfl, rfl, rfl, rfl, rfl, mark, rfl, rfl, rfl, (if_neg reads).symm, frames _⟩

/-- Settles O52: each way a send read ends, and the failure of a write and of a read of the configuration area. -/
theorem sendReadsAndFailures : Obligations.SendReadsAndFailures := by
  refine ⟨?_, ?_⟩
  · intro s pos outside m c service queue busy inside cells
    refine ⟨?_, ?_⟩
    · rintro x next rfl read serial after
      exact sendRead_loads service queue busy cells read serial after
    · intro fails
      have ended : ∃ slot, exec c s = .next ((s.setMem m).sendReadDone pos slot).afterService.trySend ∧
          s.unreadableAt pos slot := by
        obtain ⟨rfl, rfl, other⟩ | ⟨stage, rfl, fails⟩ := fails
        · exact ⟨_, exec_sendReadComplete service cells, other⟩
        · exact ⟨none, (exec_fails fails).trans (by rw [operationFails_sendRead stage service]; rfl), nofun⟩
      obtain ⟨slot, ran, unreadable⟩ := ended
      obtain ⟨away, here⟩ := sendRead_unreadable queue busy inside ran unreadable
      exact ⟨away, fun mark unsent unsaved none _ => here mark unsent unsaved none⟩
  · intro s c fails
    rw [exec_fails fails]
    refine ⟨fun op stage service write => ?_, fun stage unread few => ?_, fun stage unread two => ?_⟩
    · rw [operationFails_write stage service write]
      exact ⟨_, rfl, rfl, setJournal_only _ _⟩
    · rw [operationFails_configRead stage unread, if_neg (by omega)]
      exact ⟨_, rfl, rfl, setStart_only _ _⟩
    · rw [operationFails_configRead stage unread, if_pos (by omega)]
      exact ⟨_, rfl, rfl, rfl, (setStart_only _ _).next (enterConfigFault_only _ _ _)⟩

end Sys2Proof.Machine

/-! The claims of R147: what they depend on at a hose and in the journal unit. -/

namespace Sys2Proof.Machine

set_option Elab.async false

/-! ### A hose and its delivery record -/

/-- What the claims depend on at one hose: its state, whether a delivery record stands, the hose that the record's
FINAL image names, and the write-backs that wait or are in flight. -/
structure CycleView where
  state : HoseState
  delivered : Bool
  image : Option Side
  writes : Nat

/-- The write-backs of a unit that wait or are in flight (R63). -/
def TagUnit.writes (u : TagUnit) : Nat := bitCode u.waitingWriteBack.isSome + bitCode u.writingBack

/-- The hose that the FINAL image of a hose's delivery record names. -/
def Hose.imageHose (x : Hose) : Option Side := (x.delivery.bind Delivery.finalImage).map IssueRecord.hose

def State.cycleView (s : State) (h : Side) : CycleView :=
  ⟨(s.hose h).state, (s.hose h).delivery.isSome, (s.hose h).imageHose, (s.tag h).writes⟩

/-- The conditions of `State.cycleOk` at a hose that has passed `n` appends. -/
structure CycleView.Sound (v : CycleView) (h : Side) (n : Nat) : Prop where
  placed : v.delivered = true →
    v.state.live = true ∨ v.state = .writeback ∨ v.state = .recording ∨ v.state = .fault
  before : v.state.live = true ∨ v.state = .writeback → v.delivered = true ∧ n = 0
  passed : 1 ≤ n → v.delivered = true ∧ (v.state = .recording ∨ v.state = .fault) ∧ n = 1 ∧ v.writes = 0
  writing : 1 ≤ v.writes → v.delivered = true ∧ (v.state = .writeback ∨ v.state = .fault) ∧ v.writes = 1
  image : ∀ k, v.image = some k → k = h

/-- The claim of a hose's delivery that waits for a slot, where the hose has passed `n` appends (R147). -/
def CycleView.waits (v : CycleView) (n : Nat) : Nat := bitCode (v.delivered && n == 0)

/-- A state in which a hose holds no delivery record. -/
def HoseState.resting : HoseState → Bool
  | .start | .unarmed | .idle | .identifying | .refused => true
  | _ => false

theorem resting_rest (x : Hook) : x.rest.resting = true := by cases x <;> rfl

theorem live_eq_false_of_resting {x : HoseState} (e : x.resting = true) : x.live = false ∧ x ≠ .writeback := by
  cases x <;> simp_all [HoseState.resting, HoseState.live]

namespace CycleView

variable {v : CycleView} {h : Side} {n : Nat} {x : HoseState}

@[simp] theorem waits_of_delivered (e : v.delivered = true) : v.waits 0 = 1 := by simp [waits, e, bitCode]

@[simp] theorem waits_of_not_delivered (e : v.delivered = false) (n : Nat) : v.waits n = 0 := by
  simp [waits, e, bitCode]

theorem waits_of_appended (v : CycleView) (e : n ≠ 0) : v.waits n = 0 := by simp [waits, e, bitCode]

theorem Sound.of_not_delivered (c : v.Sound h n) (e : v.delivered = false) : n = 0 ∧ v.writes = 0 := by
  have appended := c.passed
  have writing := c.writing
  simp only [e, Bool.false_eq_true, false_and, imp_false] at appended writing
  omega

theorem Sound.not_delivered (c : v.Sound h n) (e : v.state.resting = true) : v.delivered = false := by
  have placed := c.placed
  cases d : v.delivered
  · rfl
  · cases st : v.state <;> simp_all [HoseState.resting, HoseState.live]

theorem Sound.of_live (c : v.Sound h n) (e : v.state.live = true) :
    v.delivered = true ∧ n = 0 ∧ v.writes = 0 := by
  have before := c.before (.inl e)
  refine ⟨before.1, before.2, ?_⟩
  have writing := c.writing
  cases st : v.state <;> simp_all [HoseState.live]

/-- While a write-back waits or is in flight no append has been passed. -/
theorem Sound.of_writing (c : v.Sound h n) (e : 1 ≤ v.writes) : n = 0 := by
  have passed := c.passed
  omega

/-- Without a delivery record any resting state is sound. -/
theorem Sound.rest (c : v.Sound h n) (e : v.delivered = false) (r : x.resting = true) :
    CycleView.Sound { v with state := x } h n where
  placed d := by simp [e] at d
  before o := by simp [live_eq_false_of_resting r] at o
  passed o := by simp [c.of_not_delivered e] at o
  writing o := by simp [c.of_not_delivered e] at o
  image := c.image

/-- A live delivery stays one, or its hose enters a state of the record's write-back and append (R18, R20). -/
theorem Sound.from_live {i : Option Side} (c : v.Sound h n) (l : v.state.live = true)
    (r : x.live = true ∨ x = .writeback ∨ x = .recording ∨ x = .fault) (own : ∀ k, i = some k → k = h) :
    CycleView.Sound { v with state := x, image := i } h n where
  placed _ := r
  before _ := ⟨(c.of_live l).1, (c.of_live l).2.1⟩
  passed o := by simp [c.of_live l] at o
  writing o := by simp [c.of_live l] at o
  image := own

/-- FAULT takes a delivery record with its write-back and its append as they stand (R23). -/
theorem Sound.to_fault (c : v.Sound h n) : CycleView.Sound { v with state := .fault } h n where
  placed _ := .inr (.inr (.inr rfl))
  before o := by simp [HoseState.live] at o
  passed o := ⟨(c.passed o).1, .inr rfl, (c.passed o).2.2⟩
  writing o := ⟨(c.writing o).1, .inr rfl, (c.writing o).2.2⟩
  image := c.image

/-- The write-back over, the record is to be appended (R21, R22). -/
theorem Sound.to_recording (c : v.Sound h n) (w : v.writes = 0) (z : n = 0) :
    CycleView.Sound { v with state := .recording } h n where
  placed _ := .inr (.inr (.inl rfl))
  before o := by simp [HoseState.live] at o
  passed o := by omega
  writing o := absurd o (by simp [w])
  image := c.image

theorem Sound.fewer_writes {w : Nat} (c : v.Sound h n) (le : w ≤ v.writes) :
    CycleView.Sound { v with writes := w } h n where
  placed := c.placed
  before := c.before
  passed o := by
    obtain ⟨d, st, one, none⟩ := c.passed o
    exact ⟨d, st, one, Nat.le_zero.1 (none ▸ le)⟩
  writing o := by
    obtain ⟨d, st, one⟩ := c.writing (o.trans le)
    exact ⟨d, st, Nat.le_antisymm (one ▸ le) o⟩
  image := c.image

/-- A write-back asked for (R20 step 9). -/
theorem Sound.one_write (c : v.Sound h 0) (d : v.delivered = true) (st : v.state = .writeback ∨ v.state = .fault) :
    CycleView.Sound { v with writes := 1 } h 0 where
  placed := c.placed
  before := c.before
  passed o := by simp at o
  writing _ := ⟨d, st, rfl⟩
  image := c.image

/-- The append of the record passed (R22). -/
theorem Sound.one_append (c : v.Sound h 0) (d : v.delivered = true) (st : v.state = .recording ∨ v.state = .fault)
    (w : v.writes = 0) : v.Sound h 1 where
  placed := c.placed
  before o := by rcases st with e | e <;> simp [e, HoseState.live] at o
  passed _ := ⟨d, st, rfl, w⟩
  writing := c.writing
  image := c.image

/-- A delivery record that has become absent, with no append passed any more (R18, R22). -/
theorem sound_absent (w : v.writes = 0) (d : v.delivered = false) (i : v.image = none)
    (st : v.state.resting = true ∨ v.state = .fault) : v.Sound h 0 where
  placed o := by simp [d] at o
  before o := by
    rcases st with r | r
    · simp [live_eq_false_of_resting r] at o
    · simp [r, HoseState.live] at o
  passed o := by simp at o
  writing o := by simp [w] at o
  image k o := by simp [i] at o

/-- A hose at a grant (R12). -/
theorem sound_granted (w : v.writes = 0) (d : v.delivered = true) (i : v.image = none)
    (st : v.state = .authorised) : v.Sound h 0 where
  placed _ := .inl (by rw [st]; rfl)
  before _ := ⟨d, rfl⟩
  passed o := by simp at o
  writing o := by simp [w] at o
  image k o := by simp [i] at o

end CycleView

/-! ### The journal unit's ledger -/

/-- An append. -/
def MemOp.isAppend : MemOp → Bool
  | .append _ _ _ _ => true
  | _ => false

/-- What the claims depend on in the journal unit (R146 to R148, R158). -/
structure Ledger where
  sent : Nat
  unsent : Nat
  nextSerial : Nat
  claims : Nat
  pending : Nat
  appends : List MemOp

def Journal.ledger (j : Journal) : Ledger where
  sent := j.sent
  unsent := j.unsent
  nextSerial := j.nextSerial
  claims := j.claims
  pending := j.pendingRecoveries.length
  appends := j.operations.filter MemOp.isAppend

theorem bitCode_le_one (b : Bool) : bitCode b ≤ 1 := by cases b <;> decide

/-- A notice port's append, or the start scan's, is no hose's. -/
theorem isHoseAppend_of_source {src : AppendSource} (notHose : src ≠ .hose) (h : Side) (pos serial : Nat) (r : Record) :
    MemOp.isHoseAppend h (.append src pos serial r) = false := by
  cases src with
  | hose => exact absurd rfl notHose
  | notice => rfl
  | scan => rfl

theorem isIssueAppend_of_record {r : Record} (other : ∀ x, r ≠ .issue x) (src : AppendSource) (pos serial : Nat) :
    MemOp.isIssueAppend (.append src pos serial r) = false := by
  cases r with
  | issue x => exact absurd rfl (other x)
  | service _ _ _ => rfl
  | vehicle _ _ _ => rfl
  | cls _ _ _ => rfl

theorem isIssueAppend_of_isHoseAppend {op : MemOp} {h : Side} (e : op.isHoseAppend h = true) :
    op.isIssueAppend = true := by
  unfold MemOp.isHoseAppend at e
  split at e
  · rfl
  · cases e

theorem isHoseAppend_of_record {r : Record} (other : ∀ x, r ≠ .issue x) (h : Side) (src : AppendSource)
    (pos serial : Nat) : MemOp.isHoseAppend h (.append src pos serial r) = false := by
  by_contra passed
  have issue := isIssueAppend_of_isHoseAppend (Bool.not_eq_false _ ▸ passed)
  rw [isIssueAppend_of_record other] at issue
  cases issue

namespace Ledger

/-- The appends of ISSUE records passed. -/
def issues (l : Ledger) : Nat := l.appends.countP MemOp.isIssueAppend

/-- The appends that a hose has passed. -/
def appended (l : Ledger) (h : Side) : Nat := l.appends.countP (MemOp.isHoseAppend h)

/-- The ledger once a slot has been assigned to an append (R148). -/
def assigned (l : Ledger) (nj : Nat) (op : MemOp) : Ledger :=
  { l with
    sent := if 0 < nj - l.sent - l.unsent then l.sent else l.sent - 1
    unsent := l.unsent + 1, nextSerial := l.nextSerial + 1, appends := l.appends ++ [op] }

/-- A slot can be assigned (R146, R148). -/
def Room (l : Ledger) (nj : Nat) : Prop := 1 ≤ nj - l.sent - l.unsent + l.sent ∧ l.nextSerial ≤ Config.serialMax

/-- The conditions of `State.claimsOk` on the journal unit, where `w` claims of deliveries wait for a slot. -/
structure Covers (early : Prop) (nj : Nat) (l : Ledger) (w : Nat) : Prop where
  fits : l.sent + l.unsent ≤ nj
  clean : early → l.sent = 0 ∧ l.unsent = 0 ∧ l.pending = 0
  claims : w + l.pending + l.issues ≤ l.claims
  slots : w + l.unsent ≤ nj
  serials : w ≤ Config.serialMax + 1 - l.nextSerial
  full : l.pending ≠ 0 → w = 0 ∧ (nj ≤ l.unsent ∨ Config.serialMax < l.nextSerial)

variable {early : Prop} {nj w : Nat} {l : Ledger} {op : MemOp}

@[simp] theorem assigned_issues : (l.assigned nj op).issues = l.issues + bitCode op.isIssueAppend := by
  simp [assigned, issues, List.countP_append, List.countP_singleton, bitCode]

@[simp] theorem assigned_appended (h : Side) :
    (l.assigned nj op).appended h = l.appended h + bitCode (op.isHoseAppend h) := by
  simp [assigned, appended, List.countP_append, List.countP_singleton, bitCode]

/-- Where a delivery's claim waits a slot can be assigned. -/
theorem Covers.room (c : l.Covers early nj (1 + w)) : l.Room nj := by
  have slots := c.slots
  have serials := c.serials
  have fits := c.fits
  constructor <;> omega

/-- Where a slot can be assigned no recovery is pending. -/
theorem Covers.none_pending (c : l.Covers early nj w) (room : l.Room nj) : l.pending = 0 := by
  obtain ⟨slot, serial⟩ := room
  have full := c.full
  have fits := c.fits
  omega

theorem assigned_fits (fits : l.sent + l.unsent ≤ nj) (room : l.Room nj) :
    (l.assigned nj op).sent + (l.assigned nj op).unsent ≤ nj := by
  have slot := room.1
  simp only [assigned]
  split <;> omega

/-- A slot assigned where claims, slots and serials suffice for those that still wait. -/
theorem Covers.assigned {m : Nat} (c : l.Covers early nj w) (late : ¬ early) (room : l.Room nj)
    (claims : m + l.pending + l.issues + bitCode op.isIssueAppend ≤ l.claims) (slots : m + (l.unsent + 1) ≤ nj)
    (serials : m + 1 ≤ Config.serialMax + 1 - l.nextSerial) : (l.assigned nj op).Covers early nj m where
  fits := assigned_fits c.fits room
  clean o := absurd o late
  claims := by
    rw [assigned_issues]
    simp only [Ledger.assigned]
    omega
  slots := slots
  serials := by
    simp only [Ledger.assigned]
    omega
  full o := absurd (c.none_pending room) o

/-- A delivery's append is given the slot that its claim waited for (R147, R148). -/
theorem Covers.assigned_of_delivery (c : l.Covers early nj (1 + w)) (late : ¬ early) :
    (l.assigned nj op).Covers early nj w := by
  have claims := c.claims
  have slots := c.slots
  have serials := c.serials
  have bit := bitCode_le_one op.isIssueAppend
  exact c.assigned late c.room (by omega) (by omega) (by omega)

/-- A claim is available (R147). -/
def ClaimFree (l : Ledger) (nj : Nat) : Prop :=
  l.claims + 1 ≤ nj - l.sent - l.unsent + l.sent ∧ l.claims < Config.serialMax + 1 - l.nextSerial

theorem ClaimFree.room (f : l.ClaimFree nj) : l.Room nj := by
  obtain ⟨slot, serial⟩ := f
  constructor <;> omega

/-- An append that takes no claim is given a slot where a claim is available (R147, R185). -/
theorem Covers.assigned_of_free (c : l.Covers early nj w) (late : ¬ early) (f : l.ClaimFree nj)
    (other : op.isIssueAppend = false) : (l.assigned nj op).Covers early nj w := by
  have claims := c.claims
  have fits := c.fits
  have room := f.room
  obtain ⟨slot, serial⟩ := f
  exact c.assigned late room (by simp [other, bitCode, claims]) (by omega) (by omega)

/-- A claim taken at a grant (R12, R147). -/
theorem Covers.claimed (c : l.Covers early nj w) (f : l.ClaimFree nj) :
    Covers early nj { l with claims := l.claims + 1 } (1 + w) where
  fits := c.fits
  clean := c.clean
  claims := by
    have claims := c.claims
    simp only [issues] at claims ⊢
    omega
  slots := by
    have claims := c.claims
    have fits := c.fits
    obtain ⟨slot, serial⟩ := f
    dsimp only
    omega
  serials := by
    have claims := c.claims
    obtain ⟨slot, serial⟩ := f
    dsimp only
    omega
  full o := absurd (c.none_pending f.room) o

/-- A claim of a delivery released (R18, R147). -/
theorem Covers.released (c : l.Covers early nj (1 + w)) : Covers early nj { l with claims := l.claims - 1 } w where
  fits := c.fits
  clean := c.clean
  claims := by
    have claims := c.claims
    simp only [issues] at claims ⊢
    omega
  slots := by
    have slots := c.slots
    dsimp only
    omega
  serials := by
    have serials := c.serials
    dsimp only
    omega
  full o := by have := (c.full o).1; omega

/-- The ledger once the send mark has advanced by one (R153). -/
def advanced (l : Ledger) : Ledger := { l with sent := l.sent + 1, unsent := l.unsent - 1 }

/-- The send mark advances where no pending recovery can be given a slot (R153, R158). -/
theorem Covers.advanced (c : l.Covers early nj w) (held : l.unsent ≠ 0)
    (none : l.pending = 0 ∨ ¬ l.advanced.Room nj) : l.advanced.Covers early nj w where
  fits := by
    have fits := c.fits
    simp only [Ledger.advanced]
    omega
  clean o := absurd (c.clean o).2.1 held
  claims := c.claims
  slots := by
    have slots := c.slots
    simp only [Ledger.advanced]
    omega
  serials := c.serials
  full o := by
    have waiting := (c.full o).1
    have fits := c.fits
    have full := none.resolve_left o
    simp only [Room, Ledger.advanced] at full ⊢
    omega

/-- The send mark advances, and the oldest pending recovery is given the slot (R158). -/
theorem Covers.advanced_recovered (c : l.Covers early nj w) (held : l.unsent ≠ 0) (some : l.pending ≠ 0)
    (room : l.advanced.Room nj) :
    (Ledger.assigned { l.advanced with pending := l.pending - 1 } nj op).Covers early nj w := by
  obtain ⟨waiting, full⟩ := c.full some
  have fits := c.fits
  have claims := c.claims
  have serial : l.nextSerial ≤ Config.serialMax := room.2
  have bit := bitCode_le_one op.isIssueAppend
  constructor
  case clean => exact fun o => absurd (c.clean o).2.1 held
  case claims =>
    rw [assigned_issues]
    simp only [Ledger.assigned, Ledger.advanced, issues] at claims ⊢
    omega
  case fits => exact assigned_fits (by simp only [Ledger.advanced]; omega) ⟨room.1, room.2⟩
  all_goals
    simp only [Ledger.assigned, Ledger.advanced]
    omega

/-- A record recovered at the start is given a slot at once, with a claim of its own (R157, R158). -/
theorem Covers.recovered (c : l.Covers early nj 0) (late : ¬ early) (room : l.Room nj) :
    (Ledger.assigned { l with claims := l.claims + 1 } nj op).Covers early nj 0 := by
  have fits := c.fits
  have claims := c.claims
  have bit := bitCode_le_one op.isIssueAppend
  obtain ⟨slot, serial⟩ := room
  have claimed : Covers early nj { l with claims := l.claims + 1 } 0 :=
    { c with claims := Nat.le_succ_of_le claims }
  refine claimed.assigned late ⟨slot, serial⟩ ?_ ?_ ?_
  all_goals
    simp only [issues] at claims ⊢
    omega

/-- A record recovered at the start is held with its claim where it can be given no slot (R158). -/
theorem Covers.recovery_held (c : l.Covers early nj 0) (late : ¬ early) (none : l.pending ≠ 0 ∨ ¬ l.Room nj) :
    Covers early nj { l with claims := l.claims + 1, pending := l.pending + 1 } 0 := by
  have full := c.full
  have claims := c.claims
  have fits := c.fits
  refine { c with clean := fun o => absurd o late, claims := ?_, full := fun _ => ⟨rfl, ?_⟩ }
  · simp only [issues] at claims ⊢
    omega
  · simp only [Room] at none ⊢
    omega

/-- An ISSUE append ends with its claim (R147). -/
theorem Covers.appended {rest : List MemOp} (c : l.Covers early nj w) (first : l.appends = op :: rest)
    (issue : op.isIssueAppend = true) : Covers early nj { l with claims := l.claims - 1, appends := rest } w :=
  { c with
    claims := by
      have claims := c.claims
      simp only [issues, first, List.countP_cons, issue, if_true] at claims ⊢
      omega }

/-- An append that holds no claim ends. -/
theorem Covers.appended_without_claim {rest : List MemOp} (c : l.Covers early nj w) (first : l.appends = op :: rest) :
    Covers early nj { l with appends := rest } w :=
  { c with
    claims := by
      have claims := c.claims
      simp only [issues, first, List.countP_cons] at claims ⊢
      omega }

end Ledger

end Sys2Proof.Machine

/-! The claims of R147: what the operations of the journal unit leave of its ledger. -/

namespace Sys2Proof.Machine

set_option Elab.async false

section
variable {s : State}

/-! ### The request queue (R150) -/

theorem ledger_eq_of_appends {j k : Journal}
    (appends : k.operations.filter MemOp.isAppend = j.operations.filter MemOp.isAppend)
    (sent : k.sent = j.sent := by rfl) (unsent : k.unsent = j.unsent := by rfl)
    (serial : k.nextSerial = j.nextSerial := by rfl) (claims : k.claims = j.claims := by rfl)
    (pending : k.pendingRecoveries = j.pendingRecoveries := by rfl) : k.ledger = j.ledger := by
  simp [Journal.ledger, appends, sent, unsent, serial, claims, pending]

/-- Serving an operation moves it from the queue into service; a plan write that follows it is no append. -/
theorem serveNext_ledger (s : State) : s.serveNext.journal.ledger = s.journal.ledger := by
  unfold State.serveNext
  dsimp only
  split
  case h_2 => rfl
  rename_i op rest idle queue
  split
  all_goals
    refine ledger_eq_of_appends ?_
    cases op <;> simp [Journal.operations, idle, queue, MemOp.isAppend, List.filter_cons]

theorem pushOp_ledger (s : State) (op : MemOp) : (s.pushOp op).journal.ledger =
    { s.journal.ledger with appends := s.journal.ledger.appends ++ [op].filter MemOp.isAppend } := by
  unfold State.pushOp
  rw [serveNext_ledger]
  simp [Journal.ledger, Journal.operations]

theorem pushOp_ledger_of_other {op : MemOp} (other : op.isAppend = false := by rfl) :
    (s.pushOp op).journal.ledger = s.journal.ledger := by
  simp [pushOp_ledger, other]

/-- Rewrites that replace one another in the queue are no appends. -/
theorem replaced_ledger {f : MemOp → MemOp} (kept : ∀ op, (f op).isAppend = op.isAppend)
    (same : ∀ op, op.isAppend = true → f op = op) :
    (s.setJournal { s.journal with queue := s.journal.queue.map f }).journal.ledger = s.journal.ledger := by
  refine ledger_eq_of_appends ?_
  have mapped (ops : List MemOp) : (ops.map f).filter MemOp.isAppend = ops.filter MemOp.isAppend := by
    induction ops with
    | nil => rfl
    | cons op ops ih =>
      cases e : op.isAppend <;> simp [kept, e, ih, same]
  simp [Journal.operations, mapped]

theorem not_append_of_progress {op : MemOp} {h : Side} (e : op.isProgressOf h = true) : op.isAppend = false := by
  cases op with
  | progress _ _ => rfl
  | _ => cases e

theorem requestProgress_ledger (s : State) (h : Side) (img : IssueRecord) :
    (s.requestProgress h img).journal.ledger = s.journal.ledger := by
  unfold State.requestProgress
  dsimp only
  split
  · refine replaced_ledger (fun op => ?_) fun op append => if_neg ?_
    · split
      · exact (not_append_of_progress ‹_›).symm
      · rfl
    · intro progress
      rw [not_append_of_progress progress] at append
      cases append
  · split
    · rfl
    · exact pushOp_ledger_of_other

theorem requestFinal_ledger (s : State) (h : Side) (img : IssueRecord) :
    (s.requestFinal h img).journal.ledger = s.journal.ledger := by
  unfold State.requestFinal
  dsimp only
  split
  · refine replaced_ledger (fun op => ?_) fun op append => if_neg ?_
    · split
      · exact (not_append_of_progress ‹_›).symm
      · rfl
    · intro progress
      rw [not_append_of_progress progress] at append
      cases append
  · exact pushOp_ledger_of_other

theorem requestHeader_ledger (s : State) : s.requestHeader.journal.ledger = s.journal.ledger := by
  unfold State.requestHeader
  split
  · rfl
  · exact pushOp_ledger_of_other

theorem requestPlan_ledger (s : State) (c : Nat) (r : ClassRecord) :
    (s.requestPlan c r).journal.ledger = s.journal.ledger := by
  unfold State.requestPlan
  split
  · rfl
  · exact pushOp_ledger_of_other

theorem requestSendRead_ledger (s : State) : s.requestSendRead.journal.ledger = s.journal.ledger := by
  unfold State.requestSendRead
  dsimp only
  split
  · exact pushOp_ledger_of_other
  · rfl

theorem takeSequence_ledger (s : State) : s.takeSequence.journal.ledger = s.journal.ledger := by
  have advanced : s.journal.advanceSeq.ledger = s.journal.ledger := by
    unfold Journal.advanceSeq
    split <;> rfl
  unfold State.takeSequence
  dsimp only
  split
  · exact (requestHeader_ledger _).trans advanced
  · exact advanced

/-! ### The operation in service -/

theorem afterService_ledger (s : State) : s.afterService.journal.ledger =
    { s.journal.ledger with appends := s.journal.queue.filter MemOp.isAppend } := by
  unfold State.afterService
  rw [requestSendRead_ledger, serveNext_ledger]
  rfl

theorem afterService_ledger_of_other {op : MemOp} (served : s.journal.inService = some op)
    (other : op.isAppend = false := by rfl) : s.afterService.journal.ledger = s.journal.ledger := by
  rw [afterService_ledger]
  simp [Journal.ledger, Journal.operations, served, other]

/-- An append in service is the first of those passed. -/
theorem ledger_appends_of_served {src : AppendSource} {pos serial : Nat} {r : Record}
    (served : s.journal.inService = some (.append src pos serial r)) : s.journal.ledger.appends =
      .append src pos serial r :: s.journal.queue.filter MemOp.isAppend := by
  simp only [Journal.ledger, Journal.operations, served]
  exact List.filter_cons_of_pos rfl

/-! ### Slots and claims (R147, R148) -/

theorem canAssign_iff (j : Journal) (nj : Nat) : j.canAssign nj = true ↔ j.ledger.Room nj :=
  Bool.and_eq_true_iff.trans (and_congr decide_eq_true_iff decide_eq_true_iff)

theorem claimAvailable_iff (j : Journal) (nj : Nat) : j.claimAvailable nj = true ↔ j.ledger.ClaimFree nj :=
  Bool.and_eq_true_iff.trans (and_congr decide_eq_true_iff decide_eq_true_iff)

/-- An append is passed with its slot; the FINAL rewrite that a hose's append removes is no append. -/
theorem passAppend_ledger (src : AppendSource) (r : Record) (room : s.journal.ledger.Room s.cfg.nj) :
    (s.passAppend src r).journal.ledger = s.journal.ledger.assigned s.cfg.nj
      (.append src (s.journal.head s.cfg.nj) s.journal.nextSerial r) := by
  have finals (h : Side) (ops : List MemOp) :
      (ops.filter fun op => !op.isFinalOf h).filter MemOp.isAppend = ops.filter MemOp.isAppend := by
    rw [List.filter_filter]
    congr 1
    funext op
    cases op <;> rfl
  unfold State.passAppend
  dsimp only
  rw [if_pos ((canAssign_iff _ _).2 room), pushOp_ledger, assign_eq]
  simp only [Journal.ledger, Journal.operations, Ledger.assigned, List.filter_append, State.setJournal_journal]
  congr 1
  split
  · rw [finals]
    rfl
  · rfl

/-- The oldest pending recovery is given a slot, or there is none for it (R158). -/
theorem giveRecovery_ledger (s : State) :
    (s.giveRecovery = s ∧ (s.journal.ledger.pending = 0 ∨ ¬ s.journal.ledger.Room s.cfg.nj)) ∨
    (s.journal.ledger.pending ≠ 0 ∧ s.journal.ledger.Room s.cfg.nj ∧ ∃ pos serial r,
      s.giveRecovery.journal.ledger =
        Ledger.assigned { s.journal.ledger with pending := s.journal.ledger.pending - 1 } s.cfg.nj
          (.append .scan pos serial r)) := by
  unfold State.giveRecovery
  split
  case h_1 none => exact .inl ⟨rfl, .inl (by simp [Journal.ledger, none])⟩
  rename_i r rest some
  by_cases room : s.journal.ledger.Room s.cfg.nj
  · rw [if_pos ((canAssign_iff _ _).2 room)]
    refine .inr ⟨by simp [Journal.ledger, some], room, ?_⟩
    have passed := passAppend_ledger (s := s.setJournal { s.journal with pendingRecoveries := rest })
      .scan (.issue r) room
    refine ⟨s.journal.head s.cfg.nj, s.journal.nextSerial, .issue r, passed.trans (congrArg (Ledger.assigned · _ _) ?_)⟩
    simp [Journal.ledger, Journal.operations, some]
  · rw [if_neg fun assigns => room ((canAssign_iff _ _).1 assigns)]
    exact .inl ⟨rfl, .inr room⟩

end

end Sys2Proof.Machine

/-! The claims of R147: the conditions of `State.claimsOk` in a form that operations keep one after the other. -/

namespace Sys2Proof.Machine

set_option Elab.async false

section
variable {s t u : State} {h : Side}

/-! ### The conditions and what they depend on -/

theorem isAppend_of_isIssueAppend {op : MemOp} (e : op.isIssueAppend = true) : op.isAppend = true := by
  cases op with
  | append _ _ _ _ => rfl
  | _ => cases e

/-- Only appends count among the operations that a test of appends picks. -/
theorem length_filter_operations {p : MemOp → Bool} (only : ∀ op, p op = true → op.isAppend = true) (j : Journal) :
    (j.operations.filter p).length = j.ledger.appends.countP p := by
  rw [← List.countP_eq_length_filter, Journal.ledger, List.countP_filter]
  refine List.countP_congr fun op _ => ?_
  simp only [Bool.and_eq_true]
  exact ⟨fun e => ⟨e, only op e⟩, And.left⟩

theorem length_hoseAppends (j : Journal) (h : Side) :
    (j.operations.filter (MemOp.isHoseAppend h)).length = j.ledger.appended h :=
  length_filter_operations (fun _ e => isAppend_of_isIssueAppend (isIssueAppend_of_isHoseAppend e)) j

theorem length_issueAppends (j : Journal) : (j.operations.filter MemOp.isIssueAppend).length = j.ledger.issues :=
  length_filter_operations (fun _ => isAppend_of_isIssueAppend) j

theorem image_eq_some {x : Hose} {k : Side} : x.imageHose = some k ↔
    ∃ d img, x.delivery = some d ∧ d.finalImage = some img ∧ img.hose = k := by
  simp [Hose.imageHose, Option.bind_eq_some_iff]

theorem cycleOk_iff (s : State) (h : Side) :
    s.cycleOk h ↔ (s.cycleView h).Sound h (s.journal.ledger.appended h) := by
  unfold State.cycleOk
  rw [length_hoseAppends]
  constructor
  · rintro ⟨placed, before, passed, writing, image⟩
    refine ⟨placed, before, passed, writing, fun k e => ?_⟩
    obtain ⟨d, img, hd, final, rfl⟩ := image_eq_some.1 e
    exact image d img hd final
  · rintro ⟨placed, before, passed, writing, image⟩
    exact ⟨placed, before, passed, writing, fun d img hd final => image _ (image_eq_some.2 ⟨d, img, hd, final, rfl⟩)⟩

/-- The claim of the hose's delivery that waits for a slot, as a count (R147). -/
def State.waits (s : State) (h : Side) : Nat := (s.cycleView h).waits (s.journal.ledger.appended h)

theorem bitCode_claimWaits (s : State) (h : Side) : bitCode (s.claimWaits h) = s.waits h := by
  unfold State.claimWaits State.waits CycleView.waits
  rw [← length_hoseAppends, ← List.countP_eq_length_filter]
  congr 2
  rw [Bool.eq_iff_iff]
  simp [List.countP_eq_zero]

theorem claimsWaiting_eq (s : State) : s.claimsWaiting = s.waits .one + s.waits .two := by
  rw [← bitCode_claimWaits, ← bitCode_claimWaits]
  rfl

/-- The start stages before the journal is scanned: the ring is then empty (R173, R178). -/
def State.early (s : State) : Prop := s.start.stage = .hold ∨ s.start.stage = .config

/-- The conditions of `State.claimsOk`, with R7 for the stages before the scan. -/
structure State.Covered (s : State) : Prop where
  sound : ∀ h, (s.cycleView h).Sound h (s.journal.ledger.appended h)
  still : s.early → ∀ h, (s.hose h).state = .start
  ledger : s.journal.ledger.Covers s.early s.cfg.nj (s.waits .one + s.waits .two)

theorem reclaimable_eq {j : Journal} {nj : Nat} (fits : j.sent + j.unsent ≤ nj) : j.reclaimable nj = nj - j.unsent := by
  unfold Journal.reclaimable Journal.free
  omega

theorem State.Covered.claimsOk (c : s.Covered) : s.claimsOk := by
  obtain ⟨sound, -, fits, clean, claims, slots, serials, full⟩ := c
  have slot := reclaimable_eq fits
  simp only [Journal.ledger] at fits clean slots serials full
  refine ⟨fun h => (cycleOk_iff s h).2 (sound h), fits, fun e => ?_, ?_, ?_, ?_, fun some => ?_⟩
  · obtain ⟨sent, unsent, pending⟩ := clean e
    exact ⟨sent, unsent, List.length_eq_zero_iff.1 pending⟩
  · rw [claimsWaiting_eq, length_issueAppends]
    exact claims
  · rw [claimsWaiting_eq, slot]
    omega
  · rw [claimsWaiting_eq]
    exact serials
  · obtain ⟨waiting, full⟩ := full (List.length_eq_zero_iff.not.2 some)
    rw [claimsWaiting_eq, slot, Journal.serialsLeft]
    omega

theorem State.claimsOk.covered (c : s.claimsOk) (still : s.early → ∀ h, (s.hose h).state = .start) : s.Covered := by
  obtain ⟨sound, fits, clean, claims, slots, serials, full⟩ := c
  have slot := reclaimable_eq fits
  rw [claimsWaiting_eq] at claims slots serials full
  rw [length_issueAppends] at claims
  rw [slot] at slots full
  refine ⟨fun h => (cycleOk_iff s h).1 (sound h), still, fits, fun e => ?_, claims, ?_, serials, fun some => ?_⟩
  · obtain ⟨sent, unsent, pending⟩ := clean e
    exact ⟨sent, unsent, List.length_eq_zero_iff.2 pending⟩
  · simp only [Journal.ledger]
    omega
  · obtain ⟨waiting, full⟩ := full (List.length_eq_zero_iff.not.1 some)
    rw [Journal.serialsLeft] at full
    refine ⟨waiting, ?_⟩
    simp only [Journal.ledger]
    omega

/-! ### Changes that keep them -/

/-- The conditions, if they hold before, hold after. -/
def ClaimsKept (s t : State) : Prop := s.Covered → t.Covered

theorem ClaimsKept.refl (s : State) : ClaimsKept s s := id

theorem ClaimsKept.trans (a : ClaimsKept s t) (b : ClaimsKept t u) : ClaimsKept s u := b ∘ a

/-- A change at one hose and in the journal unit. -/
theorem State.Covered.turn (c : s.Covered) (stage : t.start.stage = s.start.stage) (cfg : t.cfg = s.cfg)
    (view : t.cycleView h.other = s.cycleView h.other)
    (appended : t.journal.ledger.appended h.other = s.journal.ledger.appended h.other)
    (sound : (t.cycleView h).Sound h (t.journal.ledger.appended h)) (still : s.early → (t.hose h).state = .start)
    (covers : ∀ n, s.journal.ledger.Covers s.early s.cfg.nj (s.waits h + n) →
      t.journal.ledger.Covers s.early s.cfg.nj (t.waits h + n)) : t.Covered := by
  have early : t.early = s.early := by simp [State.early, stage]
  have other : t.waits h.other = s.waits h.other := by simp [State.waits, view, appended]
  have ledger := covers (s.waits h.other) (by cases h <;> simpa [Side.other, Nat.add_comm] using c.ledger)
  refine ⟨fun k => ?_, fun e k => ?_, ?_⟩
  · obtain rfl | rfl := h.eq_or_other k
    · exact sound
    · rw [view, appended]
      exact c.sound _
  · rw [early] at e
    obtain rfl | rfl := h.eq_or_other k
    · exact still e
    · exact (congrArg CycleView.state view).trans (c.still e _)
  · rw [early, cfg]
    rw [← other] at ledger
    cases h <;> simpa [Side.other, Nat.add_comm] using ledger

theorem ClaimsKept.of_same (stage : t.start.stage = s.start.stage) (cfg : t.cfg = s.cfg)
    (view : ∀ k, t.cycleView k = s.cycleView k) (ledger : t.journal.ledger = s.journal.ledger) : ClaimsKept s t :=
  fun c => c.turn (h := .one) stage cfg (view _) (by rw [ledger]) (by rw [view, ledger]; exact c.sound _)
    (fun e => (congrArg CycleView.state (view .one)).trans (c.still e _))
    (fun n => by rw [State.waits, State.waits, view, ledger]; exact id)

theorem Only.cycleView_eq {bs : List Block} (e : Only bs s t) (k : Side) (m1 : Block.hoses ∉ bs := by decide)
    (m2 : Block.tags ∉ bs := by decide) : t.cycleView k = s.cycleView k := by
  simp only [State.cycleView, e.hose_eq k m1, e.tag_eq k m2]

/-- An operation that leaves START's stages, the configuration, the hoses, the tag units and the journal unit. -/
theorem Only.claimsKept {bs : List Block} (e : Only bs s t) (m1 : Block.start ∉ bs := by decide)
    (m2 : Block.cfg ∉ bs := by decide) (m3 : Block.hoses ∉ bs := by decide) (m4 : Block.tags ∉ bs := by decide)
    (m5 : Block.journal ∉ bs := by decide) : ClaimsKept s t :=
  .of_same (by rw [e.start_eq m1]) (e.cfg_eq m2) (fun k => e.cycleView_eq k m3 m4) (by rw [e.journal_eq m5])

/-- An operation of the journal unit that keeps its ledger. -/
theorem Only.claimsKept_of_ledger {bs : List Block} (e : Only bs s t)
    (ledger : t.journal.ledger = s.journal.ledger) (m1 : Block.start ∉ bs := by decide)
    (m2 : Block.cfg ∉ bs := by decide) (m3 : Block.hoses ∉ bs := by decide) (m4 : Block.tags ∉ bs := by decide) :
    ClaimsKept s t :=
  .of_same (by rw [e.start_eq m1]) (e.cfg_eq m2) (fun k => e.cycleView_eq k m3 m4) ledger

/-! ### A hose, a tag unit -/

@[simp] theorem cycleView_setHose_self (s : State) (h : Side) (x : Hose) : (s.setHose h x).cycleView h =
    { s.cycleView h with state := x.state, delivered := x.delivery.isSome, image := x.imageHose } := by
  simp [State.cycleView]

@[simp] theorem cycleView_setHose_other (s : State) (h : Side) (x : Hose) :
    (s.setHose h x).cycleView h.other = s.cycleView h.other := by simp [State.cycleView]

@[simp] theorem cycleView_setTag_self (s : State) (h : Side) (u : TagUnit) :
    (s.setTag h u).cycleView h = { s.cycleView h with writes := u.writes } := by simp [State.cycleView]

@[simp] theorem cycleView_setTag_other (s : State) (h : Side) (u : TagUnit) :
    (s.setTag h u).cycleView h.other = s.cycleView h.other := by simp [State.cycleView]

/-- A hose changed, with a delivery record as before or with none as before. -/
theorem setHose_claimsKept {x : Hose} (delivered : x.delivery.isSome = (s.hose h).delivery.isSome)
    (moves : ∀ n, (s.cycleView h).Sound h n →
      CycleView.Sound { s.cycleView h with state := x.state, image := x.imageHose } h n)
    (leaves : s.early → (s.hose h).state = .start → x.state = .start) : ClaimsKept s (s.setHose h x) := fun c => by
  have view : (s.setHose h x).cycleView h = { s.cycleView h with state := x.state, image := x.imageHose } := by
    rw [cycleView_setHose_self, delivered]
    rfl
  refine c.turn (h := h) rfl rfl (by simp) rfl ?_ (fun e => ?_) fun n => ?_
  · rw [view]
    exact moves _ (c.sound h)
  · rw [State.setHose_hose_self]
    exact leaves e (c.still e h)
  · rw [State.waits, State.waits, view]
    exact id

/-- A hose that keeps its delivery record and takes another state. -/
theorem setHose_claimsKept_of_state {x : Hose} (delivery : x.delivery = (s.hose h).delivery)
    (moves : ∀ n, (s.cycleView h).Sound h n → CycleView.Sound { s.cycleView h with state := x.state } h n)
    (leaves : (s.hose h).state ≠ .start) : ClaimsKept s (s.setHose h x) :=
  setHose_claimsKept (by rw [delivery]) (by rw [Hose.imageHose, delivery]; exact moves) fun _ e => absurd e leaves

theorem setHose_claimsKept_of_same {x : Hose} (state : x.state = (s.hose h).state := by rfl)
    (delivered : x.delivery.isSome = (s.hose h).delivery.isSome := by rfl)
    (image : x.imageHose = (s.hose h).imageHose := by rfl) : ClaimsKept s (s.setHose h x) :=
  setHose_claimsKept delivered (fun _ c => by rw [state, image]; exact c) fun _ => state.trans

/-- A hose that holds no delivery record goes from one state to another. -/
theorem setHose_claimsKept_of_resting {x : Hose} (before : (s.hose h).state.resting = true)
    (leaves : (s.hose h).state ≠ .start) (after : x.state.resting = true)
    (delivery : x.delivery = (s.hose h).delivery := by rfl) : ClaimsKept s (s.setHose h x) :=
  setHose_claimsKept_of_state delivery (fun _ c => c.rest (c.not_delivered before) after) leaves

/-- A live delivery goes from one state to another. -/
theorem setHose_claimsKept_of_live {x : Hose} (before : (s.hose h).state.live = true) (after : x.state.live = true)
    (delivered : x.delivery.isSome = (s.hose h).delivery.isSome := by rfl)
    (image : x.imageHose = (s.hose h).imageHose := by rfl) : ClaimsKept s (s.setHose h x) :=
  setHose_claimsKept delivered (fun _ c => c.from_live before (.inl after) (by rw [image]; exact c.image))
    fun _ e => by simp [e, HoseState.live] at before

/-- A tag unit changed, with no write-back more than before. -/
theorem setTag_claimsKept {u : TagUnit} (fewer : u.writes ≤ (s.tag h).writes) : ClaimsKept s (s.setTag h u) := fun c =>
  c.turn (h := h) rfl rfl (by simp) rfl
    (by rw [cycleView_setTag_self]; exact (c.sound h).fewer_writes fewer)
    (fun e => c.still e h) fun n => by rw [State.waits, State.waits, cycleView_setTag_self]; exact id

theorem setTag_claimsKept_of_eq {u : TagUnit} (same : u.writes = (s.tag h).writes := by rfl) :
    ClaimsKept s (s.setTag h u) := setTag_claimsKept same.le

end

end Sys2Proof.Machine

/-! The claims of R147: tag units, and the operations of the journal unit. -/

namespace Sys2Proof.Machine

set_option Elab.async false

/-! ### The write-backs of a unit (R52 to R54, R63) -/

section
variable {u : TagUnit} {now : Nat}

theorem writingBack_of_not_inFlight (e : u.state ≠ .inFlight) : u.writingBack = false := by
  simp [TagUnit.writingBack, e]

/-- A request that a unit begins is in flight in place of whatever was. -/
theorem begin_writes (r : Request) :
    (u.begin now r).writes = bitCode u.waitingWriteBack.isSome + bitCode r.isWriteBack := rfl

/-- A write-back that is served goes from waiting to flight; any other request is no write-back. -/
@[simp] theorem serve_writes (u : TagUnit) (now : Nat) : (u.serve now).writes = u.writes := by
  unfold TagUnit.serve
  split
  case isFalse => rfl
  rename_i ready
  have idle : u.writingBack = false := writingBack_of_not_inFlight (by simp [ready.1])
  split
  · rename_i waiting
    rw [begin_writes]
    simp [TagUnit.writes, waiting, idle, bitCode, Request.isWriteBack]
  · rw [begin_writes]
    simp [TagUnit.writes, idle, Request.isWriteBack]
  · rw [begin_writes]
    simp [TagUnit.writes, idle, Request.isWriteBack]
  · split
    · rw [begin_writes]
      simp [TagUnit.writes, idle, Request.isWriteBack]
    · rfl

theorem toReady_writes (u : TagUnit) : u.toReady.writes = bitCode u.waitingWriteBack.isSome := rfl

theorem toReady_writes_le (u : TagUnit) : u.toReady.writes ≤ u.writes := Nat.le_add_right _ _

theorem abandon_writes_le (u : TagUnit) : u.abandon.writes ≤ u.writes := by
  unfold TagUnit.abandon
  dsimp only
  split
  · exact Nat.le_add_right _ _
  · exact le_rfl

/-- An exchange that is to make no further attempt is still in flight. -/
theorem stopAttempts_writes (p : Request → Bool) :
    TagUnit.writes { u with current := stopAttempts p u.current } = u.writes := by
  have current : TagUnit.writingBack { u with current := stopAttempts p u.current } = u.writingBack := by
    unfold TagUnit.writingBack
    cases u.current with
    | none => rfl
    | some x =>
      simp only [stopAttempts]
      split <;> rfl
  simp only [TagUnit.writes, current]

theorem deliveryEnd_writes (u : TagUnit) : u.deliveryEnd.writes = u.writes := stopAttempts_writes _

theorem retry_writes {x : Exchange} (e : u.current = some x) : (u.retry now x).writes = u.writes := by
  simp [TagUnit.retry, TagUnit.writes, TagUnit.writingBack, e]

/-- With a write-back in flight none waits, where at most one is at the unit. -/
theorem toReady_writes_of_writeBack {x : Exchange} (inFlight : u.state = .inFlight) (current : u.current = some x)
    (back : x.request.isWriteBack = true) (most : u.writes ≤ 1) : u.toReady.writes = 0 ∧ u.writes = 1 := by
  have writing : u.writingBack = true := by simp [TagUnit.writingBack, inFlight, current, back]
  have writes : u.writes = bitCode u.waitingWriteBack.isSome + 1 := by
    rw [TagUnit.writes, writing]
    rfl
  rw [toReady_writes]
  omega

theorem askWriteBack_writes (none : u.writes = 0) (content : List Byte) : (u.askWriteBack now content).writes = 1 := by
  have idle : bitCode u.writingBack = 0 := by
    unfold TagUnit.writes at none
    omega
  unfold TagUnit.askWriteBack
  rw [serve_writes]
  exact congrArg (1 + ·) idle

end

section
variable {s t : State} {h : Side}

theorem serveTag_claimsKept (s : State) (h : Side) : ClaimsKept s (s.serveTag h) :=
  setTag_claimsKept_of_eq (serve_writes _ _)

theorem askNext_claimsKept (s : State) (h : Side) (k : ReadKind) : ClaimsKept s (s.askNext h k) := by
  unfold State.askNext
  split
  · exact setTag_claimsKept_of_eq (serve_writes _ _)
  · exact serveTag_claimsKept _ _

/-! ### The send mark (R152, R153, R158) -/

/-- A change of the journal unit alone. -/
theorem State.Covered.journal {bs : List Block} (c : s.Covered) (e : Only bs s t)
    (appended : ∀ k, t.journal.ledger.appended k = s.journal.ledger.appended k)
    (covers : ∀ w, s.journal.ledger.Covers s.early s.cfg.nj w → t.journal.ledger.Covers s.early s.cfg.nj w)
    (m1 : Block.start ∉ bs := by decide) (m2 : Block.cfg ∉ bs := by decide) (m3 : Block.hoses ∉ bs := by decide)
    (m4 : Block.tags ∉ bs := by decide) : t.Covered := by
  have view (k : Side) := e.cycleView_eq k m3 m4
  have waits : t.waits .one = s.waits .one := by simp only [State.waits, view, appended]
  refine c.turn (h := .one) (by rw [e.start_eq m1]) (e.cfg_eq m2) (view _) (appended _) ?_ (fun o => ?_) fun n => ?_
  · rw [view, appended]
    exact c.sound _
  · rw [e.hose_eq _ m3]
    exact c.still o _
  · rw [waits]
    exact covers _

theorem setJournal_claimsKept {j : Journal} (ledger : j.ledger = s.journal.ledger) : ClaimsKept s (s.setJournal j) :=
  (setJournal_only s j).claimsKept_of_ledger ledger

/-- The send mark advances, the mark saved or not, and the oldest pending recovery is given the slot where there is
one (R153, R158). -/
theorem advanceMark_claimsKept (s : State) : ClaimsKept s s.advanceMark := fun c => by
  by_cases none : s.journal.unsent = 0
  · rw [State.advanceMark, if_pos none]
    exact c
  obtain ⟨s1, only, ledger, eq⟩ : ∃ s1, Only [.journal, .classes] s s1 ∧
      s1.journal.ledger = s.journal.ledger.advanced ∧ s.advanceMark = s1.giveRecovery := by
    unfold State.advanceMark
    dsimp only
    rw [if_neg none]
    split
    · exact ⟨_, (setJournal_only _ _).next (requestHeader_only _), (requestHeader_ledger _).trans rfl, rfl⟩
    · exact ⟨_, (setJournal_only _ _).mono, rfl, rfl⟩
  have nj : s1.cfg.nj = s.cfg.nj := by rw [only.cfg_eq]
  have given := giveRecovery_ledger s1
  rw [ledger, nj] at given
  obtain ⟨same, full⟩ | ⟨some, room, pos, serial, r, taken⟩ := given
  · rw [eq, same]
    refine c.journal only (fun k => by rw [ledger]; rfl) fun w covers => ?_
    rw [ledger]
    exact covers.advanced none full
  · refine c.journal (advanceMark_only s) (fun k => ?_) fun w covers => ?_
    · rw [eq, taken, Ledger.assigned_appended]
      rfl
    · rw [eq, taken]
      exact covers.advanced_recovered none some room

theorem passOver_claimsKept (s : State) : ClaimsKept s s.passOver := by
  unfold State.passOver
  dsimp only
  split
  · exact (advanceMark_claimsKept s).trans (setJournal_claimsKept rfl)
  · exact .refl _

theorem recordSent_claimsKept (s : State) : ClaimsKept s s.recordSent :=
  (advanceMark_claimsKept s).trans (passOver_claimsKept _)

theorem sendReadDone_claimsKept (s : State) (pos : Nat) (x : Option RingSlot) :
    ClaimsKept s (s.sendReadDone pos x) := by
  have held : ClaimsKept s (s.setJournal { s.journal with loadHold := some pos }).passOver :=
    fun c => passOver_claimsKept _ (setJournal_claimsKept rfl c)
  unfold State.sendReadDone
  dsimp only
  split
  · split
    · exact ((setLine_only _ _).next (bs := [.line, .journal]) (setJournal_only _ _)).claimsKept_of_ledger rfl
    · exact held
  · exact held

theorem requestSendRead_claimsKept (s : State) : ClaimsKept s s.requestSendRead :=
  (requestSendRead_only s).claimsKept_of_ledger (requestSendRead_ledger s)

theorem cleanEnd_claimsKept (s : State) : ClaimsKept s s.cleanEnd := by
  unfold State.cleanEnd
  split
  · exact ClaimsKept.trans (setLine_only _ _).claimsKept (ClaimsKept.trans (recordSent_claimsKept _)
      (ClaimsKept.trans (chooseNext_only _).claimsKept (requestSendRead_claimsKept _)))
  · exact ClaimsKept.trans (beaconSent_only s).claimsKept (chooseNext_only _).claimsKept
  · exact .refl _

theorem afterService_claimsKept {op : MemOp} (served : s.journal.inService = some op)
    (other : op.isAppend = false := by rfl) : ClaimsKept s s.afterService :=
  (afterService_only s).claimsKept_of_ledger (afterService_ledger_of_other served other)

end

end Sys2Proof.Machine

/-! The claims of R147: the delivery cycle. -/

namespace Sys2Proof.Machine

set_option Elab.async false

section
variable {s t : State} {h : Side}

/-- The conditions on the journal unit, seen from one hose. -/
theorem State.Covered.ledger_at (c : s.Covered) (h : Side) :
    s.journal.ledger.Covers s.early s.cfg.nj (s.waits h + s.waits h.other) := by
  cases h <;> simpa [Side.other, Nat.add_comm] using c.ledger

theorem OtherHoseKept.cycleView_eq (e : OtherHoseKept h s t) : t.cycleView h.other = s.cycleView h.other := by
  obtain ⟨hose, -, tag, -⟩ := e
  simp only [State.cycleView, hose, tag]

theorem hoseItem_claimsKept (s : State) (h : Side) : ClaimsKept s (s.hoseItem h) := (hoseItem_only s h).claimsKept

theorem setReservation_claimsKept (s : State) (h : Side) (r : Option Reservation) :
    ClaimsKept s (s.setReservation h r) := (setReservation_only s h r).claimsKept

theorem setMeter_claimsKept (s : State) (h : Side) (m : Meter) : ClaimsKept s (s.setMeter h m) :=
  (setMeter_only s h m).claimsKept

theorem requestProgress_claimsKept (s : State) (h : Side) (img : IssueRecord) :
    ClaimsKept s (s.requestProgress h img) :=
  (requestProgress_only s h img).claimsKept_of_ledger (requestProgress_ledger s h img)

theorem requestFinal_claimsKept (s : State) (h : Side) (img : IssueRecord) : ClaimsKept s (s.requestFinal h img) :=
  (requestFinal_only s h img).claimsKept_of_ledger (requestFinal_ledger s h img)

/-! ### Delivery records and appends (R22, R147, R148) -/

theorem setDelivery_claimsKept {d d' : Delivery} (e : (s.hose h).delivery = some d)
    (image : d'.finalImage = d.finalImage := by rfl) : ClaimsKept s (s.setDelivery h d') :=
  setHose_claimsKept_of_same rfl (by simp [e]) (by simp [Hose.imageHose, e, image])

/-- A hose passes the append of its delivery, whose claim waited for the slot (R22, R148). -/
theorem passAppend_delivery_claimsKept {r : IssueRecord} (own : r.hose = h)
    (delivered : (s.hose h).delivery.isSome = true)
    (state : (s.hose h).state = .recording ∨ (s.hose h).state = .fault)
    (appended : s.journal.ledger.appended h = 0) (writes : (s.tag h).writes = 0) :
    ClaimsKept s (s.passAppend .hose (.issue r)) := fun c => by
  have waits : s.waits h = 1 := by
    rw [State.waits, appended]
    exact CycleView.waits_of_delivered delivered
  have room : s.journal.ledger.Room s.cfg.nj := (waits ▸ c.ledger_at h).room
  have late : ¬ s.early := fun e => by simp [c.still e h] at state
  have only := passAppend_only s .hose (.issue r)
  have ledger := passAppend_ledger .hose (.issue r) room
  have passed : (s.passAppend .hose (.issue r)).journal.ledger.appended h = 1 := by
    rw [ledger, Ledger.assigned_appended, appended]
    simp [MemOp.isHoseAppend, own, bitCode]
  refine c.turn (h := h) (by rw [only.start_eq]) only.cfg_eq (only.cycleView_eq _) ?_ ?_ (fun e => absurd e late)
    fun n covers => ?_
  · rw [ledger, Ledger.assigned_appended]
    simp [MemOp.isHoseAppend, own, bitCode]
  · rw [passed, only.cycleView_eq]
    exact (appended ▸ c.sound h).one_append delivered state writes
  · rw [State.waits, passed, CycleView.waits_of_appended _ (by decide), Nat.zero_add, ledger]
    exact (waits ▸ covers).assigned_of_delivery late

theorem recordDelivery_claimsKept (b : Bool) (state : (s.hose h).state = .recording ∨ (s.hose h).state = .fault)
    (appended : s.journal.ledger.appended h = 0) (writes : (s.tag h).writes = 0) :
    ClaimsKept s (s.recordDelivery h b) := fun c => by
  unfold State.recordDelivery
  split
  · exact c
  rename_i d record
  split
  · exact c
  rename_i img final
  have own : img.hose = h := (c.sound h).image _ (image_eq_some.2 ⟨d, img, record, final, rfl⟩)
  refine passAppend_delivery_claimsKept (h := h) own ?_ ?_ appended ?_ (setDelivery_claimsKept record rfl c)
  · simp [State.setDelivery]
  · simpa [State.setDelivery] using state
  · exact writes

/-! ### Ends (R17, R18) -/

theorem dropDelivery_claimsKept (r : EndReason) (live : (s.hose h).state.live = true) :
    ClaimsKept s (s.dropDelivery h r) := fun c => by
  obtain ⟨delivered, none, writes⟩ := (c.sound h).of_live live
  have only := dropDelivery_only s h r
  have ledger : (s.dropDelivery h r).journal.ledger =
      { s.journal.ledger with claims := s.journal.ledger.claims - 1 } := by
    rw [dropDelivery_journal]
    rfl
  have appended (k : Side) :
      (s.dropDelivery h r).journal.ledger.appended k = s.journal.ledger.appended k := by
    rw [ledger]
    rfl
  obtain ⟨absent, state⟩ : ((s.dropDelivery h r).hose h).delivery = Option.none ∧
      (((s.dropDelivery h r).hose h).state.resting = true ∨ ((s.dropDelivery h r).hose h).state = .fault) := by
    by_cases fault : r = .meterFault
    · subst fault
      rw [dropDelivery_hose_meterFault]
      exact ⟨rfl, .inr rfl⟩
    · rw [dropDelivery_hose s h fault]
      exact ⟨rfl, .inl (resting_rest _)⟩
  have gone : ((s.dropDelivery h r).cycleView h).delivered = false := by simp [State.cycleView, absent]
  have other := dropDelivery_otherKept s h r
  refine c.turn (h := h) (by rw [only.start_eq]) only.cfg_eq ?_ (appended _) ?_ (fun e => ?_) fun n covers => ?_
  · exact other.cycleView_eq
  · rw [appended, none]
    refine CycleView.sound_absent ?_ gone (by simp [State.cycleView, Hose.imageHose, absent]) state
    simpa [State.cycleView] using writes
  · simp [c.still e h, HoseState.live] at live
  · have waits : s.waits h = 1 := by
      rw [State.waits, none]
      exact CycleView.waits_of_delivered delivered
    rw [State.waits, CycleView.waits_of_not_delivered gone, Nat.zero_add, ledger]
    exact (waits ▸ covers).released

theorem withEnded_claimsKept {d : Delivery} (r : EndReason) (record : (s.hose h).delivery = some d) :
    ClaimsKept s (s.withEnded h d r) := fun c =>
  hoseItem_claimsKept _ _ (setHose_claimsKept_of_same rfl (by simp [State.endedHose, record])
    (by simp [Hose.imageHose, State.endedHose, record]) (setTag_claimsKept_of_eq (deliveryEnd_writes _) c))

theorem endDelivery_claimsKept (s : State) (h : Side) (r : EndReason) : ClaimsKept s (s.endDelivery h r) := by
  obtain ⟨-, e⟩ | ⟨d, o, record, ⟨-, e⟩ | ⟨-, -, e⟩⟩ := endDelivery_cases s h r
  · rw [e]
    exact .refl _
  all_goals
    have live : ((s.withEnded h d r).hose h).state.live = true := by
      rw [withEnded_hose_self]
      exact live_of_open o
    rw [e]
    refine (withEnded_claimsKept r record).trans ?_
  · exact setHose_claimsKept_of_live live rfl (by rw [withEnded_hose_self]) (by rw [withEnded_hose_self]; rfl)
  · exact dropDelivery_claimsKept r live

/-! ### Reports and the watch (R84, R97 to R104) -/

theorem setTarget_claimsKept (s : State) (h : Side) (n : Nat) : ClaimsKept s (s.setTarget h n) := by
  unfold State.setTarget
  cases s.reservation h with
  | none =>
    dsimp only
    split
    · exact .refl _
    · exact setDelivery_claimsKept ‹_›
  | some r =>
    dsimp only
    split
    · exact setReservation_claimsKept _ _ _
    · exact (setReservation_claimsKept _ _ _).trans (setDelivery_claimsKept ‹_›)

theorem withDisturbed_claimsKept (s : State) (h : Side) (r : Reservation) : ClaimsKept s (s.withDisturbed h r) := by
  have reserved := setReservation_claimsKept s h (some r)
  unfold State.withDisturbed
  dsimp only
  split
  · exact reserved
  · exact reserved.trans (setDelivery_claimsKept ‹_›)

theorem reevaluate_claimsKept (s : State) (h : Side) (r : Reservation) (n : Nat) :
    ClaimsKept s (s.reevaluate h r n) := by
  unfold State.reevaluate
  split
  case isFalse => exact .refl _
  split
  · exact endDelivery_claimsKept _ _ _
  dsimp only
  split
  · exact .refl _
  · split
    · exact setTarget_claimsKept _ _ _
    · exact (setTarget_claimsKept _ _ _).trans (endDelivery_claimsKept _ _ _)

theorem examine_claimsKept (s : State) (h : Side) (e : FleetEntry) (n : Nat) : ClaimsKept s (s.examine h e n) := by
  obtain ⟨-, eq⟩ | ⟨r, r', -, -, eq | ⟨m, eq⟩⟩ := examine_cases s h e n
  · rw [eq]
    exact .refl _
  · rw [eq]
    exact setReservation_claimsKept _ _ _
  · rw [eq]
    exact (withDisturbed_claimsKept _ _ _).trans (reevaluate_claimsKept _ _ _ _)

theorem reportOther_claimsKept (s : State) (v : Nat) (old : ReportValues) : ClaimsKept s (s.reportOther v old) :=
  reportOther_related ClaimsKept.refl ClaimsKept.trans examine_claimsKept s v old

theorem reportClass_claimsKept (s : State) (c : Nat) : ClaimsKept s (s.reportClass c) := by
  rw [reportClass_eq]
  refine foldSides_related ClaimsKept.refl ClaimsKept.trans (fun s h => ?_) _ _
  unfold State.reportClassAt
  split
  · exact .refl _
  · split
    · exact .refl _
    · split
      · exact examine_claimsKept _ _ _ _
      · exact .refl _

/-! ### Flow (R13 to R15) -/

theorem ownAbsorb_claimsKept (s : State) (h : Side) (d : Delivery) (i : Item) :
    ClaimsKept s (s.ownAbsorb h d i) := by
  have raised (u : State) (n : Nat) : ClaimsKept u (u.raiseAbsorbed h n) := (raiseAbsorbed_only _ _ _).claimsKept
  unfold State.ownAbsorb
  dsimp only
  refine ClaimsKept.trans ?_ (raised _ _)
  split
  · split
    · exact .refl _
    · exact ClaimsKept.trans setHose_claimsKept_of_same (countLate_only _ _).claimsKept
  · split
    · exact .refl _
    · exact ((setEntry_only _ _).trans (countLate_only _ _)).claimsKept

theorem journalStep_claimsKept {d : Delivery} (n : Nat) (record : (s.hose h).delivery = some d) :
    ClaimsKept s (s.journalStep h d n) := fun c =>
  setTag_claimsKept_of_eq (serve_writes _ _) (ownAbsorb_claimsKept _ _ _ _
    (requestProgress_claimsKept _ _ _ (setDelivery_claimsKept record rfl c)))

theorem actOnCompares_claimsKept (s : State) (h : Side) (d : Delivery) (n : Nat) :
    ClaimsKept s (s.actOnCompares h d n) := by
  unfold State.actOnCompares
  dsimp only
  split
  · exact endDelivery_claimsKept _ _ _
  · split
    · rename_i slow
      exact setHose_claimsKept_of_live (by rw [slow.1]; rfl) rfl
    · exact .refl _

theorem flowUpdate_claimsKept (s : State) (h : Side) (rose : Bool) : ClaimsKept s (s.flowUpdate h rose) := by
  obtain ⟨s1, started, cases⟩ := flowUpdate_cases s h rose
  have stall : ClaimsKept s s1 := by
    rw [started]
    split
    · exact setHose_claimsKept_of_same
    · exact .refl _
  obtain ⟨-, eq⟩ | ⟨d, s2, record, stepped, eq⟩ := cases
  · rw [eq]
    exact stall
  · have step : ClaimsKept s1 s2 := by
      rw [stepped]
      split
      · exact journalStep_claimsKept _ record
      · exact .refl _
    rw [eq]
    exact (stall.trans step).trans (actOnCompares_claimsKept _ _ _ _)

theorem startFlow_claimsKept (authorised : (s.hose h).state = .authorised) : ClaimsKept s (s.startFlow h) := by
  refine setHose_claimsKept_of_live (by rw [authorised]; rfl) ?_
  dsimp only
  split <;> rfl

theorem markUncompensated_claimsKept (s : State) (h : Side) : ClaimsKept s (s.markUncompensated h) := by
  unfold State.markUncompensated
  dsimp only
  split
  · exact .refl _
  · split
    · exact setDelivery_claimsKept ‹_›
    · exact .refl _

/-- A hose goes to FAULT with its delivery record, its write-back and its append as they stand (R23). -/
theorem setHose_claimsKept_of_fault {x : Hose} (leaves : (s.hose h).state ≠ .start) (state : x.state = .fault := by rfl)
    (delivery : x.delivery = (s.hose h).delivery := by rfl) : ClaimsKept s (s.setHose h x) :=
  setHose_claimsKept_of_state delivery (fun _ c => by rw [state]; exact c.to_fault) leaves

theorem valveLeak_claimsKept (leaves : (s.hose h).state ≠ .start) : ClaimsKept s (s.valveLeak h) := by
  have cleared := setMeter_claimsKept s h (s.meter h).clear
  unfold State.valveLeak
  dsimp only
  split
  · exact fun c => hoseItem_claimsKept _ _ (setTag_claimsKept (abandon_writes_le _)
      (setHose_claimsKept_of_fault (by exact leaves) rfl rfl (cleared c)))
  · exact fun c => hoseItem_claimsKept _ _ (setHose_claimsKept_of_fault (by exact leaves) rfl rfl (cleared c))

theorem meterUpdate_claimsKept (s : State) (h : Side) (rose : Bool) : ClaimsKept s (s.meterUpdate h rose) := by
  unfold State.meterUpdate
  dsimp only
  refine (markUncompensated_claimsKept s h).trans ?_
  generalize s.markUncompensated h = s1
  split
  · split
    · exact (startFlow_claimsKept ‹_›).trans (flowUpdate_claimsKept _ _ _)
    · exact .refl _
  · exact flowUpdate_claimsKept _ _ _
  · exact flowUpdate_claimsKept _ _ _
  · split
    · rename_i leak
      exact valveLeak_claimsKept fun start => by simp [start, HoseState.watchesLeak] at leak
    · exact .refl _

theorem meterFault_claimsKept (s : State) (h : Side) : ClaimsKept s (s.meterFault h) := by
  unfold State.meterFault
  dsimp only
  split
  · exact endDelivery_claimsKept _ _ _
  · split
    · exact setDelivery_claimsKept ‹_›
    · exact .refl _

theorem reportFaults_claimsKept (s : State) (h : Side) : ClaimsKept s (s.reportFaults h) := by
  unfold State.reportFaults
  dsimp only
  split
  · exact (setMeter_claimsKept _ _ _).trans (meterFault_claimsKept _ _)
  · exact .refl _

theorem recomputeGross_claimsKept (s : State) (h : Side) : ClaimsKept s (s.recomputeGross h) := by
  unfold State.recomputeGross
  dsimp only
  split
  · exact fun c => meterUpdate_claimsKept _ _ _ (setMeter_claimsKept _ _ _ (setMeter_claimsKept _ _ _ c))
  · exact .refl _

theorem takeEdge_claimsKept (s : State) (h : Side) (ch : Channel) (l : Bool) : ClaimsKept s (s.takeEdge h ch l) := by
  have edge := setMeter_claimsKept s h ((s.meter h).edge ch l)
  have counted : ClaimsKept s (if ((s.meter h).edge ch l).faultCount ≠ (s.meter h).faultCount
      then (s.setMeter h ((s.meter h).edge ch l)).reportFaults h else s.setMeter h ((s.meter h).edge ch l)) := by
    split
    · exact edge.trans (reportFaults_claimsKept _ _)
    · exact edge
  unfold State.takeEdge
  dsimp only
  split
  · exact counted.trans (recomputeGross_claimsKept _ _)
  · exact counted

end

end Sys2Proof.Machine

/-! The claims of R147: the settle window's end, the write-back and the append. -/

namespace Sys2Proof.Machine

set_option Elab.async false

section
variable {s t : State} {h : Side}

/-! ### The settle window's end (R20) -/

theorem released_claimsKept {d : Delivery} (record : (s.hose h).delivery = some d) :
    ClaimsKept s (s.released h d) := fun c =>
  setMeter_claimsKept _ _ _ (setReservation_claimsKept _ _ _ (requestFinal_claimsKept _ _ _
    (ownAbsorb_claimsKept _ _ _ _ (setDelivery_claimsKept record rfl c))))

theorem released_hose (s : State) (h : Side) (d : Delivery) :
    (s.released h d).hose h = (s.absorbedFinal h d).hose h := by
  simp [State.released, (requestFinal_only _ _ _).hose_eq]

theorem settled_eq (s : State) (h : Side) (d : Delivery) : ∃ x u,
    x = (s.settledHose h d).showFault (s.settledRecord h d).pendingFault ∧ u = (s.released h d).setHose h x ∧
      (s.settled h d = u ∨ s.settled h d = u.hoseItem h) := by
  refine ⟨_, _, rfl, rfl, ?_⟩
  unfold State.settled
  split
  all_goals
    rename_i fault
    rw [fault]
  · exact .inl rfl
  · exact .inr rfl

theorem showFault_state (x : Hose) (p : Option FaultCause) : (x.showFault p).state = x.state := by cases p <;> rfl

theorem showFault_record (x : Hose) (p : Option FaultCause) : (x.showFault p).delivery = x.delivery := by
  cases p <;> rfl

theorem showFault_tagAbsent (x : Hose) (p : Option FaultCause) : (x.showFault p).tagAbsent = x.tagAbsent := by
  cases p <;> rfl

theorem settledState_absent (p : Option FaultCause) :
    settledState p true = .recording ∨ settledState p true = .fault := by
  unfold settledState
  split
  · exact .inr rfl
  · exact .inl rfl

theorem settledState_present (p : Option FaultCause) :
    settledState p false = .writeback ∨ settledState p false = .fault := by
  unfold settledState
  split
  · exact .inr rfl
  · exact .inl rfl

theorem settled_claimsKept {d : Delivery} (closing : (s.hose h).state = .closing)
    (record : (s.hose h).delivery = some d) : ClaimsKept s (s.settled h d) := by
  obtain ⟨x, u, hx, hu, eq⟩ := settled_eq s h d
  obtain ⟨y, absorbed⟩ := absorbedFinal_hose s h d
  have hose := (released_hose s h d).trans absorbed
  have live : ((s.released h d).hose h).state.live = true := by
    rw [hose, closing]
    rfl
  have delivery : x.delivery = some (s.settledRecord h d) := by rw [hx, showFault_record]; rfl
  have image : x.imageHose = some h := by simp [Hose.imageHose, delivery, State.settledRecord]; rfl
  have state : x.state = .writeback ∨ x.state = .recording ∨ x.state = .fault := by
    rw [hx, showFault_state]
    unfold State.settledHose settledState
    dsimp only
    split
    · exact .inr (.inr rfl)
    · split
      · exact .inr (.inl rfl)
      · exact .inl rfl
  have moved : ClaimsKept s u := by
    rw [hu]
    refine (released_claimsKept record).trans (setHose_claimsKept (by rw [delivery, hose]; rfl)
      (fun _ c => c.from_live live (.inr state) (by simp [image])) fun _ e => ?_)
    simp [e, HoseState.live] at live
  obtain eq | eq := eq
  · rw [eq]
    exact moved
  · rw [eq]
    exact moved.trans (hoseItem_claimsKept _ _)

theorem settled_ledger (s : State) (h : Side) (d : Delivery) :
    (s.settled h d).journal.ledger = s.journal.ledger := by
  have released : (s.released h d).journal.ledger = s.journal.ledger :=
    (requestFinal_ledger _ _ _).trans (by rw [(absorbedFinal_only s h d).journal_eq])
  obtain ⟨x, u, -, rfl, eq | eq⟩ := settled_eq s h d
  · rw [eq]
    exact released
  · rw [eq, hoseItem_journal]
    exact released

theorem settled_tag (s : State) (h : Side) (d : Delivery) : (s.settled h d).tag h = s.tag h := by
  have released : (s.released h d).tag h = s.tag h :=
    ((requestFinal_only _ _ _).tag_eq h).trans ((absorbedFinal_only s h d).tag_eq h)
  obtain ⟨x, u, -, rfl, eq | eq⟩ := settled_eq s h d
  · rw [eq]
    exact released
  · rw [eq, (hoseItem_only _ _).tag_eq]
    exact released

/-- A write-back asked for, where none waits and no append has been passed (R20 step 9). -/
theorem askWriteBack_claimsKept (now : Nat) (content : List Byte) (delivered : (s.hose h).delivery.isSome = true)
    (state : (s.hose h).state = .writeback ∨ (s.hose h).state = .fault)
    (appended : s.journal.ledger.appended h = 0) (writes : (s.tag h).writes = 0) :
    ClaimsKept s (s.setTag h ((s.tag h).askWriteBack now content)) := fun c => by
  refine c.turn (h := h) rfl rfl (by simp) rfl ?_ (fun e => c.still e h) fun n => ?_
  · rw [cycleView_setTag_self, askWriteBack_writes writes]
    have sound := c.sound h
    rw [appended] at sound
    exact appended.symm ▸ sound.one_write delivered state
  · rw [State.waits, State.waits, cycleView_setTag_self]
    exact id

theorem settleEnd_claimsKept {d : Delivery} (closing : (s.hose h).state = .closing)
    (record : (s.hose h).delivery = some d) : ClaimsKept s (s.settleEnd h d) := fun c => by
  obtain ⟨-, appended, writes⟩ := (c.sound h).of_live (by rw [show (s.cycleView h).state = _ from closing]; rfl)
  rw [← settled_ledger s h d] at appended
  rw [show (s.cycleView h).writes = _ from congrArg TagUnit.writes (settled_tag s h d).symm] at writes
  have settled := settled_claimsKept closing record c
  have hose := settled_hose s h d
  have state : ((s.settled h d).hose h).state =
      settledState (s.settledRecord h d).pendingFault ((s.settled h d).hose h).tagAbsent := by
    rw [hose, showFault_state, showFault_tagAbsent]
    rfl
  rw [settleEnd_eq]
  unfold State.afterSettle
  split
  · rename_i absent
    refine recordDelivery_claimsKept _ ?_ appended writes settled
    rw [state, absent]
    exact settledState_absent _
  · rename_i present
    refine askWriteBack_claimsKept _ _ ?_ ?_ appended writes settled
    · rw [hose, showFault_record]
      rfl
    · rw [state, Bool.eq_false_iff.2 present]
      exact settledState_present _

/-! ### The write-back's outcome (R21, R22, R63) -/

theorem writeBackOver_claimsKept (b : Bool) (appended : s.journal.ledger.appended h = 0)
    (writes : (s.tag h).writes = 0) : ClaimsKept s (s.writeBackOver h b) := by
  have forgot : ClaimsKept s (s.setTag h (s.tag h).forget) := setTag_claimsKept_of_eq
  have none : ((s.setTag h (s.tag h).forget).tag h).writes = 0 := by rw [State.setTag_tag_self]; exact writes
  unfold State.writeBackOver
  dsimp only
  split
  · rename_i back
    refine forgot.trans (fun c => recordDelivery_claimsKept _ (.inl (by simp)) appended none
      (setHose_claimsKept_of_state rfl (fun n sound => ?_) ?_ c))
    · have zero := (sound.before (.inr back)).2
      exact sound.to_recording none zero
    · exact fun start => by cases back.symm.trans start
  · split
    · exact forgot.trans (recordDelivery_claimsKept _ (.inr ‹_›) appended none)
    · exact forgot

/-- A write-back in flight has ended: it was the only one, and no append had been passed. -/
theorem writeBackEnds_claimsKept {x : Exchange} (b : Bool) (inFlight : (s.tag h).state = .inFlight)
    (current : (s.tag h).current = some x) (back : x.request.isWriteBack = true) :
    ClaimsKept s (((s.setTag h (s.tag h).toReady).serveTag h).writeBackOver h b) := fun c => by
  have most : (s.tag h).writes ≤ 1 := by
    have writing : 1 ≤ (s.tag h).writes → _ := (c.sound h).writing
    by_cases one : 1 ≤ (s.tag h).writes
    · exact (writing one).2.2.le
    · omega
  obtain ⟨ended, one⟩ := toReady_writes_of_writeBack inFlight current back most
  have appended : s.journal.ledger.appended h = 0 := (c.sound h).of_writing one.ge
  refine writeBackOver_claimsKept b appended ?_ (serveTag_claimsKept _ _ (setTag_claimsKept (toReady_writes_le _) c))
  simp [State.serveTag, ended]

theorem hangInWriteBack_claimsKept (s : State) (h : Side) : ClaimsKept s (s.hangInWriteBack h) := by
  unfold State.hangInWriteBack
  dsimp only
  split
  · intro c
    rename_i waiting
    have writes : (s.tag h).writes = 1 + bitCode (s.tag h).writingBack := by rw [TagUnit.writes, waiting]; rfl
    have some : 1 ≤ (s.cycleView h).writes := writes.ge.trans' (Nat.le_add_right _ _)
    have one : (s.tag h).writes = 1 := ((c.sound h).writing some).2.2
    have idle : bitCode (s.tag h).writingBack = 0 := by omega
    refine writeBackOver_claimsKept _ ((c.sound h).of_writing one.ge) ?_
      (setTag_claimsKept (Nat.add_le_add (Nat.zero_le _) le_rfl) c)
    rw [State.setTag_tag_self]
    exact (Nat.zero_add _).trans idle
  · exact setTag_claimsKept_of_eq (stopAttempts_writes _)

end

end Sys2Proof.Machine

/-! The claims of R147: the hook, identification and the tag readers. -/

namespace Sys2Proof.Machine

set_option Elab.async false

section
variable {s t : State} {h : Side}

/-! ### The hook and the keys (R6, R8, R9, R24) -/

theorem startCycle_claimsKept (idle : (s.hose h).state = .idle) : ClaimsKept s (s.startCycle h) := fun c =>
  setTag_claimsKept_of_eq (serve_writes _ _)
    (setHose_claimsKept_of_resting (by rw [idle]; rfl) (by simp [idle]) rfl rfl c)

theorem leaveIdentifying_claimsKept {st : HoseState} (identifying : (s.hose h).state = .identifying)
    (rests : st.resting = true) : ClaimsKept s (s.leaveIdentifying h st) := fun c =>
  setTag_claimsKept (abandon_writes_le _)
    (setHose_claimsKept_of_resting (by rw [identifying]; rfl) (by simp [identifying]) rests rfl c)

theorem refuse_claimsKept (r : RefusalReason) (identifying : (s.hose h).state = .identifying) :
    ClaimsKept s (s.refuse h r) := fun c =>
  hoseItem_claimsKept _ _ (setHose_claimsKept_of_resting (by rw [identifying]; rfl) (by simp [identifying]) rfl rfl c)

theorem hang_claimsKept (s : State) (h : Side) : ClaimsKept s (s.hang h) := by
  unfold State.hang
  dsimp only
  split
  case h_1 e | h_2 e => exact setHose_claimsKept_of_resting (by rw [e]; rfl) (by simp [e]) rfl
  case h_3 e => exact leaveIdentifying_claimsKept e rfl
  case h_4 | h_5 | h_6 => exact endDelivery_claimsKept _ _ _
  case h_7 => exact setHose_claimsKept_of_same
  case h_8 => exact fun c => hangInWriteBack_claimsKept _ _ (setHose_claimsKept_of_same rfl rfl rfl c)
  case h_9 =>
    split
    · exact hangInWriteBack_claimsKept _ _
    · exact .refl _
  all_goals exact .refl _

theorem clearFault_claimsKept (s : State) (h : Side) : ClaimsKept s (s.clearFault h) := by
  unfold State.clearFault
  dsimp only
  split
  · rename_i absent
    have absent' : ((s.setMeter h (s.meter h).clear).cycleView h).delivered = false := by
      simp [State.cycleView, absent.2]
    exact fun c => hoseItem_claimsKept _ _ (setHose_claimsKept_of_state rfl
      (fun _ sound => sound.rest absent' (resting_rest _)) (by simp [absent.1]) (setMeter_claimsKept _ _ _ c))
  · exact .refl _

/-! ### The grant (R10, R12) -/

/-- The checks pass only where a claim is available (R10 check 6, R147). -/
theorem claimAvailable_of_checkVehicle {c : Candidate} (passes : s.checkVehicle h c = none) :
    s.journal.claimAvailable s.cfg.nj = true := by
  have free : s.journal.claimAvailableFor s.cfg.nj h = true := by
    rw [checkVehicle_eq] at passes
    split_ifs at passes with _ _ _ taken
    exact Bool.not_eq_false _ ▸ taken
  exact (Bool.and_eq_true_iff.1 free).1

theorem grant_claimsKept (k : Candidate) (identifying : (s.hose h).state = .identifying)
    (free : s.journal.ledger.ClaimFree s.cfg.nj) : ClaimsKept s (s.grant h k) := fun c => by
  have resting : (s.cycleView h).state.resting = true := by rw [show (s.cycleView h).state = _ from identifying]; rfl
  have absent := (c.sound h).not_delivered resting
  obtain ⟨appended, writes⟩ := (c.sound h).of_not_delivered absent
  have ledger : (s.grant h k).journal.ledger = { s.journal.ledger with claims := s.journal.ledger.claims + 1 } :=
    (takeSequence_ledger _).trans rfl
  have passed (j : Side) : (s.grant h k).journal.ledger.appended j = s.journal.ledger.appended j := by
    rw [ledger]
    rfl
  have hose : (s.grant h k).hose h = s.grantHose h k := by simp [State.grant]
  have tag : (s.grant h k).tag h = (s.tag h).pollingOn s.elapsed := by simp [State.grant]
  have only := grant_only s h k
  refine c.turn (h := h) (by rw [only.start_eq]) only.cfg_eq (grant_otherKept _ _ _).cycleView_eq (passed _) ?_
    (fun e => ?_) fun n covers => ?_
  · rw [passed, appended]
    refine CycleView.sound_granted ?_ ?_ ?_ ?_
    · simp only [State.cycleView, tag]
      exact writes
    · simp [State.cycleView, hose, State.grantHose]
    · simp [State.cycleView, hose, Hose.imageHose, State.grantHose, State.grantDelivery]
    · simp [State.cycleView, hose, State.grantHose]
  · simp [c.still e h] at identifying
  · rw [State.waits, passed, appended, CycleView.waits_of_delivered (by simp [State.cycleView, hose, State.grantHose]),
      ledger]
    refine Ledger.Covers.claimed ?_ free
    rwa [State.waits, CycleView.waits_of_not_delivered absent, Nat.zero_add] at covers

theorem judge_claimsKept (c : Candidate) (identifying : (s.hose h).state = .identifying) :
    ClaimsKept s (s.judge h c) := by
  cases checks : s.checkVehicle h c with
  | some r =>
    rw [judge_refuses checks]
    exact refuse_claimsKept r identifying
  | none =>
    rw [judge_grants checks]
    exact grant_claimsKept c identifying ((claimAvailable_iff _ _).1 (claimAvailable_of_checkVehicle checks))

/-! ### The end of identification (R8, R10, R76, R78) -/

theorem checked_claimsKept (c : Candidate) (identifying : (s.hose h).state = .identifying) :
    ClaimsKept s (match s.checkStation h with
      | some r => s.refuse h r
      | none => s.judge h c) := by
  split
  · exact refuse_claimsKept _ identifying
  · exact judge_claimsKept c identifying

theorem showService_claimsKept (s : State) (h : Side) (r : ServiceResult) : ClaimsKept s (s.showService h r) :=
  setHose_claimsKept_of_same

theorem showService_state (s : State) (h : Side) (r : ServiceResult) :
    ((s.showService h r).hose h).state = (s.hose h).state := by simp [State.showService]

theorem decideEntry_claimsKept (i : Identity) (n : Option Nat) (identifying : (s.hose h).state = .identifying) :
    ClaimsKept s (s.decideEntry h i n) := by
  unfold State.decideEntry
  split
  · exact .refl _
  · have found (e : FleetEntry) : ClaimsKept s (s.setEntry e) := (setEntry_only _ _).claimsKept
    exact fun c => checked_claimsKept _ ((showService_state _ _ _).trans identifying)
      (showService_claimsKept _ _ _ (found _ c))

theorem decideStandIn_claimsKept (i : Identity) (n : Option Nat) (x : Option Carry)
    (identifying : (s.hose h).state = .identifying) : ClaimsKept s (s.decideStandIn h i n x) := by
  unfold State.decideStandIn
  exact fun c => checked_claimsKept _ ((showService_state _ _ _).trans (by simpa using identifying))
    (showService_claimsKept _ _ _ (setHose_claimsKept_of_same rfl rfl rfl c))

theorem mergeTag_claimsKept {i : Identity} {x : Option Carry} (merged : s.mergeTag h i x = some t) :
    ClaimsKept s t := by
  have pinned (u : State) (v : Nat) : ClaimsKept u (u.pin h v) := setHose_claimsKept_of_same
  unfold State.mergeTag at merged
  split at merged
  · cases merged
    exact fun c => reportOther_claimsKept _ _ _ (pinned _ _
      (((setEntry_only _ _).trans (countLate_only _ _)).claimsKept (by decide) (by decide) (by decide) (by decide)
        (by decide) c))
  · obtain ⟨s1, made, rfl⟩ := Option.map_eq_some_iff.mp merged
    exact (addEntry_only made).claimsKept.trans (pinned _ _)

theorem identified_claimsKept (identifying : (s.hose h).state = .identifying) : ClaimsKept s (s.identified h) := by
  unfold State.identified
  dsimp only
  split
  · exact .refl _
  · split
    · rename_i merged
      refine (mergeTag_claimsKept merged).trans (decideEntry_claimsKept _ _ ?_)
      rw [(mergeTag_kept merged).2 h (by rw [identifying]; rfl)]
      exact identifying
    · split
      · exact decideStandIn_claimsKept _ _ _ identifying
      · unfold State.refuseUnknown
        split
        · exact refuse_claimsKept _ identifying
        · exact refuse_claimsKept _ identifying

/-! ### The readers (R50 to R63) -/

theorem readsOver_claimsKept (s : State) (h : Side) : ClaimsKept s (s.readsOver h) := by
  unfold State.readsOver
  dsimp only
  split
  · exact (serveTag_claimsKept _ _).trans (identified_claimsKept ‹_›)
  · exact serveTag_claimsKept _ _

/-- What an ended exchange leaves of its unit is no write-back in flight. -/
theorem setTag_toReady_claimsKept {u : TagUnit} (ready : u.writes = (s.tag h).toReady.writes := by rfl) :
    ClaimsKept s (s.setTag h u) := setTag_claimsKept (ready ▸ toReady_writes_le _)

section
variable {x : Exchange} (inFlight : (s.tag h).state = .inFlight) (current : (s.tag h).current = some x)
include inFlight current

theorem exchangeDone_claimsKept (ok : Success) : ClaimsKept s (s.exchangeDone h x.request ok) := by
  unfold State.exchangeDone
  dsimp only
  split
  · exact fun c => askNext_claimsKept _ _ _ (setHose_claimsKept_of_same rfl rfl rfl (setTag_toReady_claimsKept rfl c))
  · exact fun c => askNext_claimsKept _ _ _ (setTag_toReady_claimsKept rfl c)
  · exact fun c => readsOver_claimsKept _ _ (setTag_toReady_claimsKept rfl c)
  · exact fun c => serveTag_claimsKept _ _ (setTag_toReady_claimsKept rfl c)
  · split
    · exact writeBackEnds_claimsKept _ inFlight current ‹_›
    · exact fun c => serveTag_claimsKept _ _ (setTag_toReady_claimsKept rfl c)

theorem exchangeGivenUp_claimsKept : ClaimsKept s (s.exchangeGivenUp h x.request) := by
  have ended : ClaimsKept s (s.setTag h (s.tag h).toReady) := setTag_toReady_claimsKept
  unfold State.exchangeGivenUp
  dsimp only
  split
  · exact ended.trans (askNext_claimsKept _ _ _)
  · exact fun c => askNext_claimsKept _ _ _ (setTag_claimsKept_of_eq rfl (ended c))
  · exact fun c => readsOver_claimsKept _ _ (setTag_claimsKept_of_eq rfl (ended c))
  · exact ended.trans (serveTag_claimsKept _ _)
  · rename_i back
    exact writeBackEnds_claimsKept _ inFlight current (by rw [back]; rfl)
  · exact ended.trans (serveTag_claimsKept _ _)

end

theorem pollResult_claimsKept (s : State) (h : Side) (b : Bool) : ClaimsKept s (s.pollResult h b) := by
  unfold State.pollResult
  dsimp only
  split
  · exact fun c => setHose_claimsKept_of_same rfl rfl rfl (setTag_claimsKept_of_eq rfl c)
  · exact .refl _

/-- A poll result leaves the exchange in flight as it is. -/
theorem pollResult_exchange (s : State) (h : Side) (b : Bool) :
    ((s.pollResult h b).tag h).state = (s.tag h).state ∧ ((s.pollResult h b).tag h).current = (s.tag h).current := by
  unfold State.pollResult
  dsimp only
  split
  · simp
  · exact ⟨rfl, rfl⟩

theorem attemptEnded_claimsKept {x : Exchange} (a : ReaderAnswer) (inFlight : (s.tag h).state = .inFlight)
    (current : (s.tag h).current = some x) : ClaimsKept s (s.attemptEnded h x a) := by
  obtain ⟨sameState, sameCurrent⟩ := pollResult_exchange s h ((s.tag h).answeredBy a)
  have inFlight' := sameState.trans inFlight
  have current' := sameCurrent.trans current
  unfold State.attemptEnded
  dsimp only
  refine (pollResult_claimsKept s h ((s.tag h).answeredBy a)).trans ?_
  split
  · exact exchangeDone_claimsKept inFlight' current' _
  · split
    · exact setTag_claimsKept_of_eq (retry_writes current')
    · exact exchangeGivenUp_claimsKept inFlight' current'

theorem endAttempt_claimsKept {x : Exchange} (a : ReaderAnswer) (current : (s.tag h).current = some x) :
    ClaimsKept s (s.endAttempt h x a) := by
  unfold State.endAttempt
  split
  · split
    · exact attemptEnded_claimsKept a ‹_› current
    · exact .refl _
  · split
    · exact fun c => serveTag_claimsKept _ _ (setTag_toReady_claimsKept rfl c)
    · exact .refl _
  · exact .refl _

theorem readerAnswer_claimsKept (s : State) (h : Side) (n : BitVec 8) (a : ReaderAnswer) :
    ClaimsKept s (s.readerAnswer h n a) := by
  unfold State.readerAnswer
  split
  · exact .refl _
  · split
    · exact endAttempt_claimsKept a ‹_›
    · exact .refl _

end

end Sys2Proof.Machine

/-! The claims of R147: records, frames, converter scans and completed appends. -/

namespace Sys2Proof.Machine

set_option Elab.async false

section
variable {s t : State} {h : Side}

/-! ### Records (R77, R81, R82, R116) -/

theorem changeEntry_claimsKept (s : State) (v : Nat) (f : FleetEntry → FleetEntry × Nat) :
    ClaimsKept s (s.changeEntry v f) := by
  unfold State.changeEntry
  split
  · exact .refl _
  · exact ((setEntry_only _ _).trans (countLate_only _ _)).claimsKept.trans (reportOther_claimsKept _ _ _)

theorem countNotApplied_claimsKept (s : State) : ClaimsKept s s.countNotApplied := (countNotApplied_only s).claimsKept

theorem takeIssue_claimsKept (s : State) (o : Nat) (r : IssueRecord) : ClaimsKept s (s.takeIssue o r) := by
  unfold State.takeIssue
  split
  · exact countNotApplied_claimsKept _
  · exact (findOrMake_only ‹_›).claimsKept.trans (changeEntry_claimsKept _ _ _)

theorem takeService_claimsKept (s : State) (o e q : Nat) (r : ServiceRecord) :
    ClaimsKept s (s.takeService o e q r) := by
  unfold State.takeService
  split
  · split
    · exact countNotApplied_claimsKept _
    · exact (findOrMake_only ‹_›).claimsKept.trans (changeEntry_claimsKept _ _ _)
  · exact countNotApplied_claimsKept _

theorem takeVehicleNotice_claimsKept (s : State) (o : Nat) (n : VehicleNotice) :
    ClaimsKept s (s.takeVehicleNotice o n) := by
  unfold State.takeVehicleNotice
  split
  · split
    · exact countNotApplied_claimsKept _
    · exact (findOrMake_only ‹_›).claimsKept.trans (changeEntry_claimsKept _ _ _)
  · exact countNotApplied_claimsKept _

theorem requestPlan_claimsKept (s : State) (c : Nat) (r : ClassRecord) : ClaimsKept s (s.requestPlan c r) :=
  (requestPlan_only s c r).claimsKept_of_ledger (requestPlan_ledger s c r)

theorem takeClassNotice_claimsKept (s : State) (o : Nat) (n : ClassNotice) : ClaimsKept s (s.takeClassNotice o n) := by
  unfold State.takeClassNotice
  split
  · dsimp only
    split
    · exact .refl _
    · refine ClaimsKept.trans ?_ (requestPlan_claimsKept _ _ _)
      split
      · exact (setClasses_only _ _).claimsKept
      · exact (setClasses_only _ _).claimsKept.trans (reportClass_claimsKept _ _)
  · exact countNotApplied_claimsKept _

/-! ### Frames (R123, R131, R135) -/

theorem ifAuthorised_claimsKept (s : State) (o : Nat) {f : State → State} (applied : ClaimsKept s (f s)) :
    ClaimsKept s (s.ifAuthorised o f) := by
  unfold State.ifAuthorised
  split
  · exact applied
  · exact (countUnauthorised_only _).claimsKept

theorem dispatch_claimsKept (s : State) (f : SiteFrame) : ClaimsKept s (s.dispatch f) := by
  unfold State.dispatch
  split
  · exact takeIssue_claimsKept _ _ _
  · exact ifAuthorised_claimsKept _ _ (takeService_claimsKept _ _ _ _ _)
  · exact ifAuthorised_claimsKept _ _ (takeVehicleNotice_claimsKept _ _ _)
  · exact ifAuthorised_claimsKept _ _ (takeClassNotice_claimsKept _ _ _)
  · exact .refl _

theorem setLine_claimsKept (s : State) (l : SiteLine) : ClaimsKept s (s.setLine l) := (setLine_only s l).claimsKept

theorem trySend_claimsKept (s : State) : ClaimsKept s s.trySend := (trySend_only s).claimsKept

theorem takeRecordFrame_claimsKept (s : State) (f : SiteFrame) : ClaimsKept s (s.takeRecordFrame f) := by
  have heard (u : State) : ClaimsKept u (u.heardItem f) := (heardItem_only _ _).claimsKept
  unfold State.takeRecordFrame
  dsimp only
  split
  · exact fun c => trySend_claimsKept _ (setLine_claimsKept _ _ c)
  · exact fun c => trySend_claimsKept _ (dispatch_claimsKept _ _ (heard _ (setLine_claimsKept _ _
      (setLine_claimsKept _ _ c))))

theorem takeFrame_claimsKept (s : State) (f : SiteFrame) : ClaimsKept s (s.takeFrame f) := by
  have heard (u : State) : ClaimsKept u (u.beaconItem f) := (beaconItem_only _ _).claimsKept
  unfold State.takeFrame
  split
  · exact (takeOwnNumber_only _ _).claimsKept
  · split
    · exact fun c => trySend_claimsKept _ (heard _ (setLine_claimsKept _ _ c))
    · exact takeRecordFrame_claimsKept _ _

theorem receive_claimsKept (s : State) (k : Kind) (x : LineBytes) : ClaimsKept s (s.receive k x) := by
  refine hearBytes_related ClaimsKept.refl ClaimsKept.trans (fun _ _ _ => (setReceiver_only _ _ _).claimsKept)
    (fun _ => (countBadFrame_only _).claimsKept) (fun u f t e => ?_) s x
  obtain ⟨f, -, rfl⟩ := Option.map_eq_some_iff.1 e
  unfold State.handOver
  split
  · exact takeFrame_claimsKept _ _
  · split
    · exact setLine_claimsKept _ _
    · exact .refl _

/-! ### Submissions (R184, R185) -/

theorem reply_claimsKept (s : State) (r : Option SubmissionRefusal) : ClaimsKept s (s.reply r) :=
  (reply_only s r).claimsKept

theorem takeSequence_claimsKept (s : State) : ClaimsKept s s.takeSequence :=
  (takeSequence_only s).claimsKept_of_ledger (takeSequence_ledger s)

/-- An append that takes no claim is passed where a claim is available (R147, R185). -/
theorem passAppend_claimsKept_of_free {src : AppendSource} {r : Record} (notHose : src ≠ .hose)
    (other : ∀ x, r ≠ .issue x) (free : s.journal.ledger.ClaimFree s.cfg.nj) (late : ¬ s.early) :
    ClaimsKept s (s.passAppend src r) := fun c => by
  have ledger := passAppend_ledger src r free.room
  refine c.journal (passAppend_only _ _ _) (fun k => ?_) fun w covers => ?_
  · rw [ledger, Ledger.assigned_appended]
    simp [isHoseAppend_of_source notHose, bitCode]
  · rw [ledger]
    exact covers.assigned_of_free late free (isIssueAppend_of_record other _ _ _)

/-- The record of an accepted submission is passed where a claim is available, and takes none (R147, R185). -/
theorem accept_claimsKept (x : Submission) (free : s.journal.ledger.ClaimFree s.cfg.nj) (late : ¬ s.early) :
    ClaimsKept s (s.accept x) := fun c => by
  have only := takeSequence_only s
  refine passAppend_claimsKept_of_free (src := .notice) (by decide) (fun r => ?_) ?_ ?_
    (takeSequence_claimsKept s c)
  · cases x <;> simp [Submission.record]
  · rw [takeSequence_ledger, only.cfg_eq]
    exact free
  · unfold State.early
    rw [only.start_eq]
    exact late

theorem submit_claimsKept (x : Submission) (late : ¬ s.early) : ClaimsKept s (s.submit x) := by
  unfold State.submit
  split
  · exact reply_claimsKept _ _
  · rename_i passes
    refine accept_claimsKept x ((claimAvailable_iff _ _).1 ?_) late
    unfold State.judgeSubmission at passes
    split_ifs at passes with _ _ taken
    simpa using taken

/-! ### Converter scans (R161 to R169) -/

theorem cutOffAt_claimsKept (s : State) (h k : Side) : ClaimsKept s (s.cutOffAt h k) := by
  unfold State.cutOffAt
  split
  · exact endDelivery_claimsKept _ _ _
  · exact .refl _

theorem testStockAt_claimsKept (s : State) (h : Side) : ClaimsKept s (s.testStockAt h) := by
  unfold State.testStockAt
  dsimp only
  split
  · exact .refl _
  · split
    · exact setDelivery_claimsKept ‹_›
    · exact .refl _

theorem testStock_claimsKept (s : State) : ClaimsKept s s.testStock :=
  (testStockAt_claimsKept _ _).trans (testStockAt_claimsKept _ _)

theorem setScan_claimsKept (s : State) (u : ScanUnit) : ClaimsKept s (s.setScan u) := (setScan_only s u).claimsKept

theorem startScan_claimsKept (s : State) : ClaimsKept s s.startScan :=
  (setScan_claimsKept _ _).trans (testStock_claimsKept _)

theorem levelUpdate_claimsKept (s : State) (k : Side) (n : Nat) : ClaimsKept s (s.levelUpdate k n) := by
  have stocked : ClaimsKept s (s.setTank k { s.tanks.get k with stock := some (stockOf (s.tankCfg k).points n) }) :=
    (setTank_only _ _ _).claimsKept
  unfold State.levelUpdate
  dsimp only
  split
  · exact fun c => cutOffAt_claimsKept _ _ _ (cutOffAt_claimsKept _ _ _ (stocked c))
  · exact stocked

theorem goodResponse_claimsKept (s : State) (pos : Nat) (e : ScanEntry) (code : BitVec 12) :
    ClaimsKept s (s.goodResponse pos e code) := by
  unfold State.goodResponse
  dsimp only
  split
  · exact setScan_claimsKept _ _
  · exact fun c => levelUpdate_claimsKept _ _ _ (setScan_claimsKept _ _ c)

theorem clearScan_claimsKept (s : State) : ClaimsKept s s.clearScan := by
  unfold State.clearScan
  split
  · exact fun c => startScan_claimsKept _ (setScan_claimsKept _ _ c)
  · exact .refl _

theorem clearPress_claimsKept (s : State) : ClaimsKept s s.clearPress := by
  have cleared : ClaimsKept s (if s.inRun then (s.clearFault .one).clearFault .two else s) := by
    split
    · exact (clearFault_claimsKept _ _).trans (clearFault_claimsKept _ _)
    · exact .refl _
  unfold State.clearPress
  dsimp only
  generalize (if s.inRun then (s.clearFault .one).clearFault .two else s) = s1 at cleared ⊢
  split
  · exact cleared.trans (clearScan_claimsKept _)
  · exact cleared

/-! ### Completed appends (R22, R148, R158, R185) -/

theorem applyOwn_claimsKept (s : State) (r : Record) : ClaimsKept s (s.applyOwn r) := by
  have counted (u : State) (b : Bool) : ClaimsKept u (u.countTurnedAway b) := (countTurnedAway_only _ _).claimsKept
  unfold State.applyOwn
  split
  · exact .refl _
  · exact takeService_claimsKept _ _ _ _ _
  · exact fun c => counted _ _ (takeVehicleNotice_claimsKept _ _ _ c)
  · exact fun c => counted _ _ (takeClassNotice_claimsKept _ _ _ c)

theorem reportAppend_claimsKept (src : AppendSource) (r : Record) (other : src = .hose → ∀ x, r ≠ .issue x) :
    ClaimsKept s (s.reportAppend src r) := by
  unfold State.reportAppend
  split
  · split
    · exact absurd rfl (other rfl _)
    · exact .refl _
  · exact (applyOwn_claimsKept _ _).trans (reply_claimsKept _ _)
  · unfold State.absorbRecovered
    split
    · exact takeIssue_claimsKept _ _ _
    · exact .refl _

section
variable {src : AppendSource} {pos serial : Nat} {r : Record}
  (served : s.journal.inService = some (.append src pos serial r))
include served

theorem appended_of_served (k : Side) : s.journal.ledger.appended k =
    bitCode (MemOp.isHoseAppend k (.append src pos serial r)) +
      (s.journal.queue.filter MemOp.isAppend).countP (MemOp.isHoseAppend k) := by
  rw [Ledger.appended, ledger_appends_of_served served, List.countP_cons, Nat.add_comm]
  rfl

/-- An append that is not of an ISSUE record completes (R148, R185). -/
theorem appendDone_claimsKept (other : ∀ x, r ≠ .issue x) : ClaimsKept s (s.appendDone src r) := fun c => by
  have ledger : ((s.ownItem r).afterService).journal.ledger = _ := afterService_ledger (s.ownItem r)
  rw [(ownItem_only s r).journal_eq] at ledger
  refine reportAppend_claimsKept _ _ (fun _ => other) (c.journal
    ((ownItem_only s r).next (bs := [.notice, .journal, .classes]) (afterService_only _)) (fun k => ?_)
    fun w covers => ?_)
  · have none : bitCode (MemOp.isHoseAppend k (.append src pos serial r)) = 0 := by
      rw [isHoseAppend_of_record other]
      rfl
    rw [appended_of_served served, none, Nat.zero_add, ledger]
    rfl
  · rw [ledger]
    exact covers.appended_without_claim (ledger_appends_of_served served)

end

/-- The state once an append of an ISSUE record has completed and its claim has ended (R147, R148). -/
def State.issueWritten (s : State) (x : IssueRecord) : State :=
  (((s.writeOpen x.hose .clear).endClaim).ownItem (.issue x)).afterService

theorem issueWritten_only (s : State) (x : IssueRecord) :
    Only [.mem, .journal, .notice, .classes] s (s.issueWritten x) :=
  (((writeOpen_only _ _ _).next (bs := [.mem, .journal]) (setJournal_only _ _)).next
    (bs := [.mem, .journal, .notice]) (ownItem_only _ _)).next (afterService_only _)

theorem issueWritten_ledger (s : State) (x : IssueRecord) : (s.issueWritten x).journal.ledger =
    { s.journal.ledger with
      claims := s.journal.ledger.claims - 1, appends := s.journal.queue.filter MemOp.isAppend } := by
  unfold State.issueWritten
  rw [afterService_ledger, (ownItem_only _ _).journal_eq]
  simp [State.endClaim, State.writeOpen, State.setOpenImage, Journal.ledger, Journal.operations]

/-- The hose whose append has completed holds its delivery record no longer (R22). -/
theorem hoseRecorded_hose (s : State) (h : Side)
    (state : (s.hose h).state = .recording ∨ (s.hose h).state = .fault) :
    ((s.hoseRecorded h).hose h).delivery = none ∧
      (((s.hoseRecorded h).hose h).state.resting = true ∨ ((s.hoseRecorded h).hose h).state = .fault) := by
  unfold State.hoseRecorded
  dsimp only
  split
  · rw [State.setHose_hose_self]
    exact ⟨rfl, .inl (resting_rest _)⟩
  · rename_i notRecording
    have fault := state.resolve_left notRecording
    rw [if_pos fault, State.setHose_hose_self]
    exact ⟨rfl, .inr fault⟩

theorem hoseRecorded_otherKept (s : State) (h : Side) : OtherHoseKept h s (s.hoseRecorded h) := by
  unfold State.hoseRecorded
  dsimp only
  split
  · exact setHose_otherKept _ _ _
  · split
    · exact setHose_otherKept _ _ _
    · exact .refl _ _

/-- The append of a hose's record completes: the hose had passed it and waited for its end (R22, R147). -/
theorem hoseAppended_claimsKept {pos serial : Nat} {x : IssueRecord}
    (served : s.journal.inService = some (.append .hose pos serial (.issue x))) :
    ClaimsKept s ((s.issueWritten x).hoseRecorded x.hose) := fun c => by
  have passed := appended_of_served served
  obtain ⟨-, state, one, writes⟩ := (c.sound x.hose).passed (by rw [passed]; simp [MemOp.isHoseAppend, bitCode])
  have only := issueWritten_only s x
  have recorded := hoseRecorded_only (s.issueWritten x) x.hose
  have ledger : ((s.issueWritten x).hoseRecorded x.hose).journal.ledger = _ :=
    (congrArg Journal.ledger recorded.journal_eq).trans (issueWritten_ledger s x)
  have appended (k : Side) : ((s.issueWritten x).hoseRecorded x.hose).journal.ledger.appended k +
      bitCode (MemOp.isHoseAppend k (.append .hose pos serial (.issue x))) = s.journal.ledger.appended k := by
    rw [passed, ledger, Nat.add_comm]
    rfl
  have none : ((s.issueWritten x).hoseRecorded x.hose).journal.ledger.appended x.hose = 0 := by
    have own := appended x.hose
    simp only [MemOp.isHoseAppend, beq_self_eq_true, bitCode, if_true] at own
    omega
  obtain ⟨absent, rests⟩ := hoseRecorded_hose (s.issueWritten x) x.hose (by rw [only.hose_eq]; exact state)
  have gone : (((s.issueWritten x).hoseRecorded x.hose).cycleView x.hose).delivered = false := by
    simp [State.cycleView, absent]
  refine c.turn (h := x.hose) ?_ ?_ ?_ ?_ ?_ (fun e => ?_) fun n covers => ?_
  · rw [recorded.start_eq, only.start_eq]
  · rw [recorded.cfg_eq, only.cfg_eq]
  · rw [(hoseRecorded_otherKept _ _).cycleView_eq, only.cycleView_eq]
  · simpa [MemOp.isHoseAppend, bitCode] using appended x.hose.other
  · rw [none]
    refine CycleView.sound_absent ?_ gone (by simp [State.cycleView, Hose.imageHose, absent]) rests
    simp only [State.cycleView, recorded.tag_eq, only.tag_eq]
    exact writes
  · have still : (s.cycleView x.hose).state = .start := c.still e _
    simp [still] at state
  · rw [State.waits, CycleView.waits_of_not_delivered gone, ledger]
    rw [State.waits, CycleView.waits_of_appended _ (by omega)] at covers
    exact covers.appended (ledger_appends_of_served served) rfl

/-- The append of an ISSUE record completes (R147, R148, R158). -/
theorem issueAppended_claimsKept {src : AppendSource} {pos serial : Nat} {x : IssueRecord}
    (served : s.journal.inService = some (.append src pos serial (.issue x))) :
    ClaimsKept s ((s.writeOpen x.hose .clear).endClaim.appendDone src (.issue x)) := by
  by_cases hose : src = .hose
  · subst hose
    exact hoseAppended_claimsKept served
  · refine ClaimsKept.trans (t := s.issueWritten x) (fun c => ?_) (reportAppend_claimsKept _ _ fun e => absurd e hose)
    refine c.journal (issueWritten_only s x) (fun k => ?_) fun w covers => ?_
    · have none : bitCode (MemOp.isHoseAppend k (.append src pos serial (.issue x))) = 0 := by
        rw [isHoseAppend_of_source hose]
        rfl
      rw [appended_of_served served, none, Nat.zero_add, issueWritten_ledger]
      rfl
    · rw [issueWritten_ledger]
      exact covers.appended (ledger_appends_of_served served) rfl

end

end Sys2Proof.Machine

/-! The claims of R147: starts, the start scan and the stages. -/

namespace Sys2Proof.Machine

set_option Elab.async false

section
variable {s t u : State} {h : Side}

/-! ### Starts and stages (R172 to R180) -/

theorem Ledger.Covers.mono {e e' : Prop} {nj w : Nat} {l : Ledger} (c : l.Covers e nj w) (later : e' → e) :
    l.Covers e' nj w :=
  { c with clean := fun o => c.clean (later o) }

/-- A change of the stage, with the hoses, the tag units and the journal unit's ledger as they were. -/
theorem ClaimsKept.of_later (later : t.early → s.early) (cfg : t.cfg = s.cfg)
    (view : ∀ k, t.cycleView k = s.cycleView k) (ledger : t.journal.ledger = s.journal.ledger) : ClaimsKept s t := by
  intro c
  have waits (k : Side) : t.waits k = s.waits k := by rw [State.waits, view, ledger]; rfl
  refine ⟨fun k => ?_, fun e k => ?_, ?_⟩
  · rw [view, ledger]
    exact c.sound k
  · exact (congrArg CycleView.state (view k)).trans (c.still (later e) k)
  · rw [waits, waits, ledger, cfg]
    exact c.ledger.mono later

theorem setStart_claimsKept {x : StartCtl} (later : x.stage = .hold ∨ x.stage = .config → s.early) :
    ClaimsKept s (s.setStart x) := .of_later later rfl (fun _ => rfl) rfl

theorem enterConfigFault_claimsKept (s : State) (r : ConfigFaultReason) (n : Nat) :
    ClaimsKept s (s.enterConfigFault r n) := fun c =>
  setLine_claimsKept _ _ (setStart_claimsKept (by simp) c)

theorem leaveHold_claimsKept (x : LineLevels) (hold : s.start.stage = .hold) : ClaimsKept s (s.leaveHold x) :=
  .of_later (fun _ => .inl hold) rfl (fun k => by cases k <;> rfl) rfl

/-- A hose in START holds no delivery record and has passed no append. -/
theorem State.Covered.of_start (c : s.Covered) (start : (s.hose h).state = .start) :
    (s.cycleView h).delivered = false ∧ s.journal.ledger.appended h = 0 ∧ (s.tag h).writes = 0 := by
  have absent := (c.sound h).not_delivered (by rw [show (s.cycleView h).state = _ from start]; rfl)
  exact ⟨absent, (c.sound h).of_not_delivered absent⟩

theorem State.Covered.waits_of_start (c : s.Covered) (start : (s.hose h).state = .start) : s.waits h = 0 :=
  CycleView.waits_of_not_delivered (c.of_start start).1 _

theorem State.Covered.ledger_of_start (c : s.Covered) (start : ∀ k, (s.hose k).state = .start) :
    s.journal.ledger.Covers s.early s.cfg.nj 0 := by
  have ledger := c.ledger
  rwa [c.waits_of_start (start _), c.waits_of_start (start _)] at ledger

theorem startWith_claimsKept (s : State) (c : Cause) (good active : Bool) :
    ClaimsKept s (s.startWith c good active) := fun _ => by
  have sound (k : Side) : ((s.startWith c good active).cycleView k).Sound k 0 := by
    cases k <;> exact CycleView.sound_absent rfl rfl rfl (.inl rfl)
  have waits (k : Side) : (s.startWith c good active).waits k = 0 := by cases k <;> rfl
  refine ⟨sound, fun _ k => by cases k <;> rfl, ?_⟩
  rw [waits, waits]
  constructor
  case full => exact fun some => absurd rfl some
  case clean => exact fun _ => ⟨rfl, rfl, rfl⟩
  all_goals exact Nat.zero_le _

/-- Before JOURNAL SCAN the ring is empty, whatever its size (R175). -/
theorem loadConfig_claimsKept (r : ConfigRecord) (early : s.early) : ClaimsKept s (s.loadConfig r) := fun c => by
  have start := c.still early
  have view (k : Side) : (s.loadConfig r).cycleView k = s.cycleView k := by
    have same (x : Hose) (g : HoseConfig) : (x.configured g s.start.cause).state = x.state ∧
        (x.configured g s.start.cause).delivery = x.delivery := by
      unfold Hose.configured
      split <;> exact ⟨rfl, rfl⟩
    cases k <;> simp [State.cycleView, Hose.imageHose, State.loadConfig, State.hose, State.tag, Pair.get, same]
  have waits (k : Side) : (s.loadConfig r).waits k = 0 :=
    (congrArg (CycleView.waits · _) (view k)).trans (c.waits_of_start (start k))
  obtain ⟨sent, unsent, pending⟩ := c.ledger.clean early
  have claims := (c.ledger_of_start start).claims
  refine ⟨fun k => view k ▸ c.sound k, fun _ k => (congrArg CycleView.state (view k)).trans (start k), ?_⟩
  rw [waits, waits]
  exact ⟨by rw [show (s.loadConfig r).journal = s.journal from rfl, sent, unsent]; exact Nat.zero_le _,
    fun _ => ⟨sent, unsent, pending⟩, claims, by
      rw [show (s.loadConfig r).journal = s.journal from rfl, unsent]; exact Nat.zero_le _, Nat.zero_le _,
    fun some => absurd pending some⟩

theorem judgeConfig_claimsKept (early : s.early) : ClaimsKept s s.judgeConfig := by
  unfold State.judgeConfig
  dsimp only
  split
  · exact enterConfigFault_claimsKept _ _ _
  · exact loadConfig_claimsKept _ early

theorem loadPlans_claimsKept (s : State) (failed : BitVec 8) : ClaimsKept s (s.loadPlans failed) :=
  (loadPlans_only s failed).claimsKept

theorem setMem_claimsKept (s : State) (m : List Host.Cell) : ClaimsKept s (s.setMem m) := (setMem_only s m).claimsKept

theorem releaseHose_claimsKept (late : ¬ s.early) (start : (s.hose h).state = .start) :
    ClaimsKept s (s.releaseHose h) := by
  have resting : (s.cycleView h).state.resting = true := by rw [show (s.cycleView h).state = _ from start]; rfl
  unfold State.releaseHose
  split
  · exact setHose_claimsKept rfl (fun _ c => c.rest (c.not_delivered resting) (resting_rest _))
      fun e => absurd e late
  · exact .refl _

theorem enterRun_claimsKept (start : ∀ k, (s.hose k).state = .start) : ClaimsKept s s.enterRun := by
  have one := releaseHose_claimsKept (s := s.setStart { s.start with stage := .run, listenTimer := none }) (h := .one)
    (by simp [State.early]) (start _)
  have two := releaseHose_claimsKept (h := .two)
    (s := (s.setStart { s.start with stage := .run, listenTimer := none }).releaseHose .one)
    (by unfold State.early; rw [(releaseHose_only _ _).start_eq]; simp)
    (by rw [show Side.two = Side.one.other from rfl, releaseHose_hose_other]; exact start _)
  exact fun c => trySend_claimsKept _ (setLine_claimsKept _ _ (two (one (setStart_claimsKept (by simp) c))))

/-! ### The start scan (R154 to R158, R178) -/

/-- A state in which the start scan is made: the ring may be found to hold records, and every hose is in START. -/
structure State.Scanning (s : State) : Prop where
  late : ¬ s.early
  start : ∀ k, (s.hose k).state = .start

theorem Only.scanning {bs : List Block} (e : Only bs s t) (scanning : s.Scanning) (m1 : Block.start ∉ bs := by decide)
    (m2 : Block.hoses ∉ bs := by decide) : t.Scanning where
  late := by
    unfold State.early
    rw [e.start_eq m1]
    exact scanning.late
  start k := by
    rw [e.hose_eq k m2]
    exact scanning.start k

/-- A change of the journal unit by the start scan, while no claim of a delivery waits. -/
theorem State.Covered.scanned {bs : List Block} (c : s.Covered) (scanning : s.Scanning) (e : Only bs s t)
    (appended : ∀ k, t.journal.ledger.appended k = 0)
    (covers : s.journal.ledger.Covers s.early s.cfg.nj 0 → t.journal.ledger.Covers s.early s.cfg.nj 0)
    (m1 : Block.start ∉ bs := by decide) (m2 : Block.cfg ∉ bs := by decide) (m3 : Block.hoses ∉ bs := by decide)
    (m4 : Block.tags ∉ bs := by decide) : t.Covered := by
  have view (k : Side) := e.cycleView_eq k m3 m4
  have none (k : Side) : s.journal.ledger.appended k = 0 := (c.of_start (scanning.start k)).2.1
  have waits (k : Side) : t.waits k = 0 := by
    rw [State.waits, view]
    exact CycleView.waits_of_not_delivered (c.of_start (scanning.start k)).1 _
  refine ⟨fun k => ?_, fun o k => absurd o (e.scanning scanning m1 m3).late, ?_⟩
  · rw [view, appended, ← none k]
    exact c.sound k
  · rw [waits, waits, e.cfg_eq m2]
    exact (covers (c.ledger_of_start scanning.start)).mono fun o => absurd o (e.scanning scanning m1 m3).late

/-- The journal unit as a scan or a formatting sets it up: positions that fit, no operation, no recovery. -/
theorem setJournal_claimsKept_of_scan {j : Journal} (scanning : s.Scanning) (fits : j.sent + j.unsent ≤ s.cfg.nj)
    (operations : j.operations = []) (pending : j.pendingRecoveries = []) : ClaimsKept s (s.setJournal j) := fun c =>
  c.scanned scanning (setJournal_only s j) (fun k => by simp [Journal.ledger, Ledger.appended, operations]) fun _ =>
    { fits := fits
      clean := fun o => absurd o scanning.late
      claims := by simp [Journal.ledger, Ledger.issues, operations, pending]
      slots := by simp only [Journal.ledger, State.setJournal_journal]; omega
      serials := Nat.zero_le _
      full := fun some => absurd (by simp [Journal.ledger, pending]) some }

theorem recover_claimsKept (r : IssueRecord) (scanning : s.Scanning) : ClaimsKept s (s.recover r) := fun c => by
  have none (k : Side) : s.journal.ledger.appended k = 0 := (c.of_start (scanning.start k)).2.1
  have only := recover_only s r
  unfold State.recover at only ⊢
  dsimp only at only ⊢
  split at only
  · rename_i given
    rw [if_pos given]
    have room : s.journal.ledger.Room s.cfg.nj := (canAssign_iff _ _).1 given.2
    have ledger := passAppend_ledger (s := s.setJournal { s.journal with claims := s.journal.claims + 1 }) .scan
      (.issue r) room
    refine c.scanned scanning only (fun k => ?_) fun covers => ?_
    · rw [ledger, Ledger.assigned_appended]
      exact none k
    · rw [ledger]
      exact covers.recovered scanning.late room
  · rename_i held
    rw [if_neg held]
    refine c.scanned scanning only (fun k => none k) fun covers => ?_
    have full : s.journal.ledger.pending ≠ 0 ∨ ¬ s.journal.ledger.Room s.cfg.nj := by
      by_contra free
      simp only [not_or, not_not] at free
      exact held ⟨List.length_eq_zero_iff.1 free.1, (canAssign_iff _ _).2 free.2⟩
    have ledger : (Journal.ledger { s.journal with
        claims := s.journal.claims + 1, pendingRecoveries := s.journal.pendingRecoveries ++ [r] }) =
        { s.journal.ledger with
          claims := s.journal.ledger.claims + 1, pending := s.journal.ledger.pending + 1 } := by
      simp [Journal.ledger, Journal.operations]
    exact ledger ▸ covers.recovery_held scanning.late full

theorem setOpenImage_claimsKept (s : State) (h : Side) (i : OpenImage) : ClaimsKept s (s.setOpenImage h i) :=
  (setOpenImage_only s h i).claimsKept_of_ledger rfl

theorem pushOp_claimsKept {op : MemOp} (other : op.isAppend = false := by rfl) : ClaimsKept s (s.pushOp op) :=
  (pushOp_only s op).claimsKept_of_ledger (pushOp_ledger_of_other other)

theorem requestHeader_claimsKept (s : State) : ClaimsKept s s.requestHeader :=
  (requestHeader_only s).claimsKept_of_ledger (requestHeader_ledger s)

theorem takeOpenSlot_claimsKept (run : List RingSlot) (i : OpenImage) (scanning : s.Scanning) :
    ClaimsKept s (s.takeOpenSlot h run i) := by
  have imaged := setOpenImage_claimsKept s h i
  unfold State.takeOpenSlot
  dsimp only
  split
  · exact imaged
  · split
    · exact imaged.trans (recover_claimsKept _ ((setOpenImage_only _ _ _).scanning scanning))
    · exact imaged.trans pushOp_claimsKept

theorem placeSequence_claimsKept (s : State) (n : Nat) : ClaimsKept s (s.placeSequence n) := by
  unfold State.placeSequence
  split
  · exact fun c => requestHeader_claimsKept _ (setJournal_claimsKept rfl c)
  · exact setJournal_claimsKept rfl

theorem walkBack_length (read : Nat → Option RingSlot) (nj fuel pos serial : Nat) :
    (walkBack read nj fuel pos serial).length ≤ fuel := by
  induction fuel generalizing pos serial with
  | zero => exact le_rfl
  | succ fuel ih =>
    unfold walkBack
    dsimp only
    split
    · exact Nat.zero_le _
    · split
      · exact Nat.succ_le_succ (ih _ _)
      · exact Nat.zero_le _

/-- The run that a scan finds fits in the ring (R155). -/
theorem findRun_length {read : Nat → Option RingSlot} {nj : Nat} {r : Run} (found : findRun read nj = some r) :
    r.slots.length ≤ nj := by
  obtain ⟨g, greatest, rfl⟩ := Option.map_eq_some_iff.1 found
  have some : nj ≠ 0 := by
    rintro rfl
    cases greatest
  have walked := walkBack_length read nj (nj - 1) g.1 g.2.serial
  simp only [List.length_cons]
  omega

theorem sentCount_le (mark newest count : Nat) : sentCount mark newest count ≤ count := by
  unfold sentCount
  split
  · exact Nat.zero_le _
  · exact Nat.min_le_left _ _

theorem withRun_fits (j : Journal) {read : Nat → Option RingSlot} {nj : Nat} :
    (j.withRun nj (findRun read nj)).sent + (j.withRun nj (findRun read nj)).unsent ≤ nj := by
  cases found : findRun read nj with
  | none => exact Nat.zero_le _
  | some r =>
    have fits := findRun_length found
    obtain ⟨newest, sent, unsent⟩ : ∃ newest,
        (j.withRun nj (some r)).sent = sentCount j.header.savedMark newest r.slots.length ∧
        (j.withRun nj (some r)).unsent = r.slots.length - sentCount j.header.savedMark newest r.slots.length :=
      ⟨_, rfl, rfl⟩
    have le := sentCount_le j.header.savedMark newest r.slots.length
    omega

theorem withRun_keeps (j : Journal) (nj : Nat) (r : Option Run) :
    (j.withRun nj r).operations = j.operations ∧ (j.withRun nj r).pendingRecoveries = j.pendingRecoveries := by
  cases r <;> exact ⟨rfl, rfl⟩

theorem holdScanEnd_claimsKept (s : State) (e : ScanEnd) : ClaimsKept s (s.holdScanEnd e) := setStart_claimsKept id

/-- The next sequence placed and both open slots taken (R156, R157). -/
theorem slotsTaken_claimsKept (n : Nat) (run : List RingSlot) (one two : OpenImage) (e : ScanEnd)
    (scanning : s.Scanning) : ClaimsKept s
      ((((s.placeSequence n).takeOpenSlot .one run one).takeOpenSlot .two run two).holdScanEnd e) := by
  have first := (placeSequence_only s n).scanning scanning
  have second := (takeOpenSlot_only (s.placeSequence n) .one run one).scanning first
  exact fun c => holdScanEnd_claimsKept _ _ (takeOpenSlot_claimsKept _ _ second
    (takeOpenSlot_claimsKept _ _ first (placeSequence_claimsKept _ _ c)))

theorem scanRing_claimsKept (failed : ScanFailures) (hd : Header) (scanning : s.Scanning) :
    ClaimsKept s (s.scanRing failed hd) := by
  obtain ⟨operations, pending⟩ := withRun_keeps { Journal.reset with header := hd } s.cfg.nj
    (findRun (s.validSlot failed.ring hd.baseSerial) s.cfg.nj)
  exact fun c => slotsTaken_claimsKept _ _ _ _ _ ((setJournal_only _ _).scanning scanning)
    (setJournal_claimsKept_of_scan scanning (withRun_fits _) operations pending c)

/-- The writes of formatting are no appends (R154). -/
theorem requestFormat_claimsKept (s : State) : ClaimsKept s s.requestFormat := fun c =>
  requestHeader_claimsKept _ (pushOp_claimsKept rfl (pushOp_claimsKept rfl c))

theorem formatJournal_claimsKept (failed : ScanFailures) (hd : Option Header) (scanning : s.Scanning) :
    ClaimsKept s (s.formatJournal failed hd) := by
  have formatted {u : State} (scanning : u.Scanning) (epoch : Nat) (found : Option (Nat × RingSlot)) (e : ScanEnd) :
      ClaimsKept u ((u.setJournal (formattedJournal epoch s.cfg.nj found)).requestFormat.holdScanEnd e) := fun c =>
    holdScanEnd_claimsKept _ _ (requestFormat_claimsKept _
      (setJournal_claimsKept_of_scan scanning (Nat.zero_le _) rfl rfl c))
  unfold State.formatJournal
  dsimp only
  split
  · exact formatted scanning _ _ _
  · exact (draw_only s 65535).claimsKept.trans (formatted ((draw_only s 65535).scanning scanning) _ _ _)

theorem placeScanEnd_claimsKept (s : State) (e : ScanEnd) : ClaimsKept s (s.placeScanEnd e) := by
  have restored (u : State) (k : Side) (n : Nat) : ClaimsKept u (u.restoreTotalizer k n) := setHose_claimsKept_of_same
  have timed (u : State) (n : Nat) : ClaimsKept u (u.placeSiteTime n) := (placeSiteTime_only _ _).claimsKept
  exact fun c => timed _ _ (restored _ _ _ (restored _ _ _ c))

theorem enterListen_claimsKept (s : State) : ClaimsKept s s.enterListen := by
  have noticed (u : State) (x : NoticePort) : ClaimsKept u (u.setNotice x) := (setNotice_only _ _).claimsKept
  unfold State.enterListen
  dsimp only
  refine ClaimsKept.trans ?_ (requestSendRead_claimsKept _)
  split
  · exact fun c => noticed _ _ (setStart_claimsKept (by simp) c)
  · exact setStart_claimsKept (by simp)

theorem endScan_claimsKept (s : State) : ClaimsKept s s.endScan := by
  unfold State.endScan
  split
  · exact .refl _
  · split
    · exact fun c => enterListen_claimsKept _ (placeScanEnd_claimsKept _ _ (setStart_claimsKept id c))
    · exact .refl _

theorem runScan_claimsKept (failed : ScanFailures) (scanning : s.Scanning) : ClaimsKept s (s.runScan failed) := by
  unfold State.runScan
  split
  · refine ClaimsKept.trans ?_ (endScan_claimsKept _)
    split
    · exact scanRing_claimsKept _ _ scanning
    · exact formatJournal_claimsKept _ _ scanning
  · exact (formatJournal_claimsKept _ _ scanning).trans (endScan_claimsKept _)

end

end Sys2Proof.Machine

/-! The claims of R147: every command keeps the reclaimable slots at least the claims that wait for one. -/

namespace Sys2Proof.Machine

set_option Elab.async false

section
variable {s t u : State} {h : Side}

/-! ### Send reads and failures (R151, R152) -/

/-- The operation in service stays there. -/
def ServiceKept (s t : State) : Prop :=
  s.journal.inService.isSome = true → t.journal.inService = s.journal.inService

theorem ServiceKept.refl (s : State) : ServiceKept s s := fun _ => rfl

theorem ServiceKept.trans (a : ServiceKept s t) (b : ServiceKept t u) : ServiceKept s u := fun busy =>
  (b (by rw [a busy]; exact busy)).trans (a busy)

theorem pushOp_serviceKept (s : State) (op : MemOp) : ServiceKept s (s.pushOp op) := fun busy => by
  rw [pushOp_of_busy busy]
  rfl

theorem passAppend_serviceKept (s : State) (src : AppendSource) (r : Record) :
    ServiceKept s (s.passAppend src r) := by
  unfold State.passAppend
  dsimp only
  split
  · refine ServiceKept.trans (fun _ => ?_) (pushOp_serviceKept _ _)
    rw [assign_eq]
    rfl
  · exact .refl _

theorem giveRecovery_serviceKept (s : State) : ServiceKept s s.giveRecovery := by
  unfold State.giveRecovery
  split
  · exact .refl _
  · split
    · exact fun busy => passAppend_serviceKept _ _ _ busy
    · exact .refl _

theorem requestHeader_serviceKept (s : State) : ServiceKept s s.requestHeader := by
  unfold State.requestHeader
  split
  · exact .refl _
  · exact pushOp_serviceKept _ _

theorem advanceMark_serviceKept (s : State) : ServiceKept s s.advanceMark := by
  have saved (u : State) : ServiceKept u u.requestHeader.giveRecovery :=
    (requestHeader_serviceKept _).trans (giveRecovery_serviceKept _)
  unfold State.advanceMark
  dsimp only
  split
  · exact .refl _
  · split
    · exact fun busy => saved _ busy
    · exact fun busy => giveRecovery_serviceKept _ busy

theorem passOver_serviceKept (s : State) : ServiceKept s s.passOver := by
  unfold State.passOver
  dsimp only
  split
  · exact advanceMark_serviceKept s
  · exact .refl _

theorem sendReadDone_serviceKept (s : State) (pos : Nat) (x : Option RingSlot) :
    ServiceKept s (s.sendReadDone pos x) := by
  unfold State.sendReadDone
  dsimp only
  split
  · split
    · exact .refl _
    · exact fun busy => passOver_serviceKept _ busy
  · exact fun busy => passOver_serviceKept _ busy

/-- A send read ends, found or not (R152). -/
theorem readEnded_claimsKept {pos : Nat} (x : Option RingSlot) (served : s.journal.inService = some (.sendRead pos)) :
    ClaimsKept s ((s.sendReadDone pos x).afterService).trySend := by
  have stays := (sendReadDone_serviceKept s pos x (by rw [served]; rfl)).trans served
  exact (sendReadDone_claimsKept s pos x).trans ((afterService_claimsKept stays).trans (trySend_claimsKept _))

theorem operationFails_claimsKept (s : State) : ClaimsKept s s.operationFails := by
  unfold State.operationFails
  split
  · split
    · exact fun c => enterConfigFault_claimsKept _ _ _ (setStart_claimsKept id c)
    · exact setStart_claimsKept id
  · split
    · exact .refl _
    · exact readEnded_claimsKept _ ‹_›
    · exact setJournal_claimsKept rfl

/-! ### The commands -/

theorem writeOpen_claimsKept (s : State) (h : Side) (i : OpenImage) : ClaimsKept s (s.writeOpen h i) :=
  (writeOpen_only s h i).claimsKept_of_ledger rfl

/-- What an open-slot write that completes leaves to be done. -/
theorem openSlotWritten_claimsKept {op : MemOp} (h : Side) (i : OpenImage)
    (served : s.journal.inService = some op) (other : op.isAppend = false := by rfl) :
    ClaimsKept s (s.writeOpen h i).afterService := fun c =>
  afterService_claimsKept (by exact served) other (writeOpen_claimsKept _ _ _ c)

theorem hearSubmission_claimsKept (bytes : List Byte) {take : State → List Byte → Option State}
    (taken : ∀ f t, s.inRun = true → take (s.takeInHand f) f = some t → ClaimsKept (s.takeInHand f) t) :
    ClaimsKept s (s.hearSubmission bytes take) := by
  have inHand (f : List Byte) : ClaimsKept s (s.takeInHand f) := (takeInHand_only _ _).claimsKept
  unfold State.hearSubmission
  split
  case isFalse => exact .refl _
  rename_i takes
  have run : s.inRun = true := by
    unfold State.takesSubmission at takes
    simp only [Bool.and_eq_true] at takes
    exact takes.1.2
  split
  · exact .refl _
  · split
    · exact (inHand _).trans (taken _ _ run ‹_›)
    · split
      · exact .refl _
      · exact (inHand _).trans (reply_claimsKept _ _)

theorem submitFrame_claimsKept (s : State) (k : SubmissionKind) (bytes : List Byte)
    (read : Nat → List Byte → Submission) : ClaimsKept s (s.submitFrame k bytes read) := by
  refine hearSubmission_claimsKept bytes fun f t run e => ?_
  obtain ⟨body, -, rfl⟩ := Option.map_eq_some_iff.1 e
  have late : ¬ s.early := by
    unfold State.inRun at run
    simp only [beq_iff_eq] at run
    simp [State.early, run]
  exact submit_claimsKept _ late

/-- An answer that is a next state under a condition, and no change otherwise. -/
theorem ite_claimsKept {p : Prop} [Decidable p]
    (e : (if p then Host.Outcome.next u else Host.Outcome.next s : Answer) = .next t) (kept : p → ClaimsKept s u) :
    ClaimsKept s t := by
  split at e
  · exact next_related e (kept ‹_›)
  · exact next_related e (.refl s)

theorem ite_not_claimsKept {p : Prop} [Decidable p]
    (e : (if p then Host.Outcome.next s else Host.Outcome.next u : Answer) = .next t) (kept : ClaimsKept s u) :
    ClaimsKept s t := by
  split at e
  · exact next_related e (.refl s)
  · exact next_related e kept

/-- Every command keeps the conditions: most leave all that they depend on, and the others go through the lemmas of
the operations that they are made of. -/
theorem exec_claimsKept {c : Instr} (r : s.reservationsOk) (e : exec c s = .next t) : ClaimsKept s t := by
  have still := hose_start_of_stage r
  cases c with
  | powerStart => exact next_related e (startWith_claimsKept _ _ _ _)
  | supplyDip => exact next_related e (startWith_claimsKept _ _ _ _)
  | resetLine => exact next_related e (startWith_claimsKept _ _ _ _)
  | supplyRisesAboveThreshold => exact next_related e (setStart_claimsKept id)
  | resetLineInactive => exact next_related e (setStart_claimsKept id)
  | holdEnd x => exact ite_claimsKept e fun hold => leaveHold_claimsKept x hold.1
  | configAreaRead o f =>
    simp only [exec, execConfigAreaRead] at e
    split at e
    · rename_i reading
      have early : s.early := by
        simp only [State.readingConfig, Bool.and_eq_true, beq_iff_eq] at reading
        exact .inr reading.1
      split at e
      · exact next_related e (enterConfigFault_claimsKept _ _ _)
      · split at e
        · exact next_related e fun c => judgeConfig_claimsKept early (setMem_claimsKept _ _ c)
        · cases e
    · exact next_related e (.refl _)
  | planAreaLoad o f =>
    simp only [exec, execPlanAreaLoad] at e
    split at e
    · have loaded : ClaimsKept s ((s.setMem (memSetCells s.mem o)).loadPlans f) :=
        fun c => loadPlans_claimsKept _ _ (setMem_claimsKept _ _ c)
      split at e
      · split at e
        · exact next_related e fun c => startScan_claimsKept _ (setStart_claimsKept (by simp) (loaded c))
        · exact next_related e loaded
      · cases e
    · exact next_related e (.refl _)
  | journalScan o f =>
    simp only [exec, execJournalScan] at e
    split at e
    · rename_i stage
      have scanning : s.Scanning := ⟨by simp [State.early, stage.1], still (by simp [stage.1])⟩
      split at e
      · exact next_related e fun c => runScan_claimsKept _ ((setMem_only _ _).scanning scanning)
          (setMem_claimsKept _ _ c)
      · cases e
    · exact next_related e (.refl _)
  | listenEnd => exact ite_claimsKept e fun listen => enterRun_claimsKept (still (by simp [listen.1]))
  | lift h =>
    simp only [exec, execLift] at e
    split at e
    · exact next_related e (.refl _)
    · split at e
      · exact next_related e (startCycle_claimsKept ‹_›)
      · exact next_related e setHose_claimsKept_of_same
  | hang h => exact ite_not_claimsKept e fun c => hang_claimsKept _ _ (setHose_claimsKept_of_same rfl rfl rfl c)
  | liftWaitExpiry h =>
    exact ite_claimsKept e fun identifying => (leaveIdentifying_claimsKept identifying.1 rfl).trans
      (refuse_claimsKept _ (by simp [State.leaveIdentifying]))
  | noFlowExpiry h => exact ite_claimsKept e fun _ => endDelivery_claimsKept _ _ _
  | stallExpiry h => exact ite_claimsKept e fun _ => endDelivery_claimsKept _ _ _
  | tagLossExpiry h => exact ite_claimsKept e fun _ => endDelivery_claimsKept _ _ _
  | settleExpiry h =>
    simp only [exec, execSettleExpiry] at e
    split at e
    · exact next_related e (.refl _)
    · exact ite_claimsKept e fun closing => settleEnd_claimsKept closing.1 ‹_›
  | channelEdge h ch l => exact ite_not_claimsKept e (takeEdge_claimsKept _ _ _ _)
  | readerBlock h n a b => exact next_related e (readerAnswer_claimsKept _ _ _ _)
  | readerWritten h n a => exact next_related e (readerAnswer_claimsKept _ _ _ _)
  | readerPresent h n a => exact next_related e (readerAnswer_claimsKept _ _ _ _)
  | readerNoTag h n => exact next_related e (readerAnswer_claimsKept _ _ _ _)
  | readerFault h n => exact next_related e (readerAnswer_claimsKept _ _ _ _)
  | readerWindowExpiry h =>
    simp only [exec, execReaderWindowExpiry] at e
    split at e
    · exact next_related e (endAttempt_claimsKept _ ‹_›)
    · exact next_related e (.refl _)
  | pollTimerExpiry h =>
    exact ite_claimsKept e fun _ c => serveTag_claimsKept _ _ (setTag_claimsKept_of_eq rfl c)
  | quietTimerExpiry h =>
    exact ite_claimsKept e fun _ c => serveTag_claimsKept _ _ (setTag_claimsKept_of_eq rfl c)
  | stopKey h pressed =>
    have keyed (x : Panel) : ClaimsKept s (s.setPanel x) := (setPanel_only _ _).claimsKept
    simp only [exec, execStopKey] at e
    split at e
    · exact next_related e (.refl _)
    · split at e
      · exact next_related e ((keyed _).trans (endDelivery_claimsKept _ _ _))
      · exact next_related e (keyed _)
  | clearKey pressed =>
    have keyed (x : Panel) : ClaimsKept s (s.setPanel x) := (setPanel_only _ _).claimsKept
    simp only [exec, execClearKey] at e
    split at e
    · exact next_related e (.refl _)
    · split at e
      · exact next_related e ((keyed _).trans (clearPress_claimsKept _))
      · exact next_related e (keyed _)
  | emergencyStopActive =>
    exact next_related e (ClaimsKept.trans (setPanel_only _ _).claimsKept
      ((endDelivery_claimsKept _ _ _).trans (endDelivery_claimsKept _ _ _)))
  | issueFrame x => exact next_related e (receive_claimsKept _ _ _)
  | serviceFrame x => exact next_related e (receive_claimsKept _ _ _)
  | vehicleNoticeFrame x => exact next_related e (receive_claimsKept _ _ _)
  | classNoticeFrame x => exact next_related e (receive_claimsKept _ _ _)
  | cleanReadBack => exact ite_claimsKept e fun _ => cleanEnd_claimsKept _
  | ringSlotWritten =>
    simp only [exec, execRingSlotWritten] at e
    split at e
    · split at e
      · exact next_related e (.refl _)
      · exact next_related e fun c => setJournal_claimsKept rfl (setMem_claimsKept _ _ c)
    · exact next_related e (.refl _)
  | appendComplete =>
    simp only [exec, execAppendComplete] at e
    split at e
    · rename_i src pos serial r served
      split at e
      · exact ite_claimsKept e fun _ => issueAppended_claimsKept served
      · rename_i other
        split at e
        · exact next_related e (appendDone_claimsKept served other)
        · exact next_related e fun c => appendDone_claimsKept (by exact served) other (setMem_claimsKept _ _ c)
    · exact next_related e (.refl _)
  | openSlotWriteComplete =>
    simp only [exec, execOpenSlotWriteComplete] at e
    split at e
    · exact next_related e (openSlotWritten_claimsKept _ _ ‹_›)
    · exact next_related e (openSlotWritten_claimsKept _ _ ‹_›)
    · exact next_related e (openSlotWritten_claimsKept _ _ ‹_›)
    · exact next_related e (.refl _)
  | planWriteComplete =>
    simp only [exec, execPlanWriteComplete] at e
    split at e
    · exact next_related e fun c => afterService_claimsKept (by assumption) rfl (setMem_claimsKept _ _ c)
    · exact next_related e (.refl _)
  | headerWriteComplete =>
    simp only [exec, execHeaderWriteComplete] at e
    split at e
    · exact next_related e fun c => endScan_claimsKept _
        (afterService_claimsKept (by assumption) rfl (setMem_claimsKept _ _ c))
    · exact next_related e (.refl _)
  | sendReadComplete o =>
    simp only [exec, execSendReadComplete] at e
    split at e
    · split at e
      · exact next_related e fun c => readEnded_claimsKept _ (by assumption) (setMem_claimsKept _ _ c)
      · cases e
    · exact next_related e (.refl _)
  | memoryOpFailed => exact next_related e (operationFails_claimsKept _)
  | memoryOpTimeout => exact next_related e (operationFails_claimsKept _)
  | scanTimerExpiry => exact ite_claimsKept e fun _ => startScan_claimsKept _
  | converterResponse n ch code =>
    simp only [exec, execConverterResponse] at e
    split at e
    · split at e
      · exact next_related e (.refl _)
      · exact ite_claimsKept e fun _ => goodResponse_claimsKept _ _ _ _
    · exact next_related e (.refl _)
  | failedStockTest => exact ite_claimsKept e fun _ => testStock_claimsKept _
  | submitVehicleNotice f => exact next_related e (submitFrame_claimsKept _ _ _ _)
  | submitClassNotice f => exact next_related e (submitFrame_claimsKept _ _ _ _)
  | submitService f => exact next_related e (submitFrame_claimsKept _ _ _ _)
  | _ =>
    exact (exec_only e).claimsKept (by simp [touched]) (by simp [touched]) (by simp [touched]) (by simp [touched])
      (by simp [touched])

/-- One step of the block keeps the conditions. -/
theorem step_claimsKept (r : s.reservationsOk) (e : step s = .next t) : ClaimsKept s t := by
  obtain rfl | ⟨c, rest, -, ran⟩ := step_cases e
  · refine .of_same ?_ ?_ (fun k => ?_) ?_
    all_goals
      unfold State.tick
      split <;> rfl
  · have taken : ClaimsKept s { s with pending := rest } := .of_same rfl rfl (fun _ => rfl) rfl
    exact taken.trans (exec_claimsKept r ran)

theorem claimsOk_step (r : s.reservationsOk) (ok : s.claimsOk) (e : step s = .next t) : t.claimsOk := by
  have still (early : s.early) (k : Side) : (s.hose k).state = .start :=
    hose_start_of_stage r (by rcases early with e | e <;> simp [e]) k
  exact (step_claimsKept r e (ok.covered still)).claimsOk

/-- A live delivery's claim waits for a slot (R147). -/
theorem live_le_claimWaits (ok : s.cycleOk h) : bitCode (s.hose h).state.live ≤ bitCode (s.claimWaits h) := by
  cases live : (s.hose h).state.live with
  | false => exact Nat.zero_le _
  | true =>
    obtain ⟨delivered, appended, -⟩ := ((cycleOk_iff s h).1 ok).of_live live
    rw [bitCode_claimWaits, State.waits, appended, CycleView.waits_of_delivered delivered]
    rfl

/-- Settles O7: each command keeps the claims that wait, and so the live deliveries, at most the reclaimable slots. -/
theorem reclaimableSlotsCoverClaims : Obligations.ReclaimableSlotsCoverClaims := by
  refine ⟨fun s t r ok e => claimsOk_step r ok e, fun s ok => ?_⟩
  obtain ⟨cycle, -, -, -, slots, -, -⟩ := ok
  calc bitCode (s.hose .one).state.live + bitCode (s.hose .two).state.live
      ≤ s.claimsWaiting := Nat.add_le_add (live_le_claimWaits (cycle _)) (live_le_claimWaits (cycle _))
    _ ≤ s.journal.reclaimable s.cfg.nj := slots

end

end Sys2Proof.Machine

namespace Sys2Proof.Machine

set_option Elab.async false

/-! ### The plan area is loaded (R67, R170, R176) -/

section
variable {s : State}

/-- A class record after the load: what its place in the plan area holds, or the empty class. -/
theorem loadPlans_classRecord (s : State) (failed : BitVec 8) {k : Nat} (inside : k < 8) :
    (s.loadPlans failed).classRecord k = s.planRecord failed k := by
  show ((List.range 8).map (s.planRecord failed)).getD k _ = _
  simp [inside]

theorem started_timer (u : ScanUnit) (now window : Nat) :
    (u.started now window).timer = some (now + 1000) := by
  cases list : u.list with
  | nil => rw [started_of_nil list]
  | cons e rest => rw [started_of_cons list]

theorem startScan_scan (s : State) : s.startScan.scan = s.scan.started s.elapsed s.cfg.responseWindow :=
  (testStock_only (s.setScan _)).scan_eq

theorem exec_planAreaLoad_configFault {outside : List Host.Cell} (failed : BitVec 8)
    (cells : cellsInMemory outside = true) (stage : s.start.stage = .configFault) :
    exec (.planAreaLoad outside failed) s = .next ((s.setMem (memSetCells s.mem outside)).loadPlans failed) :=
  have notConfig : s.start.stage ≠ .config := by simp [stage]
  (if_pos (.inr stage)).trans ((if_pos cells).trans (if_neg fun config => notConfig config.1))

theorem exec_planAreaLoad_config {outside : List Host.Cell} (failed : BitVec 8)
    (cells : cellsInMemory outside = true) (stage : s.start.stage = .config) (good : s.start.recordGood = true) :
    exec (.planAreaLoad outside failed) s = .next
      (((s.setMem (memSetCells s.mem outside)).loadPlans failed).setStart
        { s.start with stage := .journalScan }).startScan :=
  (if_pos (.inl ⟨stage, good⟩)).trans ((if_pos cells).trans (if_pos ⟨stage, good⟩))

end

/-- Settles O14: the load fills the class table; in CONFIG the stage and the first scan follow, and neither reaches
the table or the memory. -/
theorem planAreaIsLoaded : Obligations.PlanAreaIsLoaded := by
  rintro outside failed s m cells rfl stage
  let loaded := (s.setMem (memSetCells s.mem outside)).loadPlans failed
  have record (k : Nat) (inside : k < 8) : loaded.classRecord k = if failed.getLsbD k then ClassRecord.empty
      else decodePlan (memReadBytes (memSetCells s.mem outside) (256 + 64 * k) 64) :=
    loadPlans_classRecord _ failed inside
  have load : Only [.mem, .classes] s loaded := (setMem_only _ _).next (loadPlans_only _ _)
  obtain stage | ⟨stage, good⟩ := stage
  · exact ⟨loaded, exec_planAreaLoad_configFault failed cells stage, rfl, record, rfl, rfl, fun _ => load,
      fun config => absurd (stage.symm.trans config) nofun⟩
  · let scanning := loaded.setStart { s.start with stage := .journalScan }
    have scan : Only [.scan, .hoses] scanning scanning.startScan := startScan_only _
    refine ⟨scanning.startScan, exec_planAreaLoad_config failed cells stage good, scan.mem_eq, fun k inside => ?_, ?_,
      ?_, fun fault => absurd (stage.symm.trans fault) nofun, fun _ => ⟨scan.start_eq, ?_,
      load.next ((setStart_only _ _).next (bs := [.start, .scan, .hoses]) scan)⟩⟩
    · rw [classRecord_of_records (congrArg Classes.records scan.classes_eq)]
      exact record k inside
    · rw [scan.classes_eq]
      rfl
    · rw [scan.classes_eq]
      rfl
    · rw [startScan_scan]
      exact started_timer _ _ _

end Sys2Proof.Machine

namespace Sys2Proof.Machine

set_option Elab.async false

/-! ### The scan timer, the timeout and the stock test (R161 to R164, R169) -/

/-- A hose controller after the test of R169, by whether the stock of its tank is KNOWN. -/
def Hose.stockTested (x : Hose) (known : Bool) : Hose :=
  match x.delivery with
  | none => x
  | some d =>
    if x.state.open && !known then { x with delivery := some { d with flags := { d.flags with stockUnknown := true } } }
    else x

theorem stockTested_of_unknown {x : Hose} {d : Delivery} (delivery : x.delivery = some d)
    (opened : x.state.open = true) : x.stockTested false =
      { x with delivery := some { d with flags := { d.flags with stockUnknown := true } } } := by
  simp [Hose.stockTested, delivery, opened]

theorem stockTested_stands {x : Hose} {known : Bool}
    (stands : x.delivery = none ∨ x.state.open = false ∨ known = true) : x.stockTested known = x := by
  unfold Hose.stockTested
  split
  · rfl
  · next d delivery =>
    obtain absent | shut | rfl := stands
    · simp [absent] at delivery
    · simp [shut]
    · simp

section
variable {s t : State}

/-- The stock state is read off the samples and the time alone (R166, R168). -/
theorem Only.stockKnown_eq {bs : List Block} (e : Only bs s t) (k : Side) (scan : Block.scan ∉ bs := by decide)
    (elapsed : Block.elapsed ∉ bs := by decide) : t.stockKnown k = s.stockKnown k := by
  simp only [State.stockKnown, State.sample, State.fresh, e.scan_eq scan, e.elapsed_eq elapsed]

theorem testStockAt_hose_self (s : State) (h : Side) :
    (s.testStockAt h).hose h = (s.hose h).stockTested (s.stockKnown (s.hoseCfg h).tank) := by
  cases delivery : (s.hose h).delivery with
  | none => simp only [State.testStockAt, Hose.stockTested, delivery]
  | some d =>
    simp only [State.testStockAt, Hose.stockTested, delivery]
    split
    · exact State.setHose_hose_self _ _ _
    · rfl

theorem testStockAt_hose_other (s : State) (h : Side) : (s.testStockAt h).hose h.other = s.hose h.other := by
  unfold State.testStockAt
  dsimp only
  split
  · rfl
  · split
    · exact State.setHose_hose_other _ _ _
    · rfl

/-- Both hoses tested in turn: each is tested as if it were the only one. -/
theorem testStock_hose (s : State) (h : Side) :
    s.testStock.hose h = (s.hose h).stockTested (s.stockKnown (s.hoseCfg h).tank) := by
  cases h with
  | one => exact (testStockAt_hose_other _ .two).trans (testStockAt_hose_self s .one)
  | two =>
    have first : Only [.hoses] s (s.testStockAt .one) := testStockAt_only _ _
    calc s.testStock.hose .two
        = ((s.testStockAt .one).hose .two).stockTested
            ((s.testStockAt .one).stockKnown ((s.testStockAt .one).hoseCfg .two).tank) := testStockAt_hose_self _ _
      _ = (s.hose .two).stockTested (s.stockKnown (s.hoseCfg .two).tank) := by
        rw [first.stockKnown_eq, first.hoseCfg_eq, show (s.testStockAt .one).hose .two = s.hose .two from
          testStockAt_hose_other s .one]

theorem exec_scanTimerExpiry_of_shut (running : s.scan.timer.isSome = true)
    (shut : ∀ h, (s.hose h).state.open = false) :
    exec .scanTimerExpiry s = .next (s.setScan (s.scan.started s.elapsed s.cfg.responseWindow)) := by
  rw [← startScan_of_shut shut]
  exact if_pos running

theorem exec_converterWindowExpiry (running : s.scan.state = .running) (window : s.scan.window.isSome = true) :
    exec .converterWindowExpiry s = .next (s.setScan s.scan.timeout) := if_pos ⟨running, window⟩

theorem exec_failedStockTest (failed : s.scan.state = .failed) : exec .failedStockTest s = .next s.testStock :=
  if_pos failed

/-- A timeout ends the scan; the third in a row makes it FAILED and stops the timer (R163, R164). -/
theorem timeout_eq (u : ScanUnit) : u.timeout = { u with
    timedOut := true, current := none, window := none, timeouts := u.timeouts + 1
    state := if 3 ≤ u.timeouts + 1 then .failed else .waiting
    timer := if 3 ≤ u.timeouts + 1 then none else u.timer } := by
  unfold ScanUnit.timeout
  dsimp only
  split <;> rfl

end

/-- Settles O53: a scan that starts by its list, the timeout by the count, and the stock test hose by hose. -/
theorem scanTimerTimeoutAndTest : Obligations.ScanTimerTimeoutAndTest := by
  refine ⟨fun s => ⟨fun running shut => ?_, fun running window => ?_⟩, fun s failed => ?_⟩
  · exact ⟨_, exec_scanTimerExpiry_of_shut running shut, fun e rest list => started_of_cons list _ _,
      fun list => started_of_nil list _ _, setScan_only _ _⟩
  · exact ⟨_, exec_converterWindowExpiry running window, timeout_eq _, setScan_only _ _⟩
  · refine ⟨_, exec_failedStockTest failed, fun h d delivery opened unknown => ?_, fun h stands => ?_,
      testStock_only _⟩
    · rw [testStock_hose, unknown, stockTested_of_unknown delivery opened]
    · rw [testStock_hose, stockTested_stands stands]

end Sys2Proof.Machine

namespace Sys2Proof.Machine

set_option Elab.async false

/-! ### One step (R137; notes/assumptions/7) -/

section
variable {s : State}

theorem step_of_front {c : Instr} {rest : List Instr} (queue : s.pending = c :: rest) :
    step s = exec c { s with pending := rest } := by
  simp only [step, queue]

theorem step_of_empty (queue : s.pending = []) : step s = .next s.tick := by
  simp only [step, queue]

theorem tick_of_hold (stage : s.start.stage = .hold) : s.tick = s := if_pos stage

/-- Outside HOLD the elapsed base advances, and site time at its whole seconds (R137). -/
theorem tick_of_not_hold (stage : s.start.stage ≠ .hold) : s.tick = { s with
    elapsed := s.elapsed + 1
    line := { s.line with
      siteTime := if s.line.running = true ∧ (s.elapsed + 1) % 1000 = 0 then s.line.siteTime + 1
        else s.line.siteTime } } := by
  rw [State.tick, if_neg stage]
  dsimp only
  split <;> rfl

theorem tick_only (s : State) : Only [.elapsed, .line] s s.tick := by
  intro b hb
  by_cases stage : s.start.stage = .hold
  · rw [tick_of_hold stage]
    exact Only.refl _ _ b hb
  · rw [tick_of_not_hold stage]
    cases b <;> simp [State.agree] at hb ⊢

end

/-- Settles O1: the front command runs, and an empty queue ticks. -/
theorem stepTakesFrontOrTicks : Obligations.StepTakesFrontOrTicks := by
  refine ⟨fun c rest s queue => step_of_front queue, fun s queue => ⟨s.tick, step_of_empty queue, tick_of_hold,
    fun stage => ⟨?_, ?_, tick_only s⟩⟩⟩
  · rw [tick_of_not_hold stage]
  · rw [tick_of_not_hold stage]

/-- Settles O2: the frame of each command, command by command. -/
theorem commandsTouchOnlyTheirBlocks : Obligations.CommandsTouchOnlyTheirBlocks := fun _ _ _ => exec_only

end Sys2Proof.Machine

namespace Sys2Proof.Machine

set_option Elab.async false

/-! ### The cause of a start (R171) -/

theorem moreSevere_powerStart (c : Cause) : c.moreSevere .powerStart = .powerStart := by cases c <;> rfl

theorem moreSevere_supplyDip (c : Cause) :
    c.moreSevere .supplyDip = if c = .powerStart then .powerStart else .supplyDip := by cases c <;> rfl

theorem moreSevere_resetLine (c : Cause) : c.moreSevere .resetLine = c := by cases c <;> rfl

section
variable {s : State}

theorem causeOf_of_hold (stage : s.start.stage = .hold) (c : Cause) : s.causeOf c = s.start.cause.moreSevere c :=
  if_pos stage

theorem causeOf_of_not_hold (stage : s.start.stage ≠ .hold) (c : Cause) : s.causeOf c = c := if_neg stage

theorem exec_powerStart (s : State) :
    exec .powerStart s = .next (s.startWith (s.causeOf .powerStart) false s.start.resetActive) := rfl

theorem exec_supplyDip (s : State) :
    exec .supplyDip s = .next (s.startWith (s.causeOf .supplyDip) false s.start.resetActive) := rfl

theorem exec_resetLine (s : State) :
    exec .resetLine s = .next (s.startWith (s.causeOf .resetLine) s.start.supplyGood true) := rfl

/-! ### The blocks at a start (R28, R86, R140, R159, R181) -/

theorem fleet_atStart (f : Fleet) (c : Cause) :
    f.atStart c = ⟨if c = .resetLine then f.entries else [], 0, 0, 0⟩ := by
  unfold Fleet.atStart
  split <;> rfl

theorem line_atStart (l : SiteLine) (c : Cause) : l.atStart c = { SiteLine.reset with
    peers := if c = .resetLine then l.peers.map fun p => { p with live := false, lastHeard := none } else []
    siteTime := if c = .resetLine then l.siteTime else 0 } := by
  unfold SiteLine.atStart
  split <;> rfl

theorem startWith_start (s : State) (c : Cause) (good active : Bool) :
    (s.startWith c good active).start = .atStart c good active := rfl

theorem startWith_hose_atStart (s : State) (c : Cause) (good active : Bool) (h : Side) :
    (s.startWith c good active).hose h = (s.hose h).atStart c := by
  rw [← (tearWrite_only s).hose_eq h]
  cases h <;> rfl

theorem startWith_fleet (s : State) (c : Cause) (good active : Bool) :
    (s.startWith c good active).fleet = ⟨if c = .resetLine then s.fleet.entries else [], 0, 0, 0⟩ := by
  rw [← (tearWrite_only s).fleet_eq]
  exact fleet_atStart _ c

theorem startWith_line (s : State) (c : Cause) (good active : Bool) :
    (s.startWith c good active).line = { SiteLine.reset with
      peers := if c = .resetLine then s.line.peers.map fun p => { p with live := false, lastHeard := none } else []
      siteTime := if c = .resetLine then s.line.siteTime else 0 } := by
  rw [← (tearWrite_only s).line_eq]
  exact line_atStart _ c

/-- The blocks of one hose that a start resets whole: its meter unit, its tag unit, its reservation and its tank. -/
theorem startWith_side (s : State) (c : Cause) (good active : Bool) (h : Side) :
    (s.startWith c good active).meter h = .reset ∧ (s.startWith c good active).tag h = .reset ∧
      (s.startWith c good active).reservation h = none ∧ (s.startWith c good active).tanks.get h = ⟨none⟩ := by
  cases h <;> exact ⟨rfl, rfl, rfl, rfl⟩

/-- With no operation in service there is no write to cut short (R159). -/
theorem tearWrite_of_idle (idle : s.journal.inService = none) : s.tearWrite = s := by
  simp only [State.tearWrite, idle, Option.bind_none]

theorem startWith_memory_of_idle (idle : s.journal.inService = none) (c : Cause) (good active : Bool) :
    (s.startWith c good active).mem = s.mem ∧ (s.startWith c good active).draws = s.draws :=
  ⟨(congrArg State.mem (tearWrite_of_idle idle) : s.tearWrite.mem = s.mem),
    (congrArg State.draws (tearWrite_of_idle idle) : s.tearWrite.draws = s.draws)⟩

end

/-- Settles O10: each of the three starts is a `startWith`, told apart by its cause; in HOLD that is the more severe. -/
theorem startsBegin : Obligations.StartsBegin := by
  refine ⟨fun s c cause good active stage start => ?_, fun s stage => ⟨?_, ?_, ?_⟩⟩
  · have ran : exec c s = .next (s.startWith cause good active) := by
      rw [← causeOf_of_not_hold stage cause]
      obtain ⟨rfl, rfl, rfl, rfl⟩ | ⟨rfl, rfl, rfl, rfl⟩ | ⟨rfl, rfl, rfl, rfl⟩ := start
      · exact exec_powerStart s
      · exact exec_supplyDip s
      · exact exec_resetLine s
    have waits : (good && !active) = false := by
      obtain ⟨-, -, rfl, -⟩ | ⟨-, -, rfl, -⟩ | ⟨-, -, -, rfl⟩ := start
      · exact Bool.false_and _
      · exact Bool.false_and _
      · exact Bool.and_false _
    have frame := startWith_only s cause good active
    refine ⟨_, ran, ?_, startWith_hose_atStart s cause good active, startWith_side s cause good active,
      startWith_fleet s cause good active, rfl, startWith_line s cause good active, rfl, rfl, rfl, rfl,
      frame.cfg_eq, frame.elapsed_eq, (frame .pending (by decide)).symm,
      fun idle => startWith_memory_of_idle idle cause good active⟩
    rw [startWith_start, StartCtl.atStart, waits]
    rfl
  · refine ⟨_, exec_powerStart s, rfl, ?_, ?_⟩
    · exact (causeOf_of_hold stage _).trans (moreSevere_powerStart _)
    · rw [startWith_fleet, causeOf_of_hold stage, moreSevere_powerStart]
      rfl
  · refine ⟨_, exec_supplyDip s, rfl, ?_, ?_⟩
    · exact (causeOf_of_hold stage _).trans (moreSevere_supplyDip _)
    · rw [startWith_fleet, causeOf_of_hold stage, moreSevere_supplyDip]
      cases s.start.cause <;> rfl
  · refine ⟨_, exec_resetLine s, rfl, ?_, ?_⟩
    · exact (causeOf_of_hold stage _).trans (moreSevere_resetLine _)
    · rw [startWith_fleet, causeOf_of_hold stage, moreSevere_resetLine]

end Sys2Proof.Machine

namespace Sys2Proof.Machine

set_option Elab.async false

/-! ### HOLD (R173) -/

section
variable {s : State}

theorem exec_supplyRisesAboveThreshold (s : State) : exec .supplyRisesAboveThreshold s = .next (s.setStart
    { s.start with
      supplyGood := true, holdCounting := decide (s.start.stage = .hold) && !s.start.resetActive }) := rfl

theorem exec_resetLineInactive (s : State) : exec .resetLineInactive s = .next (s.setStart { s.start with
    resetActive := false, holdCounting := decide (s.start.stage = .hold) && s.start.supplyGood }) := rfl

theorem exec_holdEnd (x : LineLevels) (stage : s.start.stage = .hold) (counting : s.start.holdCounting = true) :
    exec (.holdEnd x) s = .next (s.leaveHold x) := if_pos ⟨stage, counting⟩

theorem leaveHold_hose (s : State) (x : LineLevels) (h : Side) :
    (s.leaveHold x).hose h = { s.hose h with hook := if x.hung.get h then .hung else .lifted } := by
  cases h <;> rfl

theorem leaveHold_meter (s : State) (x : LineLevels) (h : Side) :
    (s.leaveHold x).meter h = { s.meter h with
      levelA := x.channelA.get h, levelB := x.channelB.get h, lastEdge := none } := by
  cases h <;> rfl

theorem leaveHold_tag (s : State) (x : LineLevels) (h : Side) :
    (s.leaveHold x).tag h = { s.tag h with quiet := some 250 } := by
  cases h <;> rfl

end

/-- Settles O12: the inputs change the start controller alone, and HOLD_END takes the levels hose by hose. -/
theorem holdAndItsInputs : Obligations.HoldAndItsInputs := by
  refine ⟨fun s => ⟨?_, ?_⟩, fun x s stage counting => ?_⟩
  · exact ⟨_, exec_supplyRisesAboveThreshold s, rfl, setStart_only _ _⟩
  · exact ⟨_, exec_resetLineInactive s, rfl, setStart_only _ _⟩
  · exact ⟨_, exec_holdEnd x stage counting, rfl, rfl, leaveHold_hose s x, leaveHold_meter s x, leaveHold_tag s x,
      rfl, leaveHold_only s x⟩

end Sys2Proof.Machine

namespace Sys2Proof.Machine

set_option Elab.async false

/-! ### CONFIG (R172, R175, R177) -/

section
variable {s : State} {outside : List Host.Cell}

theorem readingConfig_of_config (stage : s.start.stage = .config) (unread : s.start.recordGood = false) :
    s.readingConfig = true := by
  simp [State.readingConfig, stage, unread]

theorem exec_configAreaRead_failed (outside : List Host.Cell) (reading : s.readingConfig = true) :
    exec (.configAreaRead outside true) s = .next (s.enterConfigFault .readFailed 9600) :=
  (if_pos reading).trans (if_pos rfl)

theorem exec_configAreaRead_read (reading : s.readingConfig = true) (cells : cellsInMemory outside = true) :
    exec (.configAreaRead outside false) s = .next (s.setMem (memSetCells s.mem outside)).judgeConfig :=
  (if_pos reading).trans ((if_neg Bool.false_ne_true).trans (if_pos cells))

theorem judgeConfig_good (good : configFault (memReadBytes s.mem 0 256) = none) :
    s.judgeConfig = s.loadConfig (decodeConfig (memReadBytes s.mem 0 256)) := by
  simp only [State.judgeConfig, good]

theorem judgeConfig_bad {r : ConfigFaultReason} (bad : configFault (memReadBytes s.mem 0 256) = some r) :
    s.judgeConfig = s.enterConfigFault r (decodeConfig (memReadBytes s.mem 0 256)).lineRate := by
  simp only [State.judgeConfig, bad]

/-- The lead of a hose under a new record: the record's but after a RESET LINE start (R27, R175). -/
theorem loadConfig_hose (s : State) (c : ConfigRecord) (h : Side) : (s.loadConfig c).hose h = { s.hose h with
    lead := if (c.hoses.get h).present = true ∧ s.start.cause ≠ .resetLine then (c.hoses.get h).lead
      else (s.hose h).lead } := by
  have each (x : Hose) (g : HoseConfig) : x.configured g s.start.cause =
      { x with lead := if g.present = true ∧ s.start.cause ≠ .resetLine then g.lead else x.lead } := by
    unfold Hose.configured
    split <;> rfl
  cases h <;> exact each _ _

theorem loadConfig_meter (s : State) (c : ConfigRecord) (h : Side) : (s.loadConfig c).meter h =
    if (c.hoses.get h).present then s.meter h
    else { Meter.reset with levelA := (s.meter h).levelA, levelB := (s.meter h).levelB } := by
  cases h <;> rfl

/-- The rate of a record is that of the byte at address 1, and 9,600 where that byte gives none (R177, 12.6). -/
theorem decodeConfig_lineRate (m : List Host.Cell) :
    (decodeConfig (memReadBytes m 0 256)).lineRate = (rateOf (memRead m 1).toNat).getD 9600 := rfl

end

/-- Settles O13: a record read is judged; a good one is loaded block by block, a bad one and a failed read end CONFIG. -/
theorem configIsJudged : Obligations.ConfigIsJudged := by
  refine ⟨?_, ?_⟩
  · rintro outside s m c stage unread cells rfl good rfl
    let read := s.setMem (memSetCells s.mem outside)
    have ran : exec (.configAreaRead outside false) s = .next (read.loadConfig _) :=
      (exec_configAreaRead_read (readingConfig_of_config stage unread) cells).trans
        (congrArg _ (judgeConfig_good (s := read) good))
    exact ⟨_, ran, rfl, rfl, rfl, rfl, loadConfig_hose _ _, loadConfig_meter _ _, rfl,
      (setMem_only _ _).next (loadConfig_only _ _)⟩
  · rintro outside s m r stage unread cells rfl
    have reading := readingConfig_of_config stage unread
    refine ⟨⟨_, exec_configAreaRead_failed outside reading, rfl, rfl, rfl, enterConfigFault_only _ _ _⟩,
      fun bad => ?_⟩
    let read := s.setMem (memSetCells s.mem outside)
    have ran : exec (.configAreaRead outside false) s = .next (read.enterConfigFault r _) :=
      (exec_configAreaRead_read reading cells).trans (congrArg _ (judgeConfig_bad (s := read) bad))
    refine ⟨_, ran, rfl, rfl, ?_, (setMem_only _ _).next (enterConfigFault_only _ _ _)⟩
    refine congrArg (fun rate => { s.line with rate })
      ((decodeConfig_lineRate (memSetCells s.mem outside)).trans ?_)
    generalize (memRead (memSetCells s.mem outside) 1).toNat = code
    match code with
    | 0 | 1 | 2 | 3 | _ + 4 => rfl

end Sys2Proof.Machine

namespace Sys2Proof.Machine

/-! ### The status frame (R182, 12.7) -/

section
variable {s : State}

theorem hoseStatus_length (s : State) (h : Side) : (s.hoseStatus h).length = 16 := by
  simp [State.hoseStatus, natToBytes_length, encodeFields_length, widthSum]

theorem tankStatus_length (s : State) (t : Side) : (s.tankStatus t).length = 4 := by
  simp [State.tankStatus, encodeFields_length, widthSum]

theorem statusBody_length (s : State) : s.statusBody.length = 46 := by
  simp [State.statusBody, natToBytes_length, encodeFields_length, widthSum, hoseStatus_length, tankStatus_length]

theorem statusFrame_length (s : State) : s.statusFrame.length = 50 := by
  simp [State.statusFrame, withCheck_length, natToBytes_length, statusBody_length]

/-- The status frame shows no item of the panel. -/
theorem setPanel_statusFrame (s : State) (x : Panel) : (s.setPanel x).statusFrame = s.statusFrame := rfl

theorem answerRequest_sends (latched : s.panel.latch = true) (free : s.panel.frame = none) :
    s.answerRequest = s.setPanel { s.panel with latch := false, frame := some s.statusFrame } :=
  if_pos ⟨latched, free⟩

theorem answerRequest_of_sending {f : List Byte} (sending : s.panel.frame = some f) : s.answerRequest = s :=
  if_neg fun both => by rw [sending] at both; exact nomatch both.2

theorem answerRequest_of_unlatched (unlatched : s.panel.latch = false) : s.answerRequest = s :=
  if_neg fun both => by rw [unlatched] at both; exact nomatch both.1

theorem exec_updateRequest (leftHold : s.start.stage ≠ .hold) :
    exec .updateRequest s = .next (s.setPanel { s.panel with latch := true }).answerRequest := if_neg leftHold

theorem exec_statusFrameEnd (s : State) :
    exec .statusFrameEnd s = .next (s.setPanel { s.panel with frame := none }).answerRequest := rfl

end

/-- Settles O55: the latch is answered where no frame is being sent, by the request or by the frame's end. -/
theorem statusFrameIsAnswered : Obligations.StatusFrameIsAnswered := by
  intro s
  have frames (x : Panel) : Only [.panel] s (s.setPanel x).answerRequest :=
    (setPanel_only s x).trans (answerRequest_only _)
  refine ⟨fun leftHold => ⟨_, exec_updateRequest leftHold, fun free => ?_, fun f sending => ?_, frames _⟩,
    ⟨_, exec_statusFrameEnd s, fun latched => ?_, fun unlatched => ?_, frames _⟩, statusFrame_length s⟩
  · rw [answerRequest_sends rfl (by exact free), setPanel_statusFrame]
    rfl
  · rw [answerRequest_of_sending (by exact sending)]
    rfl
  · rw [answerRequest_sends (by exact latched) rfl, setPanel_statusFrame]
    rfl
  · rw [answerRequest_of_unlatched (by exact unlatched)]
    rfl

/-! ### SET TIME (R186) -/

/-- A SET TIME whose time is not earlier than site time sets it, and is answered ACCEPTED. -/
theorem setSiteTime_accepted {s : State} {t : Nat} (notEarlier : s.line.siteTime ≤ t) :
    s.setSiteTime t = (s.setLine { s.line with siteTime := t, confirmed := true }).reply none :=
  if_neg (Nat.not_lt.2 notEarlier)

theorem exec_setTime {s : State} {bytes frame body : List Byte} (takes : s.takesSubmission = true)
    (taken : frameTaken bytes = some frame) (whole : submissionBody .setTime frame = some body) :
    exec (.setTime bytes) s = .next ((s.takeInHand frame).setSiteTime (bytesToNat body)) :=
  congrArg Host.Outcome.next (hearSubmission_takes taken takes (by rw [whole]; rfl))

theorem reply_notice (s : State) (r : Option SubmissionRefusal) : (s.reply r).notice =
    if s.notice.output = none then { s.notice with output := some (.reply (replyFrame r)), reply := none }
    else { s.notice with reply := some (replyFrame r) } := feed_reply _ _

/-- Settles O58: the time is set, and ACCEPTED goes out as any reply does. -/
theorem setTimeIsAccepted : Obligations.SetTimeIsAccepted := by
  intro s bytes frame body takes taken whole notEarlier
  have ran := exec_setTime takes taken whole
  rw [setSiteTime_accepted (by exact notEarlier)] at ran
  refine ⟨_, ran, rfl, fun free => ?_, fun occupied => ?_,
    ((takeInHand_only s frame).next (setLine_only _ _)).trans (reply_only _ _).mono⟩
  · exact (reply_notice _ none).trans (if_pos free)
  · exact (reply_notice _ none).trans (if_neg occupied)

/-! ### The output line of the notice port (R187) -/

section
variable {n : NoticePort} {item : List Byte} {items : List (List Byte)}

@[simp] theorem NoticePort.feed_inHand (n : NoticePort) : n.feed.inHand = n.inHand := by
  unfold NoticePort.feed
  split <;> rfl

@[simp] theorem NoticePort.feed_inputBuffer (n : NoticePort) : n.feed.inputBuffer = n.inputBuffer := by
  unfold NoticePort.feed
  split <;> rfl

@[simp] theorem NoticePort.feed_countsTimer (n : NoticePort) : n.feed.countsTimer = n.countsTimer := by
  unfold NoticePort.feed
  split <;> rfl

theorem feed_of_waitingReply {r : List Byte} (free : n.output = none) (waits : n.reply = some r) :
    n.feed = { n with output := some (.reply r), reply := none } := by
  unfold NoticePort.feed
  rw [free, waits]

theorem feed_of_waitingItem {rest : List (List Byte)} (free : n.output = none) (noReply : n.reply = none)
    (waits : n.monitor = item :: rest) :
    n.feed = { n with output := some (.item (frameOf 8 0 item)), monitor := rest } := by
  unfold NoticePort.feed
  rw [free, noReply, waits]

theorem feed_of_nothingWaiting (noReply : n.reply = none) (noItem : n.monitor = []) : n.feed = n := by
  unfold NoticePort.feed
  rw [noReply, noItem]
  cases n.output <;> rfl

theorem feed_of_occupied (occupied : n.output ≠ none) : n.feed = n := by
  obtain ⟨x, on⟩ := Option.ne_none_iff_exists'.1 occupied
  unfold NoticePort.feed
  rw [on]

/-- The end of what is on the line frees the line, which then takes what waits. -/
theorem outputEnd_feeds (occupied : n.output ≠ none) : ∃ inHand inputBuffer, n.outputEnd =
    ({ n with output := none, inHand := inHand, inputBuffer := inputBuffer } : NoticePort).feed := by
  obtain ⟨x, on⟩ := Option.ne_none_iff_exists'.1 occupied
  unfold NoticePort.outputEnd
  rw [on]
  cases x with
  | reply f => exact ⟨_, _, rfl⟩
  | item f => exact ⟨n.inHand, n.inputBuffer, rfl⟩

theorem outputEnd_of_waitingReply {r : List Byte} (occupied : n.output ≠ none) (waits : n.reply = some r) :
    n.outputEnd.output = some (.reply r) ∧ n.outputEnd.reply = none ∧ n.outputEnd.monitor = n.monitor := by
  obtain ⟨_, _, ended⟩ := outputEnd_feeds occupied
  rw [ended, feed_of_waitingReply rfl (by exact waits)]
  exact ⟨rfl, rfl, rfl⟩

theorem outputEnd_of_waitingItem {rest : List (List Byte)} (occupied : n.output ≠ none) (noReply : n.reply = none)
    (waits : n.monitor = item :: rest) :
    n.outputEnd.output = some (.item (frameOf 8 0 item)) ∧ n.outputEnd.monitor = rest := by
  obtain ⟨_, _, ended⟩ := outputEnd_feeds occupied
  rw [ended, feed_of_waitingItem rfl (by exact noReply) (by exact waits)]
  exact ⟨rfl, rfl⟩

theorem outputEnd_of_nothingWaiting (occupied : n.output ≠ none) (noReply : n.reply = none)
    (noItem : n.monitor = []) : n.outputEnd.output = none := by
  obtain ⟨_, _, ended⟩ := outputEnd_feeds occupied
  rw [ended, feed_of_nothingWaiting (by exact noReply) (by exact noItem)]

/-- After a reply no submission is in hand (R184). -/
theorem outputEnd_reply {f : List Byte} (on : n.output = some (.reply f)) :
    n.outputEnd.inHand = false ∧ n.outputEnd.inputBuffer = [] := by
  unfold NoticePort.outputEnd
  rw [on]
  exact ⟨NoticePort.feed_inHand _, NoticePort.feed_inputBuffer _⟩

theorem outputEnd_item {f : List Byte} (on : n.output = some (.item f)) : n.outputEnd.inHand = n.inHand := by
  unfold NoticePort.outputEnd
  rw [on]
  exact NoticePort.feed_inHand _

/-! ### Items that enter the monitor queue (R187) -/

theorem enqueue_full (full : 16 ≤ n.monitor.length) : n.enqueue item = { n with loss := countUp n.loss } :=
  if_neg (Nat.not_lt.2 full)

theorem enqueue_waits (room : n.monitor.length < 16) (occupied : n.output ≠ none) :
    n.enqueue item = { n with monitor := n.monitor ++ [item] } :=
  (if_pos room).trans (feed_of_occupied occupied)

theorem enqueue_sent (free : n.output = none) (noReply : n.reply = none) (noItem : n.monitor = []) :
    n.enqueue item = { n with output := some (.item (frameOf 8 0 item)), monitor := [] } := by
  have room : n.monitor.length < Config.monitorSize := by rw [noItem]; decide
  refine (if_pos room).trans (feed_of_waitingItem free noReply ?_)
  rw [noItem, List.nil_append]

theorem enqueue_countsTimer (n : NoticePort) (item : List Byte) : (n.enqueue item).countsTimer = n.countsTimer := by
  unfold NoticePort.enqueue
  split
  · exact NoticePort.feed_countsTimer _
  · rfl

theorem foldl_enqueue_countsTimer (items : List (List Byte)) (n : NoticePort) :
    (items.foldl NoticePort.enqueue n).countsTimer = n.countsTimer := by
  induction items generalizing n with
  | nil => rfl
  | cons item items ih => exact (ih _).trans (enqueue_countsTimer n item)

/-- The port after items entered its queue while none could go out: the first fill the room, the rest are lost. -/
def NoticePort.queued (n : NoticePort) (items : List (List Byte)) : NoticePort :=
  { n with
    monitor := n.monitor ++ items.take (16 - n.monitor.length)
    loss := countUp^[items.length - (16 - n.monitor.length)] n.loss }

theorem queued_cons_full (full : 16 ≤ n.monitor.length) :
    ({ n with loss := countUp n.loss } : NoticePort).queued items = n.queued (item :: items) := by
  simp only [NoticePort.queued, Nat.sub_eq_zero_of_le full, Nat.sub_zero, List.take_zero, List.length_cons,
    Function.iterate_succ_apply]

theorem queued_cons_waits (room : n.monitor.length < 16) :
    ({ n with monitor := n.monitor ++ [item] } : NoticePort).queued items = n.queued (item :: items) := by
  obtain ⟨k, more⟩ : ∃ k, 16 - n.monitor.length = k + 1 := ⟨15 - n.monitor.length, by omega⟩
  have less : 16 - (n.monitor.length + 1) = k := by omega
  simp [NoticePort.queued, more, less]

/-- Items enter one by one, while the line is occupied or the queue full. -/
theorem foldl_enqueue (blocked : n.output ≠ none ∨ 16 ≤ n.monitor.length) :
    items.foldl NoticePort.enqueue n = n.queued items := by
  induction items generalizing n with
  | nil => simp [NoticePort.queued]
  | cons item items ih =>
    rw [List.foldl_cons]
    by_cases full : 16 ≤ n.monitor.length
    · rw [enqueue_full full, ← queued_cons_full full]
      exact ih (.inr full)
    · have room := Nat.not_le.1 full
      have occupied := blocked.resolve_right full
      rw [enqueue_waits room occupied, ← queued_cons_waits room]
      exact ih (.inl occupied)

/-- A count raised again and again stops at 65,535. -/
theorem countUp_iterate (k m : Nat) : countUp^[k + 1] m = min 65535 (m + (k + 1)) := by
  induction k generalizing m with
  | zero => rfl
  | succ k ih =>
    rw [Function.iterate_succ_apply, ih]
    unfold countUp satAdd countMax
    omega

theorem queued_loss_of_room (room : items.length ≤ 16 - n.monitor.length) : (n.queued items).loss = n.loss := by
  rw [NoticePort.queued, Nat.sub_eq_zero_of_le room, Function.iterate_zero_apply]

theorem queued_loss (excess : 16 - n.monitor.length < items.length) :
    (n.queued items).loss = min 65535 (n.loss + (items.length - (16 - n.monitor.length))) := by
  obtain ⟨k, more⟩ : ∃ k, items.length - (16 - n.monitor.length) = k + 1 :=
    ⟨items.length - (16 - n.monitor.length) - 1, by omega⟩
  rw [NoticePort.queued, more, countUp_iterate]

/-- On a free line with nothing waiting the first item goes out, and the others that have room wait. -/
theorem foldl_enqueue_of_idle (free : n.output = none) (noReply : n.reply = none) (noItem : n.monitor = [])
    (room : items.length ≤ 16) : (item :: items).foldl NoticePort.enqueue n =
      { n with output := some (.item (frameOf 8 0 item)), monitor := items } := by
  rw [List.foldl_cons, enqueue_sent free noReply noItem, foldl_enqueue (.inl (Option.some_ne_none _))]
  simp [NoticePort.queued, List.take_of_length_le room, Nat.sub_eq_zero_of_le room]

end

/-! ### The COUNTS and PEERS items (R187, 12.2) -/

section
variable {s : State}

theorem monitor_made (enabled : s.cfg.noticeEnable = true) (listening : s.listening = true) (item : List Byte) :
    s.monitor item = s.setNotice (s.notice.enqueue item) :=
  if_pos (by rw [enabled, listening]; rfl)

/-- Items made one after the other enter the queue of a port that is on. -/
theorem foldl_monitor (enabled : s.cfg.noticeEnable = true) (listening : s.listening = true)
    (items : List (List Byte)) : items.foldl (fun s b => s.monitor b) s =
      s.setNotice (items.foldl NoticePort.enqueue s.notice) := by
  induction items generalizing s with
  | nil => rfl
  | cons item items ih =>
    rw [List.foldl_cons, List.foldl_cons, monitor_made enabled listening]
    exact ih (s := s.setNotice _) enabled listening

theorem countsItems_eq (enabled : s.cfg.noticeEnable = true) (listening : s.listening = true) : s.countsItems =
    s.setNotice ((s.countsBody :: peerBodies 4 s.line.peers).foldl NoticePort.enqueue s.notice) :=
  foldl_monitor enabled listening (s.countsBody :: peerBodies 4 s.line.peers)

/-- The notice port with the COUNTS timer restarted. -/
def State.countsRestarted (s : State) : NoticePort := { s.notice with countsTimer := some (s.elapsed + 10000) }

/-- The timer restarts, and the COUNTS item and the PEERS items behind it enter the queue. -/
theorem exec_countsTimer (running : s.notice.countsTimer.isSome = true) (enabled : s.cfg.noticeEnable = true)
    (listening : s.listening = true) : exec .countsTimer s = .next (s.setNotice
      ((s.countsBody :: peerBodies 4 s.line.peers).foldl NoticePort.enqueue s.countsRestarted)) :=
  (if_pos running).trans (congrArg _ (countsItems_eq (s := s.setNotice s.countsRestarted) enabled listening))

/-- The PEERS item of one group of peers. -/
def peersBody (group : List Peer) : List Byte := [6, BitVec.ofNat 8 group.length] ++ group.flatMap Peer.bytes

theorem peerBodies_nil (n : Nat) : peerBodies n [] = [] := by
  cases n <;> rfl

theorem peerBodies_succ {peers : List Peer} (held : peers ≠ []) (n : Nat) :
    peerBodies (n + 1) peers = peersBody (peers.take 8) :: peerBodies n (peers.drop 8) := by
  obtain ⟨p, ps, rfl⟩ := List.exists_cons_of_ne_nil held
  rfl

theorem peerBodies_length_le (n : Nat) (peers : List Peer) : (peerBodies n peers).length ≤ n := by
  induction n generalizing peers with
  | zero => exact Nat.le_refl 0
  | succ n ih =>
    cases peers with
    | nil => exact Nat.zero_le _
    | cons p ps => exact Nat.succ_le_succ (ih _)

/-- Peers in groups of 8, the last of them holding the rest, make one PEERS item for each group. -/
theorem peerBodies_flatten {groups : List (List Peer)} {n : Nat} (fits : groups.flatten.length ≤ 8 * n)
    (sizes : ∀ g ∈ groups, 1 ≤ g.length ∧ g.length ≤ 8) (filled : ∀ g ∈ groups.dropLast, g.length = 8) :
    peerBodies n groups.flatten = groups.map peersBody := by
  induction groups generalizing n with
  | nil => exact peerBodies_nil n
  | cons g rest ih =>
    obtain ⟨some, most⟩ := sizes g List.mem_cons_self
    rw [List.flatten_cons, List.length_append] at fits
    obtain ⟨n, rfl⟩ : ∃ m, n = m + 1 := ⟨n - 1, by omega⟩
    have held : g ++ rest.flatten ≠ [] := List.append_ne_nil_of_left_ne_nil (List.ne_nil_of_length_pos some) _
    rw [List.flatten_cons, peerBodies_succ held, List.map_cons]
    cases rest with
    | nil => simp [List.take_of_length_le most, List.drop_eq_nil_of_le most, peerBodies_nil]
    | cons next others =>
      have eight : g.length = 8 := filled g List.mem_cons_self
      rw [List.take_left' eight, List.drop_left' eight, ih (by omega)
        (fun g mem => sizes g (List.mem_cons_of_mem _ mem)) fun g mem => filled g (List.mem_cons_of_mem _ mem)]

theorem peerBytes_eq (p : Peer) : p.bytes = natToBytes 1 p.station ++ [if p.live then 1 else 2] ++
    natToBytes 2 p.epoch ++ natToBytes 3 (p.high.getD 0) ++ natToBytes 2 p.gap ++
    natToBytes 2 (p.unsent.getD 65535) := by
  cases live : p.live <;> simp [Peer.bytes, live, natToBytes]

/-- The fields of a PEERS item, as 12.2 lists them. -/
theorem peersBody_eq (group : List Peer) : peersBody group =
    [6, BitVec.ofNat 8 group.length] ++ group.flatMap (fun p =>
      natToBytes 1 p.station ++ [if p.live then 1 else 2] ++ natToBytes 2 p.epoch ++
        natToBytes 3 (p.high.getD 0) ++ natToBytes 2 p.gap ++ natToBytes 2 (p.unsent.getD 65535)) :=
  congrArg (fun bytes => _ ++ group.flatMap bytes) (funext peerBytes_eq)

end

/-- Settles O59: the line's end feeds it anew; the timer's items enter the queue one by one. -/
theorem noticeOutputAndCounts : Obligations.NoticeOutputAndCounts := by
  refine ⟨fun s => ⟨_, rfl, fun _ => outputEnd_reply, fun _ => outputEnd_item, fun _ => outputEnd_of_waitingReply,
    fun _ _ => outputEnd_of_waitingItem, outputEnd_of_nothingWaiting, setNotice_only _ _⟩, ?_⟩
  rintro s groups peers _ running enabled listening held most sizes filled made rfl
  rw [held] at most
  have bodies : peers = peerBodies 4 s.line.peers := by
    rw [made, held, peerBodies_flatten most sizes filled]
    exact (List.map_congr_left fun g _ => peersBody_eq g).symm
  rw [bodies]
  have few := peerBodies_length_le 4 s.line.peers
  refine ⟨_, exec_countsTimer running enabled listening, foldl_enqueue_countsTimer _ _, fun blocked => ?_,
    fun free noReply noItem => ?_, setNotice_only _ _⟩
  · have blocked : s.countsRestarted.output ≠ none ∨ 16 ≤ s.countsRestarted.monitor.length :=
      blocked.imp_right Nat.le_of_sub_eq_zero
    rw [State.setNotice_notice, foldl_enqueue blocked, Nat.add_comm 1]
    exact ⟨rfl, fun room => queued_loss_of_room (by exact room), fun excess => queued_loss (by exact excess)⟩
  · rw [State.setNotice_notice, foldl_enqueue_of_idle (by exact free) (by exact noReply) (by exact noItem) (by omega)]
    exact ⟨rfl, rfl, rfl⟩

end Sys2Proof.Machine

namespace Sys2Proof.Machine

/-! ### A second JOURNAL SCAN command in the stage (R154, R178, 12.5) -/

section
variable {s : State} {outside : List Host.Cell}

/-- The scan is made once in its stage: cells outside the memory stop it where it is still to be made. -/
theorem exec_journalScan_noSuchAddress_iff (failed : ScanFailures) (stage : s.start.stage = .journalScan)
    (absent : cellsInMemory outside = false) :
    exec (.journalScan outside failed) s = .fault .noSuchAddress ↔ s.start.scanEnd = none := by
  show execJournalScan outside failed s = _ ↔ _
  unfold execJournalScan
  by_cases due : s.start.scanEnd = none
  · simp [stage, due, absent]
  · simp [due]

/-- A scan in which every read succeeds. -/
def allScanReadsGood : ScanFailures := ⟨false, [], ⟨false, false⟩⟩

/-- JOURNAL SCAN over a blank memory, the scan still to be made. -/
def blankScanDue : State := { State.reset with start := { StartCtl.reset with stage := .journalScan } }

/-- The same stage once the scan is made: it waits for the writes of the formatting (R154). -/
def blankScanMade : State := blankScanDue.runScan allScanReadsGood

theorem exec_journalScan_blankScanDue : exec (.journalScan [] allScanReadsGood) blankScanDue = .next blankScanMade :=
  exec_journalScan (s := blankScanDue) rfl rfl rfl

theorem blankScanMade_waits :
    blankScanMade.start.stage = .journalScan ∧ blankScanMade.start.scanEnd = some ⟨0, ⟨0, 0⟩⟩ := by
  decide +kernel

end

/-- Refutes O19 in its third clause: a JOURNAL SCAN taken over a blank memory leaves the stage waiting for the header
write, and a second one there is passed over whatever its operand, the first address past the end (4,195,584) too. -/
theorem not_outsideCellsMustExist : ¬ Obligations.OutsideCellsMustExist := by
  intro holds
  obtain ⟨stage, made⟩ := blankScanMade_waits
  have absent : cellsInMemory [(4195584, 1)] = false := by decide
  obtain ⟨-, -, scan, -, -⟩ := holds [(4195584, 1)] blankScanMade absent
  have due := (exec_journalScan_noSuchAddress_iff allScanReadsGood stage absent).1 (scan allScanReadsGood stage)
  rw [made] at due
  cases due

end Sys2Proof.Machine
